-- ==== Sys2Proof/Word.lean ====
section
/-! DEFINITION. The two word types of the Penhaft 7302: the byte the two buses and the SPI frames carry,
and the 32-bit word of addresses, items, epoch numbers, sequence numbers and generations (R1, R106, R162). -/

namespace Sys2Proof

/-- One byte of a line, a record, an anchor copy or a frame. -/
abbrev Byte := BitVec 8

/-- A 32-bit word: an address, an item, an epoch number, a sequence number, a generation or a ring id. -/
abbrev Word := BitVec 32

end Sys2Proof
end

