-- ==== Sys2Proof/Config.lean ====
section
/-! DEFINITION. The sizes and limits the manual fixes for the part. The manual calls no value of this part
undefined or implementation-defined, so there is no free value here (log entry 24). -/

namespace Sys2Proof.Config

/-- The hold queue holds at most 16 entries (R38). -/
def holdPlaces : Nat := 16

/-- The line tag table has 256 entries (R54). -/
def tagPlaces : Nat := 256

/-- The memory queue holds at most 16 entries (R107). -/
def memoryPlaces : Nat := 16

/-- At most 4 memory requests are outstanding (R108). -/
def maxOutstanding : Nat := 4

/-- The memory answer limit, in µs (R115). -/
def answerLimit : Nat := 2048

/-- The error log holds at most 8 entries (R167). -/
def logPlaces : Nat := 8

/-- A capture starts only when free space is above this reserve (R25). -/
def captureReserve : Nat := 2

/-- Bytes in a line. -/
def lineBytes : Nat := 64

/-- Bytes in a ring slot: the head line, then the body line (R20). -/
def slotBytes : Nat := 128

/-- Bytes in a page; window bases and the journal base are page-aligned (R20, R124). -/
def pageBytes : Nat := 4096

/-- Bytes in the anchor region (R135). -/
def anchorBytes : Nat := 256

/-- Pages in the 32-bit address space (R123). -/
def addressPages : Nat := 1048576

/-- The least journal slots value of a valid working configuration (R20). -/
def minSlots : Nat := 16

/-- The greatest journal slots value and the greatest watermark (R20, R143). -/
def maxSlots : Nat := 1048576

/-- The signature of a record head line (R22). -/
def recordSignature : BitVec 16 := 0x7A4C#16

/-- The signature of an anchor copy (R137). -/
def anchorSignature : BitVec 16 := 0x5048#16

/-- The base of the anchor region that the straps ANCHOR_SEL[1:0] select (R135). -/
def anchorBase (sel : BitVec 2) : Word :=
  if sel = 0#2 then 0x00000000#32
  else if sel = 1#2 then 0x00100000#32
  else if sel = 2#2 then 0x40000000#32
  else 0xFFFFFF00#32

end Sys2Proof.Config
end

