-- ==== Sys2Proof/Syntax.lean ====
section
/-! DEFINITION. The commands of the block: one constructor for each row of spec/opcode_table.json, in the
table's order, with the operands the row's event carries in from outside the part. -/

namespace Sys2Proof

/-- The memory's answer to a READ: DONE with the bytes of the line, or FAULT, which carries no data (R106). -/
inductive ReadAnswer where
  | done (data : List Byte)
  | fault
deriving DecidableEq, Repr

/-- The memory's answer to a WRITE (R106). -/
inductive WriteAnswer where
  | done
  | fault
deriving DecidableEq, Repr

/-- The kind of an answer on the memory bus, which must fit the kind of the request (R108). -/
inductive AnswerKind where
  | read
  | write
deriving DecidableEq, Repr

/-- The commands, one per row of the table. A frame of the management port arrives as one command with the
parts of its request: item address, word count or data words (R159). -/
inductive Instr where
  /-- HOST_READ_REQUEST: a host read of `length` bytes at `address` from `requester` (R119, R127). -/
  | hostReadRequest (requester : BitVec 4) (address : Word) (length : Nat)
  /-- HOST_WRITE_REQUEST: a host write of the bytes `data` at `address` (R119, R40). -/
  | hostWriteRequest (requester : BitVec 4) (address : Word) (data : List Byte)
  /-- WAITING_WRITE_TAKEN: the write in PLACE-WAIT is taken into a freed place (R43). -/
  | waitingWriteTaken
  /-- LINE_WAIT_CLEARED: the hold queue reports that no entry targets `line` any longer (R49). -/
  | lineWaitCleared (line : Word)
  /-- HOST_WAIT_LIMIT_EXPIRY: the host wait limit runs out on the current request (R126). -/
  | hostWaitLimitExpiry
  /-- DEFERRED_DISCARD_LIMIT_EXPIRY: the age of the READY entry in `slot` reaches the discard limit (R133). -/
  | deferredDiscardLimitExpiry (slot : Fin 4)
  /-- CAPTURE_START: the oldest eligible entry is offered to the capture unit (R61). -/
  | captureStart
  /-- HOLD_RELEASE: the arbiter grants the READY head entry of the hold queue (R47). -/
  | holdRelease
  /-- HOST_READ_GRANT: the arbiter grants the current host read (R127). -/
  | hostReadGrant
  /-- DEFERRED_FETCH_GRANT: the arbiter grants a deferred fetch (R131). -/
  | deferredFetchGrant
  /-- CAPTURE_READ_GRANT: the arbiter grants the front of the read list (R62). -/
  | captureReadGrant
  /-- RECORD_WRITE_GRANT: the arbiter grants the front of the record write list (R29). -/
  | recordWriteGrant
  /-- ANCHOR_LINE_GRANT: the arbiter grants an anchor read at LOADING or an anchor line write (R140). -/
  | anchorLineGrant
  /-- REPLAY_REQUEST_GRANT: the arbiter grants the replay engine's request (R110). -/
  | replayRequestGrant
  /-- MEMORY_ISSUE: the oldest WAITING entry is issued on the memory bus (R108). -/
  | memoryIssue
  /-- UNEXPECTED_MEMORY_ANSWER: an answer of `kind` that no request, or no request of its kind, awaits (R108). -/
  | unexpectedMemoryAnswer (kind : AnswerKind)
  /-- HOST_READ_ANSWER: the answer to a HOST-READ entry (R127). -/
  | hostReadAnswer (answer : ReadAnswer)
  /-- DEFERRED_FETCH_ANSWER: the answer to a DEFERRED-FETCH entry (R131). -/
  | deferredFetchAnswer (answer : ReadAnswer)
  /-- DATA_WRITE_ANSWER: the answer to a released JOURNAL data write (R12). -/
  | dataWriteAnswer (answer : WriteAnswer)
  /-- PASS_WRITE_ANSWER: the answer to a PASS data write (R114). -/
  | passWriteAnswer (answer : WriteAnswer)
  /-- CAPTURE_READ_DONE: a capture read that is not cancelled is answered DONE with `data` (R63). -/
  | captureReadDone (data : List Byte)
  /-- CAPTURE_READ_FAULT: a capture read that is not cancelled is answered FAULT (R65). -/
  | captureReadFault
  /-- CANCELLED_READ_ANSWER: the answer to a capture read that an ABORT cancelled (R67). -/
  | cancelledReadAnswer (answer : ReadAnswer)
  /-- RECORD_HEAD_ACK: the head write of a record is answered DONE (R30). -/
  | recordHeadAck
  /-- RECORD_WRITE_FAULT: a record write is answered FAULT (R30). -/
  | recordWriteFault
  /-- AUTO_COMMIT_AGE_EXPIRY: the OPEN epoch's age reaches its latched limit (R83). -/
  | autoCommitAgeExpiry
  /-- ANCHOR_UPDATE_ANSWER: the second line of an anchor update is answered (R141). -/
  | anchorUpdateAnswer (answer : WriteAnswer)
  /-- STORE_ANSWER: the second line of a STORE is answered (R144). -/
  | storeAnswer (answer : WriteAnswer)
  /-- ANCHOR_READ_ANSWER: an anchor read at LOADING is answered (R138). -/
  | anchorReadAnswer (answer : ReadAnswer)
  /-- REPLAY_READ_ANSWER: the body read of a walk or scan slot is answered (R92). -/
  | replayReadAnswer (answer : ReadAnswer)
  /-- RESTORE_WRITE_ANSWER: a restore write is answered (R93). -/
  | restoreWriteAnswer (answer : WriteAnswer)
  /-- MEMORY_TIMEOUT: the oldest ISSUED request is not answered within 2,048 µs (R115). -/
  | memoryTimeout
  /-- READ: a READ frame (R163). -/
  | read (item : BitVec 16) (count : Byte)
  /-- COUNTER_SNAPSHOT: a READ frame that covers counters (R170). -/
  | counterSnapshot (item : BitVec 16) (count : Byte)
  /-- WRITE: a WRITE frame; its word count is the number of its data words (R164). -/
  | write (item : BitVec 16) (words : List Word)
  /-- EVENT_FLAGS_WRITE: a WRITE frame of one word to the event flags item (R165). -/
  | eventFlagsWrite (value : Word)
  /-- EVENT_ENABLES_WRITE: a WRITE frame of one word to the event enables item (R166). -/
  | eventEnablesWrite (value : Word)
  /-- PENDING_CONFIG_WRITE: a WRITE frame to pending configuration items (R142). -/
  | pendingConfigWrite (item : BitVec 16) (words : List Word)
  /-- COMMIT: the COMMIT command (R72). -/
  | commit (item : BitVec 16) (count : Byte)
  /-- ABORT: the ABORT command (R87). -/
  | abort (item : BitVec 16) (count : Byte)
  /-- QUIESCE: the QUIESCE command (R148). -/
  | quiesce (item : BitVec 16) (count : Byte)
  /-- RESUME: the RESUME command (R151). -/
  | resume (item : BitVec 16) (count : Byte)
  /-- BYPASS: the BYPASS command (R153). -/
  | bypass (item : BitVec 16) (count : Byte)
  /-- STORE: the STORE command (R143). -/
  | store (item : BitVec 16) (count : Byte)
  /-- ERROR_POP: the ERROR-POP command (R168). -/
  | errorPop (item : BitVec 16) (count : Byte)
  /-- TAG_PROBE: the TAG-PROBE command; its word count is the number of its data words (R71). -/
  | tagProbe (item : BitVec 16) (words : List Word)
  /-- BAD_FRAME: a frame with a bad request CRC-8 or an unknown command code (R160). -/
  | badFrame
  /-- FRAME_DISCARDED: CS# rises before the request CRC-8 has arrived (R160). -/
  | frameDiscarded
  /-- PFI_ASSERT: PFI# is asserted (R156). -/
  | pfiAssert
  /-- PFI_DEASSERT: PFI# is deasserted (R157). -/
  | pfiDeassert
  /-- RESET_ASSERT: RESET# is asserted (R158). -/
  | resetAssert
  /-- RESET_RELEASE: RESET# is released with the straps at `straps`; `csLow` says whether CS# is low then
  (R135, R158, R160). -/
  | resetRelease (straps : BitVec 2) (csLow : Bool)
  /-- RECORD_BODY_ACK: the body write of a LINE record is answered DONE (R64). -/
  | recordBodyAck
  /-- ANCHOR_LINE_ANSWER: the first line write of an anchor update or a STORE is answered (R141). -/
  | anchorLineAnswer (answer : WriteAnswer)
  /-- REPLAY_HEAD_READ_ANSWER: the head-line read of a walk or scan slot is answered (R92). -/
  | replayHeadReadAnswer (answer : ReadAnswer)
deriving DecidableEq, Repr

end Sys2Proof
end

