-- ==== Sys2Proof/Decode.lean ====
section
/-! DEFINITION. The decoder over the rows of spec/opcode_table.json that give bits. No row of this block's table
gives bits (every row's "fields" is empty), so no word spells a command. The decoding of the frames of the
management port, which the spec does give bytes for (R159, R174), is Sys2Proof/Machine/Frames.lean. -/

namespace Sys2Proof

/-- The command that an instruction word of the table spells: none, since no row gives bits (log entry 25). -/
def decodeTableWord (_nbits _w : Nat) : Option Instr := none

end Sys2Proof
end

