-- ==== Sys2Proof/Machine/State.lean ====
section
/-! DEFINITION. The state of the Penhaft 7302 as plain data, one structure for each block of the part
(About This Manual, 1.3), the reasons a step can stop, and the state right after reset. Times are values
of the 1 µs tick. -/

namespace Sys2Proof.Machine

/-! ### The configuration (R123, R137, R175) -/

/-- One window of a configuration as its items hold it (R175); the page count is kept less 1. -/
structure Window where
  enable : Bool
  base : BitVec 20
  countLessOne : BitVec 20
  mode : BitVec 2
deriving DecidableEq, Repr

/-- The configuration items of R137, each field with the bits its item holds (R175). The pending
configuration keeps them whether or not they are in range (R142). -/
structure Configuration where
  basePage : Word
  slots : Word
  startMode : BitVec 2
  defaultMode : BitVec 2
  fullPolicy : BitVec 2
  waitLimit : BitVec 8
  discardLimit : Word
  threshold : BitVec 16
  ageLimit : BitVec 16
  watermark : Word
  windows : Vector Window 8
deriving DecidableEq, Repr

/-- A disabled window (R139). -/
def Window.disabled : Window := ⟨false, 0#20, 0#20, 0#2⟩

/-- The no-anchor defaults (R139). -/
def Configuration.noAnchor : Configuration where
  basePage := 0#32
  slots := 0#32
  startMode := 0#2
  defaultMode := 0#2
  fullPolicy := 0#2
  waitLimit := 16#8
  discardLimit := 256#32
  threshold := 0#16
  ageLimit := 0#16
  watermark := 64#32
  windows := #v[.disabled, .disabled, .disabled, .disabled, .disabled, .disabled, .disabled, .disabled]

/-! ### The mode controller (R146) -/

/-- The operating mode (R146). -/
inductive Mode where
  | loading
  | recovering
  | bypass
  | active
  | quiescing
  | quiesced
  | halted
deriving DecidableEq, Repr

/-- The cause (R146). -/
inductive Cause where
  | none
  | noAnchor
  | recordWriteFault
  | replayFault
  | replayCheck
  | memoryTimeout
  | ringExhausted
deriving DecidableEq, Repr

/-- The mode controller (R146). -/
structure ModeController where
  mode : Mode
  cause : Cause
  freeze : Bool
deriving DecidableEq, Repr

/-- The input lines as the part sees them, the sampled straps and the 1 µs tick (R13, R135, R146, R158, R160). -/
structure Pins where
  /-- RESET# is asserted. -/
  inReset : Bool
  /-- PFI# is asserted. -/
  pfi : Bool
  /-- ANCHOR_SEL[1:0] as sampled at the end of reset. -/
  straps : BitVec 2
  /-- The 1 µs tick. -/
  now : Nat
deriving DecidableEq, Repr

/-! ### The epoch controller (R2, R3, R75, R84, R85) -/

/-- The state of a live epoch (R3); `opened` is the manual's OPEN. -/
inductive EpochState where
  | opened
  | committing
  | failed
  | rollingBack
deriving DecidableEq, Repr

/-- One entry of the live epoch table (R3). -/
structure LiveEpoch where
  number : Word
  state : EpochState
  damaged : Bool
  lines : Nat
  firstSlot : Option Nat
  firstTime : Option Nat
  held : Nat
  out : Nat
  threshold : BitVec 16
  ageLimit : BitVec 16
deriving DecidableEq, Repr

/-- The live epoch table: two entries, each empty or holding an epoch (R3). -/
structure EpochTable where
  entry0 : Option LiveEpoch
  entry1 : Option LiveEpoch
deriving DecidableEq, Repr

/-- The purpose of a commit sequence (R75). -/
inductive CommitPurpose where
  | commit
  | quiesce
deriving DecidableEq, Repr

/-- The phase of a commit sequence; MARKER-WRITING keeps the marker slot and sequence (R75). -/
inductive CommitPhase where
  | draining
  | markerWriting (slot : Nat) (sequence : Word)
  | anchorWait
deriving DecidableEq, Repr

/-- An active commit sequence (R75). -/
structure CommitSequence where
  epoch : Word
  purpose : CommitPurpose
  phase : CommitPhase
deriving DecidableEq, Repr

/-- The epoch controller: closed-through, the live epoch table, the commit sequence, the held-trigger
indication and the full request (R2, R3, R75, R84, R85). -/
structure EpochController where
  closedThrough : Word
  table : EpochTable
  commit : Option CommitSequence
  heldTrigger : Bool
  fullRequest : Bool
deriving DecidableEq, Repr

/-! ### The ring manager (R22, R23, R29) -/

/-- The kind of a record (R21). -/
inductive RecordKind where
  | line
  | commit
  | close
deriving DecidableEq, Repr

/-- What a record write needs to take its answer back: kind, epoch, line address of a LINE record, ring slot
and sequence (R30, R107). -/
structure RecordInfo where
  kind : RecordKind
  epoch : Word
  line : Option Word
  slot : Nat
  sequence : Word
deriving DecidableEq, Repr

/-- One line write of the record write list (R29). -/
structure RecordWrite where
  info : RecordInfo
  isHead : Bool
  address : Word
  data : List Byte
deriving DecidableEq, Repr

/-- The ring manager: the ring state of R23 and the record write list of R29. -/
structure RingManager where
  head : Nat
  headSequence : Word
  tail : Nat
  tailSequence : Word
  ringId : Word
  used : Nat
  promised : Nat
  lowSpace : Bool
  blocked : Bool
  writes : List RecordWrite
deriving DecidableEq, Repr

/-! ### The hold queue (R38) -/

/-- The class of a hold entry; a JOURNAL entry carries its stamp and window index (R38). -/
inductive HoldClass where
  | pass
  | journal (epoch : Word) (window : Fin 8)
deriving DecidableEq, Repr

/-- The state of a hold entry (R38). -/
inductive HoldState where
  | ready
  | waitCapture
  | needsCapture
deriving DecidableEq, Repr

/-- The line and epoch that name a tag table entry (R54). -/
structure TagKey where
  line : Word
  epoch : Word
deriving DecidableEq, Repr

/-- One taken host write (R38); its length is the length of `data`. `id` is the model's own name for it. -/
structure HoldEntry where
  id : Nat
  cls : HoldClass
  line : Word
  offset : Nat
  data : List Byte
  state : HoldState
  tag : Option TagKey
  capture : Option (Fin 4)
deriving DecidableEq, Repr

/-- The hold queue, head first; `nextId` is the model's own supply of names. -/
structure HoldQueue where
  entries : List HoldEntry
  nextId : Nat
deriving DecidableEq, Repr

/-! ### The capture unit (R54, R60, R62) -/

/-- The state of a tag table entry, with the fields present in it (R54). -/
inductive TagState where
  | capturing (owner : Option Nat) (capture : Option (Fin 4))
  | saved
deriving DecidableEq, Repr

/-- A tag table entry in use (R54). -/
structure TagEntry where
  key : TagKey
  state : TagState
deriving DecidableEq, Repr

/-- The state of a busy capture slot, with the fields present in it (R60). -/
inductive CapturePhase where
  | reading (cancelled : Bool)
  | writing (contents : List Byte) (slot : Nat) (sequence : Word)
deriving DecidableEq, Repr

/-- A capture carried by a capture slot (R60). -/
structure Capture where
  line : Word
  epoch : Word
  window : Fin 8
  hold : Option Nat
  tag : Option TagKey
  phase : CapturePhase
deriving DecidableEq, Repr

/-- The capture unit: the tag table entries in use, the four capture slots (`none` is IDLE) and the read
list, which names capture slots (R54, R60, R62). -/
structure CaptureUnit where
  tags : List TagEntry
  slots : Vector (Option Capture) 4
  reads : List (Fin 4)
deriving DecidableEq, Repr

/-! ### The replay engine (R89, R92, R98) -/

/-- A request of the replay engine (R92, R93). -/
inductive ReplayRequest where
  | readHead (slot : Nat)
  | readBody (slot : Nat)
  | restore (slot : Nat) (epoch : Word) (line : Word) (data : List Byte)
deriving DecidableEq, Repr

/-- The walk of a rollback or of a recovery's RESTORING phase (R89, R98). -/
structure Walk where
  cursor : Nat
  sequence : Word
  left : Nat
  outstanding : Nat
deriving DecidableEq, Repr

/-- The phase of a rollback sequence, with the fields present in it (R89). -/
inductive RollbackPhase where
  | settling (capturesSettled : Bool) (epochsDrained : Bool)
  | walking (walk : Walk)
  | closing (slot : Nat) (sequence : Word)
deriving DecidableEq, Repr

/-- An active rollback sequence (R89). -/
structure Rollback where
  phase : RollbackPhase
  highest : Word
deriving DecidableEq, Repr

/-- The phase of a recovery sequence, with the fields present in it (R98). -/
inductive RecoveryPhase where
  | scanning (index : Nat)
  | restoring (walk : Walk)
  | closing
  | anchoring
deriving DecidableEq, Repr

/-- An active recovery sequence (R98). -/
structure Recovery where
  phase : RecoveryPhase
  ringId : Word
  runLength : Option Nat
  lastMarker : Option Word
  cutoff : Option Word
  highest : Option Word
  recoveredThrough : Option Word
deriving DecidableEq, Repr

/-- The replay engine: its two sequences, the requests it has made and not yet had granted in the order it
makes them, and the head line it keeps until the body read is answered (R89, R92, R98). -/
structure ReplayEngine where
  rollback : Option Rollback
  recovery : Option Recovery
  requests : List ReplayRequest
  headLine : Option (List Byte)
deriving DecidableEq, Repr

/-! ### The memory port (R107, R111) -/

/-- Anchor copy A or B (R135). -/
inductive Copy where
  | a
  | b
deriving DecidableEq, Repr

/-- Who awaits the answer to a HOST-READ entry: the current request, the deferred entry the read became,
or nobody (R113, R130). -/
inductive ReadOwner where
  | current
  | slot (slot : Fin 4)
  | abandoned
deriving DecidableEq, Repr

/-- The source of a memory queue entry with its owner detail (R107). -/
inductive Source where
  | hostRead (requester : BitVec 4) (owner : ReadOwner)
  | deferredFetch (slot : Fin 4) (abandoned : Bool)
  | holdRelease (epoch : Option Word)
  | captureRead (slot : Fin 4)
  | recordWrite (info : RecordInfo) (isHead : Bool)
  | anchorRead (copy : Copy) (second : Bool)
  | anchorWrite (copy : Copy) (second : Bool)
  | replayRead (slot : Nat) (isHead : Bool)
  | restoreWrite (slot : Nat) (epoch : Word)
deriving DecidableEq, Repr

/-- An entry of the memory queue (R107). `issued` holds the issue time of an ISSUED entry and is `none` in
a WAITING one. A READ carries no data. -/
structure MemoryEntry where
  source : Source
  line : Word
  offset : Nat
  length : Nat
  data : List Byte
  issued : Option Nat
deriving DecidableEq, Repr

/-- The side the turn indication of the fifth level names (R111). -/
inductive Turn where
  | host
  | hold
deriving DecidableEq, Repr

/-- The memory port: the memory queue, oldest first, and the turn indication (R107, R111). -/
structure MemoryPort where
  queue : List MemoryEntry
  turn : Turn
deriving DecidableEq, Repr

/-! ### The host port (R119, R120, R129) -/

/-- The kind of a host request (R119). -/
inductive RequestKind where
  | read
  | write
deriving DecidableEq, Repr

/-- The class a request is given (R124). -/
inductive AccessClass where
  | pass
  | journal
  | readonly
deriving DecidableEq, Repr

/-- The wait states of the current host request (R119); SLOT-WAIT names the deferred slot waited on. -/
inductive WaitState where
  | placeWait
  | lineWait
  | grantWait
  | memoryWait
  | slotWait (slot : Fin 4)
deriving DecidableEq, Repr

/-- The current host request (R119). -/
structure HostRequest where
  kind : RequestKind
  requester : BitVec 4
  address : Word
  line : Word
  offset : Nat
  length : Nat
  data : List Byte
  cls : AccessClass
  window : Option (Fin 8)
  arrival : Nat
  wait : WaitState
deriving DecidableEq, Repr

/-- The fetch stage of a FETCHING deferred entry (R129). -/
inductive FetchStage where
  | lineWait
  | grantWait
  | inQueue
deriving DecidableEq, Repr

/-- The state of a deferred entry, with the fields present in it (R129). -/
inductive DeferredState where
  | fetching (stage : FetchStage)
  | ready (data : List Byte) (age : Nat)
deriving DecidableEq, Repr

/-- A deferred entry (R129). -/
structure Deferred where
  requester : BitVec 4
  line : Word
  offset : Nat
  length : Nat
  state : DeferredState
deriving DecidableEq, Repr

/-- The kinds of a FAULT answer on the host bus (R120). -/
inductive FaultKind where
  | boundary
  | guarded
  | readonly
  | halted
  | memory
deriving DecidableEq, Repr

/-- An answer on the host bus (R120); DONE to a WRITE carries no bytes. -/
inductive HostAnswer where
  | done (data : List Byte)
  | retry
  | fault (kind : FaultKind)
deriving DecidableEq, Repr

/-- The host port: the current request, the four deferred slots (`none` is free), and the answer last given
on the host bus (the model's own view of that output, log entry 19). -/
structure HostPort where
  current : Option HostRequest
  deferred : Vector (Option Deferred) 4
  answer : Option HostAnswer
deriving DecidableEq, Repr

/-! ### The anchor unit (R136, R138) -/

/-- The answer of one line of an anchor write: DONE, FAULT, or FAULT marked as a timeout (R115, R136). -/
inductive LineAnswer where
  | done
  | fault
  | timedOut
deriving DecidableEq, Repr

/-- What kind of anchor write is in flight: an UPDATE with the tail it carries, which says too whether it ends
a recovery, or a STORE with the configuration it writes (R31, R34, R136, R144). -/
inductive AnchorWriteKind where
  | update (tail : Nat) (tailSequence : Word) (endsRecovery : Bool)
  | store (configuration : Configuration)
deriving DecidableEq, Repr

/-- The anchor write in flight (R136): `granted` lines of it have been granted, and `first` is the answer of
its first line. -/
structure AnchorWrite where
  kind : AnchorWriteKind
  target : Copy
  generation : Word
  bytes : List Byte
  granted : Nat
  first : Option LineAnswer
deriving DecidableEq, Repr

/-- The anchor reads at LOADING: how many of the four have been granted, and the answers taken so far,
oldest first, a FAULT as `none` (R138). -/
structure Loading where
  granted : Nat
  answers : List (Option (List Byte))
deriving DecidableEq, Repr

/-- The anchor unit (R136, R138). -/
structure AnchorUnit where
  working : Configuration
  current : Option Copy
  generation : Word
  stale : Bool
  pendingUpdate : Bool
  write : Option AnchorWrite
  loading : Option Loading
deriving DecidableEq, Repr

/-! ### The management port (R161, R164 to R170) -/

/-- The status values of a response (R161). -/
inductive Status where
  | ok
  | busy
  | mode
  | damaged
  | badConfig
  | badItem
  | badFrame
  | locked
deriving DecidableEq, Repr

/-- A response part: the status and the data words (R161). -/
structure Response where
  status : Status
  words : List Word
deriving DecidableEq, Repr

/-- The kinds of an error log entry (R167). -/
inductive ErrorKind where
  | captureReadFault
  | dataWriteFault
  | passWriteFault
  | recordWriteFault
  | anchorWriteFault
  | replayFault
  | replayCheck
  | memoryTimeout
  | ringExhausted
deriving DecidableEq, Repr

/-- An entry of the error log (R167). -/
structure ErrorEntry where
  kind : ErrorKind
  epoch : Option Word
  line : Option Word
  slot : Option Nat
  mode : Mode
deriving DecidableEq, Repr

/-- The management port: pending configuration, event flags and enables, IRQ# (`irq` says it is driven low),
error log, counters in the order of R169, the clear-on-read flag, whether the port waits for CS# to rise
(R160), and the response part last sent, none once a frame or RESET# has ended it (log entry 18). -/
structure ManagementPort where
  pending : Configuration
  flags : BitVec 14
  enables : BitVec 14
  irq : Bool
  log : List ErrorEntry
  overflow : Bool
  counters : Vector Word 13
  clearOnRead : Bool
  awaitsDeselect : Bool
  response : Option Response
deriving DecidableEq, Repr

/-! ### The whole state -/

/-- The state of the part: the queue of commands that wait, and the blocks. -/
structure State where
  pending : List Instr
  pins : Pins
  modes : ModeController
  epochs : EpochController
  ring : RingManager
  hold : HoldQueue
  capture : CaptureUnit
  replay : ReplayEngine
  memory : MemoryPort
  host : HostPort
  anchor : AnchorUnit
  management : ManagementPort
deriving DecidableEq, Repr

/-- No step of this machine faults: the manual gives every row of the table an effect, and a command whose
event cannot occur changes nothing (log entries 2 and 24). -/
inductive Fault where
deriving DecidableEq, Repr

/-- The reasons a command has no meaning. -/
inductive Refusal where
  /-- Raised by `exec` for a row that has no meaning yet; safe. No arm raises it. -/
  | notModelled (mnemonic : String)
deriving DecidableEq, Repr

/-! ### One setter per block -/

def State.setPins (s : State) (x : Pins) : State := { s with pins := x }
def State.setModes (s : State) (x : ModeController) : State := { s with modes := x }
def State.setEpochs (s : State) (x : EpochController) : State := { s with epochs := x }
def State.setRing (s : State) (x : RingManager) : State := { s with ring := x }
def State.setHold (s : State) (x : HoldQueue) : State := { s with hold := x }
def State.setCapture (s : State) (x : CaptureUnit) : State := { s with capture := x }
def State.setReplay (s : State) (x : ReplayEngine) : State := { s with replay := x }
def State.setMemory (s : State) (x : MemoryPort) : State := { s with memory := x }
def State.setHost (s : State) (x : HostPort) : State := { s with host := x }
def State.setAnchor (s : State) (x : AnchorUnit) : State := { s with anchor := x }
def State.setManagement (s : State) (x : ManagementPort) : State := { s with management := x }

/-! ### Reset -/

/-- The state after RESET# is released with PFI# at level `pfi`, the straps at `straps` and CS# low when
`csLow` (R3, R23, R39, R54, R60, R89, R98, R118, R119, R129, R135, R136, R146, R158, R160, R165 to R170).
The tick starts at 0 (log entry 4). -/
def State.afterReset (pfi : Bool) (straps : BitVec 2) (csLow : Bool) (pending : List Instr) : State where
  pending := pending
  pins := { inReset := false, pfi := pfi, straps := straps, now := 0 }
  modes := { mode := .loading, cause := .none, freeze := pfi }
  epochs :=
    { closedThrough := 0#32, table := ⟨none, none⟩, commit := none, heldTrigger := false, fullRequest := false }
  ring :=
    { head := 0, headSequence := 0#32, tail := 0, tailSequence := 0#32, ringId := 0#32, used := 0, promised := 0,
      lowSpace := false, blocked := false, writes := [] }
  hold := { entries := [], nextId := 0 }
  capture := { tags := [], slots := #v[none, none, none, none], reads := [] }
  replay := { rollback := none, recovery := none, requests := [], headLine := none }
  memory := { queue := [], turn := .host }
  host := { current := none, deferred := #v[none, none, none, none], answer := none }
  anchor :=
    { working := .noAnchor, current := none, generation := 0#32, stale := false, pendingUpdate := false,
      write := none, loading := some { granted := 0, answers := [] } }
  management :=
    { pending := .noAnchor, flags := 0#14, enables := 0#14, irq := false, log := [], overflow := false,
      counters := #v[0#32, 0#32, 0#32, 0#32, 0#32, 0#32, 0#32, 0#32, 0#32, 0#32, 0#32, 0#32, 0#32],
      clearOnRead := false, awaitsDeselect := csLow, response := none }

/-- The machine right after reset, with PFI# and CS# deasserted and the straps at 0 (log entry 3). -/
def State.reset : State := State.afterReset false 0#2 false []

end Sys2Proof.Machine
end

