-- ==== Sys2Proof/Machine/Flags.lean ====
section
/-! DEFINITION. The event flags and IRQ# (R165, R166), the statistics counters (R169), and the error log (R167). -/

namespace Sys2Proof.Machine

/-! ### Events -/

/-- The 14 events (R165). -/
inductive Event where
  | commitDone
  | commitFailed
  | rollbackDone
  | recoveryDone
  | noAnchor
  | storeDone
  | storeFailed
  | journalLow
  | journalFull
  | epochDamaged
  | quiesced
  | anchorStale
  | halted
  | errorLogged
deriving DecidableEq, Repr

/-- The bit of an event in the event flags and enables items (R175). -/
def Event.bit : Event → Nat
  | .commitDone => 0
  | .commitFailed => 1
  | .rollbackDone => 2
  | .recoveryDone => 3
  | .noAnchor => 4
  | .storeDone => 5
  | .storeFailed => 6
  | .journalLow => 7
  | .journalFull => 8
  | .epochDamaged => 9
  | .quiesced => 10
  | .anchorStale => 11
  | .halted => 12
  | .errorLogged => 13

/-- The event flags word with one flag set. -/
def Event.mask (e : Event) : BitVec 14 := BitVec.twoPow 14 e.bit

/-- IRQ# is driven low while at least one flag is set with its enable set (R166). -/
def irqLevel (flags enables : BitVec 14) : Bool := decide (flags &&& enables ≠ 0#14)

/-- Change the event flags; IRQ# is recomputed (R166). -/
def ManagementPort.setFlags (m : ManagementPort) (flags : BitVec 14) : ManagementPort :=
  { m with flags := flags, irq := irqLevel flags m.enables }

/-- Change the event enables; IRQ# is recomputed (R166). -/
def ManagementPort.setEnables (m : ManagementPort) (enables : BitVec 14) : ManagementPort :=
  { m with enables := enables, irq := irqLevel m.flags enables }

/-- Raise an event: its flag becomes, or stays, set (R165). -/
def raise (e : Event) (s : State) : State :=
  s.setManagement (s.management.setFlags (s.management.flags ||| e.mask))

/-! ### Counters -/

/-- The 13 statistics counters, in the order of the table of R169. -/
inductive Counter where
  | hostReads
  | hostWrites
  | retries
  | faults
  | captures
  | tagHits
  | tagFullMisses
  | records
  | commits
  | rollbacks
  | deferredServed
  | deferredDiscarded
  | holdFullWaits
deriving DecidableEq, Repr

/-- The place of a counter in the table of R169. -/
def Counter.index : Counter → Fin 13
  | .hostReads => 0
  | .hostWrites => 1
  | .retries => 2
  | .faults => 3
  | .captures => 4
  | .tagHits => 5
  | .tagFullMisses => 6
  | .records => 7
  | .commits => 8
  | .rollbacks => 9
  | .deferredServed => 10
  | .deferredDiscarded => 11
  | .holdFullWaits => 12

/-- One more, saturating at 4,294,967,295 (R169). -/
def saturatingSucc (w : Word) : Word := if w = 0xFFFFFFFF#32 then w else w + 1#32

/-- The value of a counter. -/
def State.counter (s : State) (c : Counter) : Word := s.management.counters[c.index]

/-- A counter rises by one (R169). -/
def bump (c : Counter) (s : State) : State :=
  s.setManagement
    { s.management with
      counters := s.management.counters.set c.index (saturatingSucc s.management.counters[c.index]) }

/-! ### The error log -/

/-- An entry joins the log, or, with 8 entries there, the overflow indication is set (R167). -/
def ManagementPort.appendError (m : ManagementPort) (e : ErrorEntry) : ManagementPort :=
  if m.log.length < Config.logPlaces then { m with log := m.log ++ [e] } else { m with overflow := true }

/-- Report an error with the mode as it stands; ERROR-LOGGED is raised in both cases (R167). -/
def logError (kind : ErrorKind) (epoch line : Option Word) (slot : Option Nat) (s : State) : State :=
  raise .errorLogged
    (s.setManagement
      (s.management.appendError { kind := kind, epoch := epoch, line := line, slot := slot, mode := s.modes.mode }))

end Sys2Proof.Machine
end

