-- ==== Sys2Proof/Machine/Bits.lean ====
section
/-! DEFINITION. Serial order (R1), the byte order of memory structures and of frames, and the two checks (R171). -/

namespace Sys2Proof.Machine

/-! ### Serial order -/

/-- `a` is after `b`: (a − b) mod 2^32 lies in 1 … 2^31 − 1 (R1). -/
def after (a b : Word) : Bool := decide (1 ≤ (a - b).toNat ∧ (a - b).toNat ≤ 2147483647)

/-- The later of `a` and `b` (R1). -/
def later (a b : Word) : Word := if after a b then a else b

/-! ### Byte order -/

/-- A 16-bit field, least significant byte first (R171). -/
def le16 (w : BitVec 16) : List Byte := [w.extractLsb' 0 8, w.extractLsb' 8 8]

/-- A 24-bit field, least significant byte first (R171, R173). -/
def le24 (w : BitVec 24) : List Byte := [w.extractLsb' 0 8, w.extractLsb' 8 8, w.extractLsb' 16 8]

/-- A 32-bit field, least significant byte first (R171). -/
def le32 (w : Word) : List Byte :=
  [w.extractLsb' 0 8, w.extractLsb' 8 8, w.extractLsb' 16 8, w.extractLsb' 24 8]

/-- A 32-bit data word, most significant byte first, as frames send it (R171). -/
def be32 (w : Word) : List Byte :=
  [w.extractLsb' 24 8, w.extractLsb' 16 8, w.extractLsb' 8 8, w.extractLsb' 0 8]

/-- An item address, most significant byte first, as frames send it (R171, R174). -/
def be16 (w : BitVec 16) : List Byte := [w.extractLsb' 8 8, w.extractLsb' 0 8]

/-- The byte at offset `o`. -/
def byteAt (bytes : List Byte) (o : Nat) : Byte := bytes.getD o 0#8

/-- The 2-byte field at offset `o` of a memory structure (R171). -/
def halfAt (bytes : List Byte) (o : Nat) : BitVec 16 := byteAt bytes (o + 1) ++ byteAt bytes o

/-- The 3-byte field at offset `o` of a memory structure (R171, R173). -/
def tripleAt (bytes : List Byte) (o : Nat) : BitVec 24 :=
  (byteAt bytes (o + 2) ++ byteAt bytes (o + 1)) ++ byteAt bytes o

/-- The 4-byte field at offset `o` of a memory structure (R171). -/
def wordAt (bytes : List Byte) (o : Nat) : Word :=
  (byteAt bytes (o + 3) ++ byteAt bytes (o + 2)) ++ (byteAt bytes (o + 1) ++ byteAt bytes o)

/-! ### Checks -/

/-- `n` bits of the reflected CRC-32, polynomial 0xEDB88320 (R171). -/
def crc32Bits : Nat → Word → Word
  | 0, c => c
  | n + 1, c => crc32Bits n (if c.getLsbD 0 then (c >>> 1) ^^^ 0xEDB88320#32 else c >>> 1)

/-- One byte of the CRC-32, least significant bit first (R171). -/
def crc32Byte (c : Word) (b : Byte) : Word := crc32Bits 8 (c ^^^ b.setWidth 32)

/-- The CRC-32 of records and anchor copies: initial value and final XOR 0xFFFFFFFF (R171). -/
def crc32 (bytes : List Byte) : Word := (bytes.foldl crc32Byte 0xFFFFFFFF#32) ^^^ 0xFFFFFFFF#32

/-- `n` bits of the CRC-8, polynomial 0x07, most significant bit first (R171). -/
def crc8Bits : Nat → Byte → Byte
  | 0, c => c
  | n + 1, c => crc8Bits n (if c.getLsbD 7 then (c <<< 1) ^^^ 0x07#8 else c <<< 1)

/-- The CRC-8 of frames: initial value and final XOR 0 (R171). -/
def crc8 (bytes : List Byte) : Byte := bytes.foldl (fun c b => crc8Bits 8 (c ^^^ b)) 0x00#8

end Sys2Proof.Machine
end

