-- ==== Sys2Proof/Machine/Formats.lean ====
section
/-! DEFINITION. The layouts of Chapter 12 for memory: record head lines (R172), anchor copies (R173), and of the
configuration items (R175), with the tests of a record (R33) and the validation of a configuration (R143). -/

namespace Sys2Proof.Machine

/-! ### Configuration items (R175) -/

/-- First word of a window: base page, mode, enable (R175). -/
def Window.itemBase (w : Window) : Word :=
  w.base.setWidth 32 ||| (w.mode.setWidth 32 <<< 24) ||| (if w.enable then 0x80000000#32 else 0#32)

/-- Second word of a window: page count − 1 (R175). -/
def Window.itemCount (w : Window) : Word := w.countLessOne.setWidth 32

/-- The window with its first word written (R175). -/
def Window.writeBase (w : Window) (v : Word) : Window :=
  { w with base := v.extractLsb' 0 20, mode := v.extractLsb' 24 2, enable := v.getLsbD 31 }

/-- The window with its second word written (R175). -/
def Window.writeCount (w : Window) (v : Word) : Window := { w with countLessOne := v.extractLsb' 0 20 }

/-- The packed item of offset 2: start mode, default mode, full policy (R175). -/
def Configuration.modesItem (c : Configuration) : Word :=
  c.startMode.setWidth 32 ||| (c.defaultMode.setWidth 32 <<< 8) ||| (c.fullPolicy.setWidth 32 <<< 16)

/-- The packed item of offset 5: auto-commit line threshold and age (R175). -/
def Configuration.autoItem (c : Configuration) : Word :=
  c.threshold.setWidth 32 ||| (c.ageLimit.setWidth 32 <<< 16)

/-- The configuration item at offset `o` of its group, 0 to 22 (R175). -/
def Configuration.item (c : Configuration) (o : Nat) : Option Word :=
  match o with
  | 0 => some c.basePage
  | 1 => some c.slots
  | 2 => some c.modesItem
  | 3 => some (c.waitLimit.setWidth 32)
  | 4 => some c.discardLimit
  | 5 => some c.autoItem
  | 6 => some c.watermark
  | 7 => some c.windows[0].itemBase
  | 8 => some c.windows[0].itemCount
  | 9 => some c.windows[1].itemBase
  | 10 => some c.windows[1].itemCount
  | 11 => some c.windows[2].itemBase
  | 12 => some c.windows[2].itemCount
  | 13 => some c.windows[3].itemBase
  | 14 => some c.windows[3].itemCount
  | 15 => some c.windows[4].itemBase
  | 16 => some c.windows[4].itemCount
  | 17 => some c.windows[5].itemBase
  | 18 => some c.windows[5].itemCount
  | 19 => some c.windows[6].itemBase
  | 20 => some c.windows[6].itemCount
  | 21 => some c.windows[7].itemBase
  | 22 => some c.windows[7].itemCount
  | _ => none

/-- Replace window `i`. -/
def Configuration.setWindow (c : Configuration) (i : Fin 8) (w : Window) : Configuration :=
  { c with windows := c.windows.set i w }

/-- The first word of window `i` written (R175). -/
def Configuration.writeBaseOf (c : Configuration) (i : Fin 8) (v : Word) : Configuration :=
  c.setWindow i (c.windows[i].writeBase v)

/-- The second word of window `i` written (R175). -/
def Configuration.writeCountOf (c : Configuration) (i : Fin 8) (v : Word) : Configuration :=
  c.setWindow i (c.windows[i].writeCount v)

/-- The configuration with the item at offset `o` written; bits the layout does not name are ignored (R175). -/
def Configuration.writeItem (c : Configuration) (o : Nat) (v : Word) : Configuration :=
  match o with
  | 0 => { c with basePage := v }
  | 1 => { c with slots := v }
  | 2 => { c with startMode := v.extractLsb' 0 2, defaultMode := v.extractLsb' 8 2, fullPolicy := v.extractLsb' 16 2 }
  | 3 => { c with waitLimit := v.extractLsb' 0 8 }
  | 4 => { c with discardLimit := v }
  | 5 => { c with threshold := v.extractLsb' 0 16, ageLimit := v.extractLsb' 16 16 }
  | 6 => { c with watermark := v }
  | 7 => c.writeBaseOf 0 v
  | 8 => c.writeCountOf 0 v
  | 9 => c.writeBaseOf 1 v
  | 10 => c.writeCountOf 1 v
  | 11 => c.writeBaseOf 2 v
  | 12 => c.writeCountOf 2 v
  | 13 => c.writeBaseOf 3 v
  | 14 => c.writeCountOf 3 v
  | 15 => c.writeBaseOf 4 v
  | 16 => c.writeCountOf 4 v
  | 17 => c.writeBaseOf 5 v
  | 18 => c.writeCountOf 5 v
  | 19 => c.writeBaseOf 6 v
  | 20 => c.writeCountOf 6 v
  | 21 => c.writeBaseOf 7 v
  | 22 => c.writeCountOf 7 v
  | _ => c

/-! ### Validity of a configuration (R20, R143) -/

/-- The journal area's first byte: journal base page × 4,096 (R20). -/
def Configuration.areaStart (c : Configuration) : Nat := c.basePage.toNat * Config.pageBytes

/-- The first byte above the journal area (R20). -/
def Configuration.areaEnd (c : Configuration) : Nat := c.areaStart + c.slots.toNat * Config.slotBytes

/-- Journal slots is in 16 to 1,048,576: the working configuration is valid and there is a journal area
(R20, R122). -/
def Configuration.hasJournal (c : Configuration) : Bool :=
  decide (Config.minSlots ≤ c.slots.toNat ∧ c.slots.toNat ≤ Config.maxSlots)

/-- An address lies in the journal area of a configuration that has one (R122). -/
def Configuration.inArea (c : Configuration) (address : Word) : Bool :=
  c.hasJournal && decide (c.areaStart ≤ address.toNat ∧ address.toNat < c.areaEnd)

/-- The window passes STORE validation: its mode is listed, and, enabled, it lies in the address space (R143). -/
def Window.valid (w : Window) : Bool :=
  decide (w.mode.toNat ≤ 2) &&
    (!w.enable || decide (w.base.toNat + (w.countLessOne.toNat + 1) ≤ Config.addressPages))

/-- The area overlaps no byte of the anchor region at `base` (R143). -/
def Configuration.clearOfAnchor (c : Configuration) (base : Word) : Bool :=
  decide (c.areaEnd ≤ base.toNat ∨ base.toNat + Config.anchorBytes ≤ c.areaStart)

/-- The configuration passes STORE validation, with the anchor region at `base` (R143). -/
def Configuration.valid (c : Configuration) (base : Word) : Bool :=
  c.hasJournal &&
  decide (c.areaEnd ≤ 2 ^ 32) &&
  c.clearOfAnchor base &&
  c.windows.toList.all Window.valid &&
  decide (c.startMode.toNat ≤ 1 ∧ c.defaultMode.toNat ≤ 1 ∧ c.fullPolicy.toNat ≤ 1) &&
  decide (8 ≤ c.discardLimit.toNat ∧ c.discardLimit.toNat ≤ 2040 ∧ c.discardLimit.toNat % 8 = 0) &&
  decide (c.watermark.toNat ≤ Config.maxSlots)

/-! ### Records (R22, R33, R172) -/

/-- The kind byte of a record (R172). -/
def RecordKind.code : RecordKind → Byte
  | .line => 1#8
  | .commit => 2#8
  | .close => 3#8

/-- The record kind of a kind byte; every other value fails the kind test (R172). -/
def RecordKind.ofCode (b : Byte) : Option RecordKind :=
  if b = 1#8 then some .line else if b = 2#8 then some .commit else if b = 3#8 then some .close else none

/-- Head bytes 0–59 of a record (R172). -/
def recordPrefix (info : RecordInfo) (window : Byte) (ringId : Word) : List Byte :=
  le16 Config.recordSignature ++ [info.kind.code, window] ++ le32 ringId ++ le32 info.sequence ++ le32 info.epoch ++
    le32 (info.line.getD 0#32) ++ le32 (BitVec.ofNat 32 info.slot) ++ List.replicate 36 0#8

/-- The bytes a record's check covers: head bytes 0–59, and for a LINE record the body (R22, R171). -/
def checkedBytes (kind : RecordKind) (pre body : List Byte) : List Byte :=
  match kind with
  | .line => pre ++ body
  | .commit => pre
  | .close => pre

/-- The head line of a record (R63, R77, R94, R172). -/
def recordHead (info : RecordInfo) (window : Byte) (ringId : Word) (body : List Byte) : List Byte :=
  recordPrefix info window ringId ++ le32 (crc32 (checkedBytes info.kind (recordPrefix info window ringId) body))

/-- The record in slot `slot`, when every test of R33 holds for it with the given ring id and sequence. -/
def verifyRecord (ringId sequence : Word) (slot : Nat) (head body : List Byte) : Option RecordInfo :=
  match RecordKind.ofCode (byteAt head 2) with
  | none => none
  | some kind =>
    if halfAt head 0 = Config.recordSignature ∧ wordAt head 4 = ringId ∧ wordAt head 8 = sequence ∧
        wordAt head 20 = BitVec.ofNat 32 slot ∧
        wordAt head 60 = crc32 (checkedBytes kind (head.take 60) body) then
      some
        { kind := kind, epoch := wordAt head 12,
          line := match kind with | .line => some (wordAt head 16) | .commit => none | .close => none,
          slot := slot, sequence := sequence }
    else none

/-! ### Anchor copies (R137, R173) -/

/-- What an anchor copy carries (R137). -/
structure AnchorFields where
  configuration : Configuration
  generation : Word
  ringId : Word
  tail : Nat
  tailSequence : Word
  closedThrough : Word
deriving DecidableEq, Repr

/-- The 8 bytes of a window entry (R173). -/
def Window.bytes (w : Window) : List Byte :=
  le24 (w.base.setWidth 24) ++ le24 (w.countLessOne.setWidth 24) ++ [w.mode.setWidth 8, if w.enable then 1#8 else 0#8]

/-- Bytes 0–123 of an anchor copy (R173). -/
def anchorPrefix (f : AnchorFields) : List Byte :=
  let c := f.configuration
  le16 Config.anchorSignature ++ [1#8, c.startMode.setWidth 8] ++ le32 f.generation ++ le32 f.ringId ++
    le32 c.basePage ++ le32 c.slots ++ le32 (BitVec.ofNat 32 f.tail) ++ le32 f.tailSequence ++ le32 f.closedThrough ++
    [c.defaultMode.setWidth 8, c.fullPolicy.setWidth 8, c.waitLimit, BitVec.ofNat 8 (c.discardLimit.toNat / 8)] ++
    le16 c.threshold ++ le16 c.ageLimit ++ le32 c.watermark ++ List.replicate 8 0#8 ++
    c.windows[0].bytes ++ c.windows[1].bytes ++ c.windows[2].bytes ++ c.windows[3].bytes ++
    c.windows[4].bytes ++ c.windows[5].bytes ++ c.windows[6].bytes ++ c.windows[7].bytes ++ List.replicate 8 0#8

/-- The 128 bytes of an anchor copy (R140, R144, R173). -/
def anchorBytes (f : AnchorFields) : List Byte := anchorPrefix f ++ le32 (crc32 (anchorPrefix f))

/-- The window entry at offset `o` of a copy; bits 20–23 and bits 1–7 of the enable byte are ignored (R173). -/
def windowAt (bytes : List Byte) (o : Nat) : Window where
  enable := (byteAt bytes (o + 7)).getLsbD 0
  base := (tripleAt bytes o).extractLsb' 0 20
  countLessOne := (tripleAt bytes (o + 3)).extractLsb' 0 20
  mode := (byteAt bytes (o + 6)).extractLsb' 0 2

/-- The configuration fields of a copy (R173); the discard limit is kept in units of 8 µs. -/
def configurationOf (bytes : List Byte) : Configuration where
  basePage := wordAt bytes 12
  slots := wordAt bytes 16
  startMode := (byteAt bytes 3).extractLsb' 0 2
  defaultMode := (byteAt bytes 32).extractLsb' 0 2
  fullPolicy := (byteAt bytes 33).extractLsb' 0 2
  waitLimit := byteAt bytes 34
  discardLimit := BitVec.ofNat 32 ((byteAt bytes 35).toNat * 8)
  threshold := halfAt bytes 36
  ageLimit := halfAt bytes 38
  watermark := wordAt bytes 40
  windows :=
    #v[windowAt bytes 52, windowAt bytes 60, windowAt bytes 68, windowAt bytes 76,
       windowAt bytes 84, windowAt bytes 92, windowAt bytes 100, windowAt bytes 108]

/-- The fields of a copy by the tables of R173. -/
def anchorFieldsOf (bytes : List Byte) : AnchorFields where
  configuration := configurationOf bytes
  generation := wordAt bytes 4
  ringId := wordAt bytes 8
  tail := (wordAt bytes 20).toNat
  tailSequence := wordAt bytes 24
  closedThrough := wordAt bytes 28

/-- The enumerated bytes of a copy hold listed values: start mode, default mode and full policy 0 or 1, and
every window mode at most 2 (R173). -/
def enumeratedBytesListed (bytes : List Byte) : Bool :=
  decide ((byteAt bytes 3).toNat ≤ 1 ∧ (byteAt bytes 32).toNat ≤ 1 ∧ (byteAt bytes 33).toNat ≤ 1) &&
    [58, 66, 74, 82, 90, 98, 106, 114].all fun o => decide ((byteAt bytes o).toNat ≤ 2)

/-- The copy whose two lines were answered DONE with `bytes` is valid, with the anchor region at `base`; its
fields then (R138, R173). -/
def judgeCopy (base : Word) (bytes : List Byte) : Option AnchorFields :=
  let f := anchorFieldsOf bytes
  if halfAt bytes 0 = Config.anchorSignature ∧ byteAt bytes 2 = 1#8 ∧
      wordAt bytes 124 = crc32 (bytes.take 124) ∧ enumeratedBytesListed bytes = true ∧
      f.configuration.valid base = true ∧ f.tail < f.configuration.slots.toNat then
    some f
  else none

end Sys2Proof.Machine
end

