-- ==== Sys2Proof/Machine/Operands.lean ====
section
/-! DEFINITION. The operands of a host request: its line and offset (R119), the guard (R122), the window table
(R123, R124) and the answer table (R125). -/

namespace Sys2Proof.Machine

/-- The line address: the address with its low six bits taken as 0 (R119). -/
def lineOf (address : Word) : Word := address &&& 0xFFFFFFC0#32

/-- The offset within the line, 0–63 (R119). -/
def offsetOf (address : Word) : Nat := address.toNat % 64

/-- The page number of an address (R124). -/
def pageOf (address : Word) : Nat := address.toNat / Config.pageBytes

/-- The base of the anchor region in force (R135). -/
def State.anchorBase (s : State) : Word := Config.anchorBase s.pins.straps

/-- The address lies in the anchor region (R122, R135). -/
def inAnchorRegion (base address : Word) : Bool :=
  decide (base.toNat ≤ address.toNat ∧ address.toNat < base.toNat + Config.anchorBytes)

/-- The guard refuses the address: it lies in the anchor region, or in the journal area while the working
configuration is valid (R122). -/
def State.guarded (s : State) (address : Word) : Bool :=
  inAnchorRegion s.anchorBase address || s.anchor.working.inArea address

/-- The window contains the address: it is enabled and the page lies in it (R124). -/
def Window.contains (w : Window) (address : Word) : Bool :=
  w.enable && decide (w.base.toNat ≤ pageOf address ∧ pageOf address ≤ w.base.toNat + w.countLessOne.toNat)

/-- The class a window mode gives (R123, R175); a valid configuration holds no other value (log entry 14). -/
def classOfMode (mode : BitVec 2) : AccessClass :=
  if mode = 0#2 then .pass else if mode = 1#2 then .journal else .readonly

/-- The windows with their indexes, in index order. -/
def windowOrder : List (Fin 8) := [0, 1, 2, 3, 4, 5, 6, 7]

/-- The class and window index of an address: the enabled window of lowest index that contains it, or else the
default mode and no index (R124). DESIGN CHOICE: a page that is guarded only in part keeps its class for the bytes that
the guard lets pass, though R122 has a window give no class to a page that overlaps a guarded region (log entry 27). -/
def Configuration.classify (c : Configuration) (address : Word) : AccessClass × Option (Fin 8) :=
  match windowOrder.find? fun i => c.windows[i].contains address with
  | some i => (classOfMode c.windows[i].mode, some i)
  | none => (if c.defaultMode = 0#2 then .pass else .readonly, none)

/-- What the answer table gives a classified request (R125). -/
inductive Judgement where
  | forward
  | journal
  | retry
  | fault (kind : FaultKind)
deriving DecidableEq, Repr

/-- The OPEN epoch (R3, R4). -/
def EpochTable.opened (t : EpochTable) : Option LiveEpoch :=
  (t.entry0.toList ++ t.entry1.toList).find? fun e => e.state == .opened

/-- A rollback is running (R89). -/
def State.rollingBack (s : State) : Bool := s.replay.rollback.isSome

/-- The answer table for a request that the guard let pass (R125). -/
def State.judge (s : State) (kind : RequestKind) (cls : AccessClass) : Judgement :=
  match s.modes.mode with
  | .loading => .retry
  | .recovering => .retry
  | mode =>
    match cls, kind with
    | .pass, _ => .forward
    | .readonly, .read => .forward
    | .readonly, .write => .fault .readonly
    | .journal, .read => if mode = .active ∧ s.rollingBack = true then .retry else .forward
    | .journal, .write =>
      match mode with
      | .active =>
        if s.rollingBack then .retry else if s.epochs.table.opened.isSome then .journal else .retry
      | .bypass => .forward
      | .halted => .fault .halted
      | _ => .retry

end Sys2Proof.Machine
end

