-- ==== Sys2Proof/Machine/Ops.lean ====
section
/-! DEFINITION. The named operations over the blocks of the part: the memory queue (R107, R108), the live epoch
table (R3), ring space and slots (R20, R24, R27), the hold queue (R38, R45), the tag table (R54), the tick. -/

namespace Sys2Proof.Machine

/-- A command's effect: nothing acts while RESET# is asserted (R158). -/
def whileRunning (f : State → State) (s : State) : Host.Outcome State Fault Refusal :=
  .next (if s.pins.inReset then s else f s)

/-! ### The memory queue -/

/-- A whole-line READ made by a grant (R106, R107). -/
def readEntry (source : Source) (line : Word) : MemoryEntry :=
  { source := source, line := line, offset := 0, length := Config.lineBytes, data := [], issued := none }

/-- A WRITE made by a grant (R106, R107). -/
def writeEntry (source : Source) (line : Word) (offset : Nat) (data : List Byte) : MemoryEntry :=
  { source := source, line := line, offset := offset, length := data.length, data := data, issued := none }

/-- The kind of a request follows from its source (R106, R107). -/
def Source.kind : Source → AnswerKind
  | .hostRead _ _ => .read
  | .deferredFetch _ _ => .read
  | .holdRelease _ => .write
  | .captureRead _ => .read
  | .recordWrite _ _ => .write
  | .anchorRead _ _ => .read
  | .anchorWrite _ _ => .write
  | .replayRead _ _ => .read
  | .restoreWrite _ _ => .write

/-- A granted request becomes a WAITING entry at the end of the queue (R110). -/
def enqueue (e : MemoryEntry) (s : State) : State :=
  s.setMemory { s.memory with queue := s.memory.queue ++ [e] }

/-- The outstanding count: the number of ISSUED entries (R107). -/
def State.outstanding (s : State) : Nat := s.memory.queue.countP fun e => e.issued.isSome

/-- The oldest ISSUED entry; the ISSUED entries are the oldest of the queue (R107). -/
def State.oldestIssued (s : State) : Option MemoryEntry :=
  match s.memory.queue with
  | [] => none
  | e :: _ => if e.issued.isSome then some e else none

/-- The answered entry leaves the queue (R108). -/
def dropOldest (s : State) : State := s.setMemory { s.memory with queue := s.memory.queue.tail }

/-- An answer belongs to the oldest ISSUED entry (R108): when `select` takes that entry's source, the entry
leaves the queue and `act` takes the answer; otherwise the row's event cannot occur and nothing changes
(log entry 2). -/
def onAnswer {α : Type} (select : Source → Option α) (act : α → MemoryEntry → State → State) (s : State) : State :=
  match s.oldestIssued with
  | none => s
  | some e =>
    match select e.source with
    | none => s
    | some a => act a e (dropOldest s)

/-- Issue the oldest WAITING entry of a queue (R108). -/
def issueOldest (now : Nat) : List MemoryEntry → List MemoryEntry
  | [] => []
  | e :: rest => if e.issued.isSome then e :: issueOldest now rest else { e with issued := some now } :: rest

/-! ### The live epoch table -/

/-- The live epochs (R3). -/
def EpochTable.epochs (t : EpochTable) : List LiveEpoch := t.entry0.toList ++ t.entry1.toList

/-- The live epoch of a number; the controller finds an epoch by its number or by its state (R3). -/
def EpochTable.find (t : EpochTable) (n : Word) : Option LiveEpoch := t.epochs.find? fun e => e.number == n

/-- A live epoch is in state `st`. -/
def EpochTable.has (t : EpochTable) (st : EpochState) : Bool := t.epochs.any fun e => e.state == st

/-- Apply `f` to every live epoch. -/
def EpochTable.map (t : EpochTable) (f : LiveEpoch → LiveEpoch) : EpochTable := ⟨t.entry0.map f, t.entry1.map f⟩

/-- Apply `f` to the live epoch of number `n`; a report that names no live epoch changes nothing (R11, R12). -/
def EpochTable.modify (t : EpochTable) (n : Word) (f : LiveEpoch → LiveEpoch) : EpochTable :=
  t.map fun e => if e.number = n then f e else e

/-- Empty the entry of epoch `n` (R8). -/
def EpochTable.remove (t : EpochTable) (n : Word) : EpochTable :=
  ⟨t.entry0.filter fun e => e.number != n, t.entry1.filter fun e => e.number != n⟩

/-- Fill the empty entry, the first when both are empty (R3). A full table takes nothing (log entry 14). -/
def EpochTable.insert (t : EpochTable) (e : LiveEpoch) : EpochTable :=
  match t.entry0, t.entry1 with
  | none, _ => ⟨some e, t.entry1⟩
  | some _, none => ⟨t.entry0, some e⟩
  | some _, some _ => t

/-- An epoch is empty when it has no LINE records written, no held entries and no data writes outstanding
(section 1.5 of Chapter 1). -/
def LiveEpoch.empty (e : LiveEpoch) : Bool := e.lines == 0 && e.held == 0 && e.out == 0

/-- Held entries and data writes outstanding are both 0 (R14). -/
def LiveEpoch.drained (e : LiveEpoch) : Bool := e.held == 0 && e.out == 0

def State.setTable (s : State) (t : EpochTable) : State := s.setEpochs { s.epochs with table := t }

/-- A new epoch takes the empty entry with the starting values of R3 and the latched values of R6 (R5). -/
def openEpoch (number : Word) (s : State) : State :=
  s.setTable (s.epochs.table.insert
    { number := number, state := .opened, damaged := false, lines := 0, firstSlot := none, firstTime := none,
      held := 0, out := 0, threshold := s.anchor.working.threshold, ageLimit := s.anchor.working.ageLimit })

/-! ### Ring space and slots -/

/-- The journal size: the journal slots of the working configuration (R20). -/
def State.size (s : State) : Nat := s.anchor.working.slots.toNat

/-- Free space: journal size − used − promised (R24). -/
def State.free (s : State) : Nat := s.size - s.ring.used - s.ring.promised

/-- The slot after `slot` (R27). -/
def nextSlot (size slot : Nat) : Nat := (slot + 1) % size

/-- The slot before `slot` (R91, R92). -/
def previousSlot (size slot : Nat) : Nat := (slot + size - 1) % size

/-- The address of the head line, or of the body line 64 bytes above it, of a slot (R20). -/
def State.slotAddress (s : State) (slot : Nat) (isHead : Bool) : Word :=
  BitVec.ofNat 32 (s.anchor.working.areaStart + Config.slotBytes * slot + if isHead then 0 else Config.lineBytes)

/-- The head advances by one slot and one sequence, and used rises by one (R27, R28). -/
def RingManager.assign (r : RingManager) (size : Nat) : RingManager :=
  { r with head := nextSlot size r.head, headSequence := r.headSequence + 1#32, used := r.used + 1 }

/-- The line writes of a LINE record, body before head (R29, R63). -/
def State.lineRecordWrites (s : State) (info : RecordInfo) (window : Fin 8) (contents : List Byte) : List RecordWrite :=
  [{ info := info, isHead := false, address := s.slotAddress info.slot false, data := contents },
   { info := info, isHead := true, address := s.slotAddress info.slot true,
     data := recordHead info (BitVec.ofNat 8 window.val) s.ring.ringId contents }]

/-- The head write of a marker (R29, R77, R94). -/
def State.markerWrite (s : State) (info : RecordInfo) : RecordWrite :=
  { info := info, isHead := true, address := s.slotAddress info.slot true,
    data := recordHead info 0#8 s.ring.ringId [] }

/-! ### The hold queue and the capture unit -/

/-- The stamp of a JOURNAL entry (R10, R38). -/
def HoldClass.epoch : HoldClass → Option Word
  | .pass => none
  | .journal e _ => some e

/-- A JOURNAL entry. -/
def HoldEntry.isJournal (e : HoldEntry) : Bool := e.cls.epoch.isSome

/-- An entry of the hold queue targets the line, whatever its class, epoch or state (R49). -/
def State.lineHeld (s : State) (line : Word) : Bool := s.hold.entries.any fun e => e.line == line

/-- The entry needs a capture that has not started (R45). -/
def HoldEntry.wantsCapture (e : HoldEntry) : Bool :=
  e.isJournal && e.state == .needsCapture && e.capture.isNone

/-- The oldest entry that wants a capture and behind which no older entry targets the same line (R45); `older`
are the lines of the entries already passed. -/
def firstEligible (older : List Word) : List HoldEntry → Option HoldEntry
  | [] => none
  | e :: rest =>
    if e.wantsCapture && !older.contains e.line then some e else firstEligible (e.line :: older) rest

/-- The capture slots in order of number. -/
def slotOrder : List (Fin 4) := [0, 1, 2, 3]

/-- The IDLE capture slot with the lowest number (R61). -/
def CaptureUnit.idleSlot (c : CaptureUnit) : Option (Fin 4) := slotOrder.find? fun i => c.slots[i].isNone

/-- Every capture slot is IDLE (R68). -/
def CaptureUnit.allIdle (c : CaptureUnit) : Bool := slotOrder.all fun i => c.slots[i].isNone

/-- The tag entry of a line and epoch (R54, R55). -/
def CaptureUnit.tagState (c : CaptureUnit) (k : TagKey) : Option TagState :=
  (c.tags.find? fun t => t.key == k).map (·.state)

/-- The tags with the entry `k`, if any, freed (R56). -/
def freeTag (k : Option TagKey) (tags : List TagEntry) : List TagEntry := tags.filter fun t => some t.key != k

/-- The tags with the state of the entry `k`, if any, set. -/
def setTag (k : Option TagKey) (st : TagState) (tags : List TagEntry) : List TagEntry :=
  tags.map fun t => if some t.key = k then { t with state := st } else t

/-- The tags without the SAVED entries of epoch `n` (R57). -/
def freeSaved (n : Word) (tags : List TagEntry) : List TagEntry :=
  tags.filter fun t => !(t.key.epoch == n && t.state == .saved)

/-- Put a capture, or IDLE, into a capture slot. -/
def CaptureUnit.setSlot (c : CaptureUnit) (i : Fin 4) (x : Option Capture) : CaptureUnit :=
  { c with slots := c.slots.set i x }

/-! ### Time -/

/-- A READY deferred entry ages by `d` µs; a FETCHING one does not age (R133). -/
def Deferred.grow (d : Nat) (x : Deferred) : Deferred :=
  match x.state with
  | .ready data age => { x with state := .ready data (age + d) }
  | .fetching _ => x

/-- The first record time moves forward by `d` µs, so that the age stays where it stood (R13). -/
def LiveEpoch.holdAge (d : Nat) (e : LiveEpoch) : LiveEpoch := { e with firstTime := e.firstTime.map (· + d) }

/-- Apply `f` to the four deferred slots. -/
def mapDeferred (f : Deferred → Deferred) (v : Vector (Option Deferred) 4) : Vector (Option Deferred) 4 :=
  #v[v[0].map f, v[1].map f, v[2].map f, v[3].map f]

/-- `d` µs pass: the 1 µs tick advances, and ages grow with it, but not while the freeze flag is set (R13, R133,
R156). -/
def elapse (d : Nat) (s : State) : State :=
  let t := s.setPins { s.pins with now := s.pins.now + d }
  if s.modes.freeze then t.setTable (t.epochs.table.map (LiveEpoch.holdAge d))
  else t.setHost { t.host with deferred := mapDeferred (Deferred.grow d) t.host.deferred }

/-- The tick passes to `t`, if it has not reached it yet: what an expiry row does first, since its event is that a limit
is reached (log entry 7). -/
def elapseTo (t : Nat) (s : State) : State := elapse (t - s.pins.now) s

/-- One advance of the 1 µs tick; nothing advances while RESET# is asserted (R158). -/
def tick (s : State) : State := if s.pins.inReset then s else elapse 1 s

end Sys2Proof.Machine
end

