-- ==== Sys2Proof/Machine/HostOps.lean ====
section
/-! DEFINITION. The shared operations of the host port: answering (R120), deferred entries (R129 to R132), taking a
write (R40 to R42) and judging a request in hand afresh (R128). -/

namespace Sys2Proof.Machine

/-! ### Answers -/

/-- Give an answer on the host bus, with the counter it moves; no request is current any longer (R120, R169).
A WRITE answered DONE is counted where it is taken. -/
def answerHost (a : HostAnswer) (s : State) : State :=
  let t := s.setHost { s.host with current := none, answer := some a }
  match a with
  | .done _ => t
  | .retry => bump .retries t
  | .fault _ => bump .faults t

/-- Answer a READ DONE (R120). -/
def answerRead (data : List Byte) (s : State) : State := bump .hostReads (answerHost (.done data) s)

/-- Change the owner of the HOST-READ entry of the current request (R113, R128, R130). -/
def ownCurrentRead (owner : ReadOwner) (s : State) : State :=
  s.setMemory { s.memory with
    queue := s.memory.queue.map fun e =>
      match e.source with
      | .hostRead r .current => { e with source := .hostRead r owner }
      | _ => e }

/-- Answer the current request without keeping its read: a HOST-READ entry it left in the memory queue is
abandoned, and its data is dropped when the answer arrives (R128, R130). -/
def answerWaiting (a : HostAnswer) (s : State) : State := answerHost a (ownCurrentRead .abandoned s)

/-! ### Deferred entries -/

/-- Put a deferred entry into a slot, or free the slot. -/
def HostPort.setSlot (h : HostPort) (i : Fin 4) (x : Option Deferred) : HostPort :=
  { h with deferred := h.deferred.set i x }

/-- Mark the memory request of deferred slot `i` abandoned (R132). -/
def abandonFetch (i : Fin 4) (s : State) : State :=
  s.setMemory { s.memory with
    queue := s.memory.queue.map fun e =>
      match e.source with
      | .hostRead r (.slot j) => if j = i then { e with source := .hostRead r .abandoned } else e
      | .deferredFetch j _ => if j = i then { e with source := .deferredFetch j true } else e
      | _ => e }

/-- Discard the deferred entry in slot `i`, if it holds one (R132). -/
def discardSlot (i : Fin 4) (s : State) : State :=
  match s.host.deferred[i] with
  | none => s
  | some _ => bump .deferredDiscarded (abandonFetch i (s.setHost (s.host.setSlot i none)))

/-- Discard slot `i` when it holds an entry that `p` picks. -/
def discardIf (p : Deferred → Bool) (i : Fin 4) (s : State) : State :=
  match s.host.deferred[i] with
  | none => s
  | some d => if p d then discardSlot i s else s

/-- Discard every deferred entry that `p` picks (R132). -/
def discardDeferred (p : Deferred → Bool) (s : State) : State :=
  discardIf p 3 (discardIf p 2 (discardIf p 1 (discardIf p 0 s)))

/-- The slot of a deferred entry that `p` picks, lowest number first. -/
def HostPort.findSlot (h : HostPort) (p : Deferred → Bool) : Option (Fin 4) :=
  slotOrder.find? fun i => (h.deferred[i].map p).getD false

/-- The free slot with the lowest number (R130). -/
def HostPort.freeSlot (h : HostPort) : Option (Fin 4) := slotOrder.find? fun i => h.deferred[i].isNone

/-- A reissued read matches an entry: same requester, address and length (R131). -/
def Deferred.matchesRequest (d : Deferred) (r : HostRequest) : Bool :=
  d.requester == r.requester && d.line == r.line && d.offset == r.offset && d.length == r.length

/-- Answer the current read from the READY data of slot `i`, which becomes free (R131). -/
def serveDeferred (i : Fin 4) (data : List Byte) (s : State) : State :=
  bump .deferredServed (answerRead data (s.setHost (s.host.setSlot i none)))

/-- The current read is in SLOT-WAIT on slot `i` (R119, R131). -/
def State.awaitsSlot (s : State) (i : Fin 4) : Bool :=
  match s.host.current with
  | some r => r.wait == .slotWait i
  | none => false

/-- The bytes of a line that a read of `length` bytes at `offset` asks for (R120). -/
def sliceOf (data : List Byte) (offset length : Nat) : List Byte := (data.drop offset).take length

/-- The fetch of slot `i` is answered DONE: the entry becomes READY with age 0, and answers a read in SLOT-WAIT
(R131). -/
def fetchDone (i : Fin 4) (data : List Byte) (s : State) : State :=
  match s.host.deferred[i] with
  | none => s
  | some d =>
    let bytes := sliceOf data d.offset d.length
    if s.awaitsSlot i then serveDeferred i bytes s
    else s.setHost (s.host.setSlot i (some { d with state := .ready bytes 0 }))

/-- The fetch of slot `i` is answered FAULT or ended by a timeout: the entry is discarded, and a read in
SLOT-WAIT on it is answered FAULT, MEMORY (R131). -/
def fetchFaulted (i : Fin 4) (s : State) : State :=
  if s.awaitsSlot i then answerHost (.fault .memory) (discardSlot i s) else discardSlot i s

/-- Take the answer of a fetch for slot `i` (R131). -/
def fetchAnswered (i : Fin 4) (a : ReadAnswer) (s : State) : State :=
  match a with
  | .done data => fetchDone i data s
  | .fault => fetchFaulted i s

/-- The answer of the current read's own HOST-READ entry reaches the host port (R127). -/
def currentReadAnswered (a : ReadAnswer) (s : State) : State :=
  match s.host.current with
  | none => s
  | some r =>
    match a with
    | .done data => answerRead (sliceOf data r.offset r.length) s
    | .fault => answerHost (.fault .memory) s

/-- The answer to a HOST-READ goes to the current request, to the deferred entry the read became, or is dropped
(R113, R127). -/
def hostReadAnswered (owner : ReadOwner) (a : ReadAnswer) (s : State) : State :=
  match owner with
  | .current => currentReadAnswered a s
  | .slot i => fetchAnswered i a s
  | .abandoned => s

/-- The fetch stage of a read that becomes a deferred entry follows its wait state; a read in SLOT-WAIT and a
write become none (R130). -/
def WaitState.stage : WaitState → Option FetchStage
  | .placeWait => none
  | .lineWait => some .lineWait
  | .grantWait => some .grantWait
  | .memoryWait => some .inQueue
  | .slotWait _ => none

/-- Keep the read `r` as a FETCHING entry in the free slot with the lowest number; with none free its HOST-READ
entry, if any, is abandoned (R130). -/
def keepRead (r : HostRequest) (stage : FetchStage) (s : State) : State :=
  match s.host.freeSlot with
  | none => ownCurrentRead .abandoned s
  | some i =>
    ownCurrentRead (.slot i)
      (s.setHost (s.host.setSlot i (some
        { requester := r.requester, line := r.line, offset := r.offset, length := r.length, state := .fetching stage })))

/-- The host wait limit has run out on the current request `r`: it is answered RETRY, and a read in LINE-WAIT,
GRANT-WAIT or MEMORY-WAIT may leave a deferred entry, its requester's older entry discarded first (R43, R126,
R130, R131). -/
def expireRequest (r : HostRequest) (s : State) : State :=
  match r.wait.stage with
  | none => answerHost .retry s
  | some stage => answerHost .retry (keepRead r stage (discardDeferred (fun d => d.requester == r.requester) s))

/-- The current request enters a wait state; with a host wait limit of 0 the limit has run out at once
(R43, R126). -/
def beginWait (r : HostRequest) (s : State) : State :=
  let t := s.setHost { s.host with current := some r, answer := none }
  if s.anchor.working.waitLimit = 0#8 then expireRequest r t else t

/-! ### Taking a write -/

/-- A new entry joins the hold queue (R40). -/
def appendHold (e : HoldEntry) (s : State) : State :=
  s.setHold { entries := s.hold.entries ++ [e], nextId := s.hold.nextId + 1 }

/-- Set up a JOURNAL entry for the OPEN epoch `n`: the state follows from the tag lookup (R41, R42, R55). -/
def takeJournal (r : HostRequest) (window : Fin 8) (n : Word) (s : State) : State :=
  let key : TagKey := ⟨r.line, n⟩
  let entry : HoldEntry :=
    { id := s.hold.nextId, cls := .journal n window, line := r.line, offset := r.offset, data := r.data,
      state := .needsCapture, tag := none, capture := none }
  let t := s.setTable (s.epochs.table.modify n fun e => { e with held := e.held + 1 })
  match t.capture.tagState key with
  | some .saved => bump .tagHits (appendHold { entry with state := .ready } t)
  | some (.capturing _ _) => bump .tagHits (appendHold { entry with state := .waitCapture, tag := some key } t)
  | none =>
    if t.capture.tags.length < Config.tagPlaces then
      appendHold { entry with tag := some key }
        (t.setCapture { t.capture with
          tags := t.capture.tags ++ [{ key := key, state := .capturing (some entry.id) none }] })
    else bump .tagFullMisses (appendHold entry t)

/-- Set up a PASS entry (R41). -/
def takePass (r : HostRequest) (s : State) : State :=
  appendHold
    { id := s.hold.nextId, cls := .pass, line := r.line, offset := r.offset, data := r.data, state := .ready,
      tag := none, capture := none } s

/-- Take a write that the answer table lets through: deferred entries for its line are discarded, an entry is
added and set up, and the write is answered DONE (R40, R41, R132). -/
def takeWrite (r : HostRequest) (journaled : Bool) (s : State) : State :=
  let t := discardDeferred (fun d => d.line == r.line) s
  let u :=
    match journaled, t.epochs.table.opened, r.window with
    | true, some e, some w => takeJournal r w e.number t
    | _, _, _ => takePass r t
  bump .hostWrites (answerHost (.done []) u)

/-- Offer a write to the hold queue: it is taken, or it waits for a place (R40, R43, R126). -/
def offerWrite (r : HostRequest) (journaled : Bool) (s : State) : State :=
  if s.hold.entries.length < Config.holdPlaces then takeWrite r journaled s
  else bump .holdFullWaits (beginWait { r with wait := .placeWait } s)

/-! ### Reads -/

/-- The stages of a forwarded read as it arrives: an entry that matches, then LINE-WAIT or GRANT-WAIT
(R127, R131). -/
def startRead (r : HostRequest) (s : State) : State :=
  match s.host.findSlot fun d => d.matchesRequest r with
  | some i =>
    match s.host.deferred[i] with
    | some d =>
      match d.state with
      | .ready data _ => serveDeferred i data s
      | .fetching _ => beginWait { r with wait := .slotWait i } s
    | none => s
  | none => beginWait { r with wait := if s.lineHeld r.line then .lineWait else .grantWait } s

/-! ### Arrival -/

/-- The request the host port keeps: the request with its line, offset, class, window index and time of
arrival (R119, R124). -/
def State.arrive (s : State) (kind : RequestKind) (requester : BitVec 4) (address : Word) (length : Nat)
    (data : List Byte) : HostRequest :=
  { kind := kind, requester := requester, address := address, line := lineOf address, offset := offsetOf address,
    length := length, data := data, cls := (s.anchor.working.classify address).1,
    window := (s.anchor.working.classify address).2, arrival := s.pins.now, wait := .grantWait }

/-- The tests made when a request arrives, in their order, and the answer table: freeze, boundary, start, guard,
class and mode (R121, R122, R125). -/
def State.judgeArrival (s : State) (r : HostRequest) : Judgement :=
  if s.modes.freeze then .retry
  else if 64 < r.offset + r.length then .fault .boundary
  else if s.modes.mode = .loading ∨ s.modes.mode = .recovering then .retry
  else if s.guarded r.address then .fault .guarded
  else s.judge r.kind r.cls

/-! ### Judging a request in hand afresh -/

/-- Judge the current request by the freeze flag and the answer table, and answer it when it is no longer let
through (R128). -/
def rejudge (s : State) : State :=
  match s.host.current with
  | none => s
  | some r =>
    if s.modes.freeze then answerWaiting .retry s
    else
      match s.judge r.kind r.cls with
      | .retry => answerWaiting .retry s
      | .fault k => answerWaiting (.fault k) s
      | .forward => s
      | .journal => s

/-- After a STORE the current request is classified afresh and judged (R128). -/
def reclassify (s : State) : State :=
  match s.host.current with
  | none => s
  | some r =>
    if s.guarded r.address then answerWaiting (.fault .guarded) s
    else
      let c := s.anchor.working.classify r.address
      rejudge (s.setHost { s.host with current := some { r with cls := c.1, window := c.2 } })

end Sys2Proof.Machine
end

