-- ==== Sys2Proof/Machine/AnchorOps.lean ====
section
/-! DEFINITION. The shared operations of the anchor unit: where the copies lie (R135), the tail an update carries (R31,
R34), building an update or a STORE (R140, R144), and the line writes it presents. -/

namespace Sys2Proof.Machine

/-- The other copy (R140). -/
def Copy.other : Copy → Copy
  | .a => .b
  | .b => .a

/-- The target of an anchor write: the copy that is not current, and copy A when none is (R136, R140, R144). -/
def AnchorUnit.target (a : AnchorUnit) : Copy :=
  match a.current with
  | some c => c.other
  | none => .a

/-- The new generation: the generation + 1, which is 1 when no copy is current (R136, R140, R144). -/
def AnchorUnit.nextGeneration (a : AnchorUnit) : Word := a.generation + 1#32

/-- The address of a line of a copy (R135). -/
def State.copyAddress (s : State) (c : Copy) (second : Bool) : Word :=
  s.anchorBase + (match c with | .a => 0#32 | .b => 128#32) + (if second then 64#32 else 0#32)

/-- The number and first record slot of the oldest, in serial order, of the epochs that have one (R31). -/
def oldestRecorded : List LiveEpoch → Option (Word × Nat)
  | [] => none
  | e :: rest =>
    match e.firstSlot, oldestRecorded rest with
    | none, best => best
    | some x, none => some (e.number, x)
    | some x, some (n, y) => if after e.number n then some (n, y) else some (e.number, x)

/-- The tail that an update built now carries: the first record slot of the oldest live epoch that has one, or
the head (R31). -/
def State.carriedTail (s : State) : Nat × Word :=
  match oldestRecorded s.epochs.table.epochs with
  | some (_, x) =>
    (x, s.ring.tailSequence + BitVec.ofNat 32 ((x + s.size - s.ring.tail) % s.size))
  | none => (s.ring.head, s.ring.headSequence)

/-- The tail that the update ending a recovery carries: the head slot, with the head sequence + journal size
(R34). -/
def State.recoveryTail (s : State) : Nat × Word :=
  (s.ring.head, s.ring.headSequence + BitVec.ofNat 32 s.size)

/-- The recovered closed-through, while a recovery waits in ANCHORING for its update (R98, R103). -/
def ReplayEngine.anchoring (r : ReplayEngine) : Option Word :=
  match r.recovery with
  | some q =>
    match q.phase with
    | .anchoring => q.recoveredThrough
    | _ => none
  | none => none

/-- Make an anchor write the one in flight; its lines are presented first line first (R140). -/
def startAnchorWrite (kind : AnchorWriteKind) (fields : AnchorFields) (s : State) : State :=
  s.setAnchor { s.anchor with
    write := some
      { kind := kind, target := s.anchor.target, generation := fields.generation, bytes := anchorBytes fields,
        granted := 0, first := none } }

/-- Build the pending update (R79, R103, R140). -/
def buildUpdate (s : State) : State :=
  let t := s.setAnchor { s.anchor with pendingUpdate := false }
  match s.replay.anchoring with
  | some closed =>
    startAnchorWrite (.update s.recoveryTail.1 s.recoveryTail.2 true)
      { configuration := s.anchor.working, generation := s.anchor.nextGeneration, ringId := s.ring.ringId,
        tail := s.recoveryTail.1, tailSequence := s.recoveryTail.2, closedThrough := closed } t
  | none =>
    startAnchorWrite (.update s.carriedTail.1 s.carriedTail.2 false)
      { configuration := s.anchor.working, generation := s.anchor.nextGeneration, ringId := s.ring.ringId,
        tail := s.carriedTail.1, tailSequence := s.carriedTail.2, closedThrough := s.epochs.closedThrough } t

/-- Ask for an anchor update: built at once with no anchor write in flight, and otherwise pending until the write
in flight has been answered (R79, R140). -/
def requestUpdate (s : State) : State :=
  match s.anchor.write with
  | none => buildUpdate s
  | some _ => s.setAnchor { s.anchor with pendingUpdate := true }

/-- A write has been answered: a pending update is built at once (R79, R141). -/
def buildPending (s : State) : State := if s.anchor.pendingUpdate then buildUpdate s else s

/-- Build a STORE from the pending configuration (R144). -/
def startStore (s : State) : State :=
  startAnchorWrite (.store s.management.pending)
    { configuration := s.management.pending, generation := s.anchor.nextGeneration,
      ringId := s.anchor.nextGeneration, tail := 0, tailSequence := 0#32, closedThrough := s.epochs.closedThrough } s

/-- The copy and line of the `k`-th anchor read at LOADING (R138). -/
def loadingRead (k : Nat) : Copy × Bool := (if k < 2 then .a else .b, decide (k % 2 = 1))

/-- The request the anchor unit presents: at LOADING the next anchor read, else the next line write of the anchor
write in flight (R110, R138, R140). -/
def State.anchorRequest (s : State) : Option MemoryEntry :=
  match s.anchor.loading with
  | some l =>
    if l.granted < 4 then
      let r := loadingRead l.granted
      some (readEntry (.anchorRead r.1 r.2) (s.copyAddress r.1 r.2))
    else none
  | none =>
    match s.anchor.write with
    | some w =>
      if w.granted = 0 then
        some (writeEntry (.anchorWrite w.target false) (s.copyAddress w.target false) 0 (w.bytes.take 64))
      else if w.granted = 1 then
        some (writeEntry (.anchorWrite w.target true) (s.copyAddress w.target true) 0 (w.bytes.drop 64))
      else none
    | none => none

/-- One more anchor line has been granted; the next is presented (R138, R140). -/
def AnchorUnit.lineGranted (a : AnchorUnit) : AnchorUnit :=
  match a.loading with
  | some l => { a with loading := some { l with granted := l.granted + 1 } }
  | none => { a with write := a.write.map fun w => { w with granted := w.granted + 1 } }

end Sys2Proof.Machine
end

