-- ==== Sys2Proof/Machine/Sequences.lean ====
section
/-! DEFINITION. The sequences that several commands share: the halt (R154), markers (R28), the drain notice (R14) with
the commit and rollback sequences it drives (R75, R89), damage (R15 to R18), commit requests and auto-commit
triggers (R72 to R74, R83 to R86), and the space indications (R36, R37). -/

namespace Sys2Proof.Machine

/-! ### Modes and the halt -/

/-- Change the mode; the host port judges the request in hand afresh (R128, R146). -/
def setMode (m : Mode) (s : State) : State := rejudge (s.setModes { s.modes with mode := m })

/-- The epoch controller on a halt: the table is emptied and the commit sequence is inactive, and no OPEN epoch
is left for a held trigger or full request (R9, R80, R84, R85). -/
def EpochController.halted (e : EpochController) : EpochController :=
  { e with table := ⟨none, none⟩, commit := none, heldTrigger := false, fullRequest := false }

/-- The capture unit on a halt: every capture is abandoned and the tag table freed (R58, R69). -/
def CaptureUnit.halted (_ : CaptureUnit) : CaptureUnit :=
  { tags := [], slots := #v[none, none, none, none], reads := [] }

/-- The ring manager on a halt: promised 0, an empty record write list, and no ring-blocked indication, since the
mode has left ACTIVE (R26, R29, R37). -/
def RingManager.halted (r : RingManager) : RingManager := { r with promised := 0, writes := [], blocked := false }

/-- The replay engine on a halt (R97, R104). -/
def ReplayEngine.halted (_ : ReplayEngine) : ReplayEngine :=
  { rollback := none, recovery := none, requests := [], headLine := none }

/-- The anchor unit on a halt: an update not yet built is dropped, one built goes on, and LOADING ends
(R116, R138, R140). -/
def AnchorUnit.halted (a : AnchorUnit) : AnchorUnit := { a with pendingUpdate := false, loading := none }

/-- The hold queue on a halt: every JOURNAL entry is discarded, PASS entries stay in their order (R52). -/
def HoldQueue.withoutJournal (h : HoldQueue) : HoldQueue :=
  { h with entries := h.entries.filter fun e => !e.isJournal }

/-- Every block acts on the halt at the same moment (R154). -/
def haltBlocks (s : State) : State :=
  { s with
    epochs := s.epochs.halted, ring := s.ring.halted, hold := s.hold.withoutJournal, capture := s.capture.halted,
    replay := s.replay.halted, anchor := s.anchor.halted }

/-- A block reports a halt cause. In HALTED it leaves the cause as it is and raises nothing (R154). -/
def halt (cause : Cause) (s : State) : State :=
  if s.modes.mode = .halted then s
  else
    raise .halted
      (rejudge (haltBlocks (s.setModes { s.modes with mode := .halted, cause := cause })))

/-! ### Markers -/

/-- Assign the head slot to a marker and put its head write at the end of the record write list (R28, R77, R94). -/
def assignMarker (kind : RecordKind) (epoch : Word) (s : State) : State :=
  let info : RecordInfo :=
    { kind := kind, epoch := epoch, line := none, slot := s.ring.head, sequence := s.ring.headSequence }
  s.setRing { s.ring.assign s.size with writes := s.ring.writes ++ [s.markerWrite info] }

/-- A marker is requested. With free ≥ 1 it is assigned a slot and `next` goes on with the slot and sequence;
with free 0 the bridge halts with cause RING-EXHAUSTED and one log entry (R28). -/
def requestMarker (kind : RecordKind) (epoch : Word) (next : Nat → Word → State → State) (s : State) : State :=
  if 1 ≤ s.free then next s.ring.head s.ring.headSequence (assignMarker kind epoch s)
  else halt .ringExhausted (logError .ringExhausted (some epoch) none (some s.ring.head) s)

/-! ### The commit sequence -/

/-- The commit sequence requests its marker, for a COMMIT record of epoch `n` (R77). -/
def queueCommitRecord (q : CommitSequence) (s : State) : State :=
  requestMarker .commit q.epoch
    (fun slot sequence t =>
      t.setEpochs { t.epochs with commit := some { q with phase := .markerWriting slot sequence } }) s

/-- The epoch of a commit sequence in DRAINING is COMMITTING with both counts 0 (R14). -/
def State.commitDrained (s : State) : Option CommitSequence :=
  match s.epochs.commit with
  | some q =>
    match q.phase, s.epochs.table.find q.epoch with
    | .draining, some e => if e.state = .committing ∧ e.drained = true then some q else none
    | _, _ => none
  | none => none

/-! ### The rollback sequence -/

def State.setRollback (s : State) (r : Option Rollback) : State := s.setReplay { s.replay with rollback := r }

/-- The walk is complete: the rollback requests the marker of its CLOSE record (R94). -/
def queueClose (highest : Word) (s : State) : State :=
  requestMarker .close highest
    (fun slot sequence t => t.setRollback (some { phase := .closing slot sequence, highest := highest })) s

/-- The reads of a slot, in the order the replay engine makes them (R92). -/
def slotReads (slot : Nat) : List ReplayRequest := [.readHead slot, .readBody slot]

/-- The walk from the head back over `count` slots (R91, R100). -/
def State.walkFromHead (s : State) (count : Nat) : Walk :=
  { cursor := previousSlot s.size s.ring.head, sequence := s.ring.headSequence - 1#32, left := count, outstanding := 0 }

/-- Captures have settled and epochs have drained: the rollback enters WALKING from the head, or goes straight to
its CLOSE record when used is 0 (R91). -/
def startWalk (highest : Word) (s : State) : State :=
  if s.ring.used = 0 then queueClose highest s
  else
    let w := s.walkFromHead s.ring.used
    s.setReplay { s.replay with
      rollback := some { phase := .walking w, highest := highest }, requests := slotReads w.cursor, headLine := none }

/-- Keep the two notices of SETTLING, and start the walk when both are yes (R91). -/
def settle (captures epochs : Bool) (highest : Word) (s : State) : State :=
  if captures && epochs then startWalk highest s
  else s.setRollback (some { phase := .settling captures epochs, highest := highest })

/-- The capture unit tells a rollback in SETTLING when every capture slot is IDLE (R68, R91). -/
def noteCapturesSettled (s : State) : State :=
  match s.replay.rollback with
  | some r =>
    match r.phase with
    | .settling false epochs => if s.capture.allIdle then settle true epochs r.highest s else s
    | _ => s
  | none => s

/-- The epoch controller tells a rollback in SETTLING when every epoch of the aborted set has drained (R14, R91). -/
def noteEpochsDrained (s : State) : State :=
  match s.replay.rollback with
  | some r =>
    match r.phase with
    | .settling captures false =>
      if s.epochs.table.epochs.all LiveEpoch.drained then settle captures true r.highest s else s
    | _ => s
  | none => s

/-- The drain notice: to the commit sequence of a COMMITTING epoch, or to the rollback sequence (R14). -/
def drainNotice (s : State) : State :=
  match s.commitDrained with
  | some q => queueCommitRecord q s
  | none => noteEpochsDrained s

/-! ### Damage -/

/-- The COMMITTING epoch `n` fails: it is FAILED and its commit sequence inactive, and in QUIESCING the mode
returns to ACTIVE and the next epoch opens (R17, R81, R149). -/
def failCommit (n : Word) (s : State) : State :=
  let t := raise .commitFailed
    (s.setEpochs { s.epochs with
      table := s.epochs.table.modify n fun e => { e with state := .failed }, commit := none })
  if s.modes.mode = .quiescing then setMode .active (openEpoch (n + 1#32) t) else t

/-- The first damage of a live epoch: its damaged flag is set and EPOCH-DAMAGED raised; a COMMITTING epoch fails
(R15, R17, R18). -/
def markDamaged (e : LiveEpoch) (s : State) : State :=
  let t := raise .epochDamaged
    (s.setTable (s.epochs.table.modify e.number fun x => { x with damaged := true }))
  if e.state = .committing then failCommit e.number t else t

/-- A damage report: logged, and the epoch marked if it is live and not yet damaged (R15, R18). -/
def reportDamage (kind : ErrorKind) (epoch line : Word) (s : State) : State :=
  let t := logError kind (some epoch) (some line) none s
  match t.epochs.table.find epoch with
  | some e => if e.damaged then t else markDamaged e t
  | none => t

/-! ### Commit requests -/

/-- How the table of R72 judges a commit request. -/
inductive CommitVerdict where
  | mode
  | busyCommitting
  | busy
  | damaged
  | empty (epoch : LiveEpoch)
  | commits (epoch : LiveEpoch)
deriving DecidableEq, Repr

/-- The first row of the table of R72 that applies. R148 judges a QUIESCE by the same rows. -/
def State.judgeCommit (s : State) : CommitVerdict :=
  if s.modes.mode ≠ .active then .mode
  else if s.rollingBack then .busy
  else if s.epochs.table.has .committing then .busyCommitting
  else if s.epochs.table.has .failed then .busy
  else
    match s.epochs.table.opened with
    | none => .busy
    | some e => if e.damaged then .damaged else if e.empty then .empty e else .commits e

/-- An empty OPEN epoch closes without a record (R8, R73). -/
def closeEmpty (n : Word) (s : State) : State :=
  bump .commits (raise .commitDone
    (s.setEpochs { s.epochs with
      closedThrough := n, table := s.epochs.table.remove n, heldTrigger := false, fullRequest := false }))

/-- The OPEN epoch `n` becomes COMMITTING: its SAVED tags are freed, its held trigger and full request dropped,
and the commit sequence starts in DRAINING (R57, R74, R84, R85, R149). -/
def startCommit (purpose : CommitPurpose) (n : Word) (s : State) : State :=
  let t := s.setEpochs { s.epochs with
    table := s.epochs.table.modify n fun e => { e with state := .committing }
    commit := some { epoch := n, purpose := purpose, phase := .draining }
    heldTrigger := false, fullRequest := false }
  t.setCapture { t.capture with tags := freeSaved n t.capture.tags }

/-- A commit request taken on the empty OPEN epoch `n`: it closes and the next opens (R73). -/
def commitEmpty (n : Word) (s : State) : State := openEpoch (n + 1#32) (closeEmpty n s)

/-- A commit request taken on the OPEN epoch `n`, not empty: it becomes COMMITTING and the next opens; an epoch
that has drained goes straight on to its marker (R74). -/
def commitOpen (n : Word) (s : State) : State :=
  drainNotice (openEpoch (n + 1#32) (startCommit .commit n s))

/-! ### Auto-commit triggers -/

/-- Triggers act only in ACTIVE with an OPEN epoch and the freeze flag clear (R86). -/
def State.triggersAct (s : State) : Bool :=
  s.modes.mode == .active && s.epochs.table.opened.isSome && !s.modes.freeze

/-- A trigger fires; `full` says it is the full trigger. It is judged as a COMMIT, and a refusal suppresses it:
BUSY for a COMMITTING epoch holds it, and any BUSY holds the full request of a full trigger (R84, R85). -/
def fireTrigger (full : Bool) (s : State) : State :=
  if s.triggersAct then
    match s.judgeCommit with
    | .empty e => commitEmpty e.number s
    | .commits e => commitOpen e.number s
    | .busyCommitting =>
      s.setEpochs { s.epochs with heldTrigger := true, fullRequest := full || s.epochs.fullRequest }
    | .busy => s.setEpochs { s.epochs with fullRequest := full || s.epochs.fullRequest }
    | .mode => s
    | .damaged => s
  else s

/-- The line threshold trigger holds (R83). -/
def LiveEpoch.thresholdReached (e : LiveEpoch) : Bool :=
  decide (e.threshold ≠ 0#16 ∧ e.threshold.toNat ≤ e.lines)

/-- The age trigger holds at time `now`: the limit is on and limit × 1,000 µs have passed since the first record
time (R83). -/
def LiveEpoch.ageReached (now : Nat) (e : LiveEpoch) : Bool :=
  match e.firstTime with
  | some t => decide (e.ageLimit ≠ 0#16 ∧ e.ageLimit.toNat * 1000 ≤ now - t)
  | none => false

/-- A trigger of the OPEN epoch holds: threshold or age (R83). -/
def State.countOrAgeHolds (s : State) : Bool :=
  match s.epochs.table.opened with
  | some e => e.thresholdReached || e.ageReached s.pins.now
  | none => false

/-- Re-examine the trigger of the OPEN epoch: the held-trigger indication becomes no, and the trigger acts again
if threshold or age holds or a full request is held (R85). -/
def reexamine (s : State) : State :=
  let t := s.setEpochs { s.epochs with heldTrigger := false }
  if t.countOrAgeHolds || t.epochs.fullRequest then fireTrigger t.epochs.fullRequest t else t

/-! ### Space indications -/

/-- The low-space indication as the state now gives it (R36). -/
def State.lowNow (s : State) : Bool :=
  s.anchor.working.hasJournal && decide (s.free ≤ s.anchor.working.watermark.toNat)

/-- Recompute the low-space indication; from no to yes raises JOURNAL-LOW (R36). -/
def updateLow (s : State) : State :=
  let t := s.setRing { s.ring with lowSpace := s.lowNow }
  if s.lowNow && !s.ring.lowSpace then raise .journalLow t else t

/-- The ring-blocked indication as the state now gives it: ACTIVE, and an entry is held back only by free ≤ 2
(R37). -/
def State.blockedNow (s : State) : Bool :=
  s.modes.mode == .active && s.capture.idleSlot.isSome && (firstEligible [] s.hold.entries).isSome &&
    decide (s.free ≤ Config.captureReserve)

/-- Recompute the ring-blocked indication; from no to yes raises JOURNAL-FULL and, with full policy COMMIT, fires
the full trigger, and no clears the full request (R37, R84). -/
def updateBlocked (s : State) : State :=
  let t := s.setRing { s.ring with blocked := s.blockedNow }
  if s.blockedNow then
    if s.ring.blocked then t
    else
      let u := raise .journalFull t
      if s.anchor.working.fullPolicy = 1#2 then fireTrigger true u else u
  else t.setEpochs { t.epochs with fullRequest := false }

/-- The ring manager recomputes both indications at the end of a step that may change what they rest on: low space for
what the step did, ring blocked with its full trigger, and low space again for what the trigger did (R36, R37; log
entry 21). -/
def updateSpace (s : State) : State := updateLow (updateBlocked (updateLow s))

end Sys2Proof.Machine
end

