-- ==== Sys2Proof/Machine/Recovery.lean ====
section
/-! DEFINITION. What the answers to memory requests set going in the owning blocks: the judging of anchor writes (R141,
R144, R145), of the anchor copies at LOADING (R138, R139), the scan and the walks (R92 to R101), the ends of
captures (R64, R65, R67), commits (R78), rollbacks (R95) and recoveries (R102, R103), and the memory answer
timeout (R115). -/

namespace Sys2Proof.Machine

/-! ### Recoveries and quiesces that wait for an anchor update -/

/-- The mode a start mode names (R137, R175). -/
def startModeOf (m : BitVec 2) : Mode := if m = 1#2 then .active else .quiesced

/-- A recovery waiting in ANCHORING completes (R103, R147). -/
def completeRecovery (s : State) : State :=
  match s.replay.anchoring with
  | none => s
  | some closed =>
    let t := raise .recoveryDone
      ((s.setEpochs { s.epochs with closedThrough := closed }).setReplay { s.replay with recovery := none })
    let mode := startModeOf s.anchor.working.startMode
    setMode mode (if mode = .active then openEpoch (closed + 1#32) t else t)

/-- A quiesce waiting in ANCHOR-WAIT gives its completion notice (R82, R149). -/
def completeQuiesce (s : State) : State :=
  match s.epochs.commit with
  | some q =>
    if q.phase = .anchorWait then
      raise .quiesced (setMode .quiesced (s.setEpochs { s.epochs with commit := none }))
    else s
  | none => s

/-- The recovery asks for the anchor update that ends it (R103). -/
def anchorRecovery (q : Recovery) (closed : Word) (s : State) : State :=
  requestUpdate
    (s.setReplay { s.replay with recovery := some { q with phase := .anchoring, recoveredThrough := some closed } })

/-! ### Judging an anchor write -/

/-- The ring manager takes the tail an acknowledged update carried (R32), or, for the update that ends a recovery,
an empty ring at the head with the carried sequence (R34). -/
def RingManager.takeTail (r : RingManager) (tail : Nat) (sequence : Word) (endsRecovery : Bool) : RingManager :=
  if endsRecovery then { r with tail := r.head, tailSequence := sequence, headSequence := sequence, used := 0 }
  else { r with tail := tail, tailSequence := sequence, used := r.used - (sequence - r.tailSequence).toNat }

/-- The one log entry of a faulted anchor write, carrying the line address of its first line answered FAULT; a line
that a timeout ended makes none (R115, R141, R145; log entry 11). -/
def logAnchorFault (target : Copy) (first second : LineAnswer) (s : State) : State :=
  if first = .fault then logError .anchorWriteFault none (some (s.copyAddress target false)) none s
  else if second = .fault then logError .anchorWriteFault none (some (s.copyAddress target true)) none s
  else s

/-- The target of an acknowledged anchor write becomes current (R141, R144, R145). -/
def makeCurrent (w : AnchorWrite) (s : State) : State :=
  s.setAnchor { s.anchor with current := some w.target, generation := w.generation }

/-- An update is judged, both its lines answered (R141). -/
def judgeUpdate (w : AnchorWrite) (tail : Nat) (sequence : Word) (endsRecovery : Bool) (first second : LineAnswer)
    (s : State) : State :=
  if first = .done ∧ second = .done then
    let t := makeCurrent w (s.setAnchor { s.anchor with stale := false })
    t.setRing (t.ring.takeTail tail sequence endsRecovery)
  else
    raise .anchorStale (logAnchorFault w.target first second (s.setAnchor { s.anchor with stale := true }))

/-- A successful STORE resets the ring (R35). -/
def RingManager.resetTo (r : RingManager) (ringId : Word) : RingManager :=
  { r with head := 0, headSequence := 0#32, tail := 0, tailSequence := 0#32, ringId := ringId, used := 0 }

/-- A STORE succeeds: the working configuration and the ring are replaced, STORE-DONE is raised, and the blocks act
on the change (R35, R52, R128, R132, R144). -/
def installStore (w : AnchorWrite) (c : Configuration) (s : State) : State :=
  let t := makeCurrent w (s.setAnchor { s.anchor with stale := false, working := c })
  let u := raise .storeDone (t.setRing (t.ring.resetTo w.generation))
  let v := u.setHold { u.hold with entries := u.hold.entries.filter fun e => !c.inArea e.line }
  reclassify (discardDeferred (fun d => v.guarded d.line) v)

/-- A STORE is judged, both its lines answered. After the mode has entered HALTED, both lines DONE take the copy and its
generation and nothing else (R144, R145): that the stale flag and the ring then stay as they were is the model's choice
(DESIGN CHOICE, log entry 17), and so is the log entry of a faulted line (log entry 12). -/
def judgeStore (w : AnchorWrite) (c : Configuration) (first second : LineAnswer) (s : State) : State :=
  if first = .done ∧ second = .done then
    if s.modes.mode = .halted then makeCurrent w s else installStore w c s
  else
    let t := logAnchorFault w.target first second s
    if s.modes.mode = .halted then t else raise .storeFailed t

/-- An anchor write is judged: it is no longer in flight, a pending update is built, and the recovery or the quiesce
that waited on this update goes on. A quiesce whose own update is the one pending waits on (R79, R82, R141;
log entry 16). -/
def judgeAnchorWrite (w : AnchorWrite) (first second : LineAnswer) (s : State) : State :=
  let t := s.setAnchor { s.anchor with write := none }
  match w.kind with
  | .update tail sequence endsRecovery =>
    let u := judgeUpdate w tail sequence endsRecovery first second t
    let v := completeRecovery (buildPending u)
    if u.anchor.pendingUpdate then v else completeQuiesce v
  | .store c => buildPending (judgeStore w c first second t)

/-- A line of the anchor write in flight is answered: the first answer is kept, the second judges the write
(R141, R144). -/
def anchorLineAnswered (second : Bool) (a : LineAnswer) (s : State) : State :=
  match s.anchor.write with
  | none => s
  | some w =>
    if second then
      match w.first with
      | some first => judgeAnchorWrite w first a s
      | none => s
    else s.setAnchor { s.anchor with write := some { w with first := some a } }

/-! ### LOADING -/

/-- Judge the copy whose two lines were answered with `first` and `second`; a FAULT makes it invalid (R138). -/
def judgeLines (base : Word) (first second : Option (List Byte)) : Option AnchorFields :=
  match first, second with
  | some x, some y => judgeCopy base (x ++ y)
  | _, _ => none

/-- Choose the current copy: copy B when both are valid and its generation is after copy A's, else copy A, else the
one that is valid (R139). -/
def chooseCopy (a b : Option AnchorFields) : Option (Copy × AnchorFields) :=
  match a, b with
  | some x, some y => if after y.generation x.generation then some (.b, y) else some (.a, x)
  | some x, none => some (.a, x)
  | none, some y => some (.b, y)
  | none, none => none

/-- The ring state taken from the current copy (R34). -/
def RingManager.load (r : RingManager) (f : AnchorFields) : RingManager :=
  { r with head := f.tail, headSequence := f.tailSequence, tail := f.tail, tailSequence := f.tailSequence,
           ringId := f.ringId, used := 0, promised := 0 }

/-- A copy is current: configuration, ring and closed-through are taken from it, and RECOVERING starts with the scan
of the tail slot (R2, R34, R98, R99, R139, R142, R147). -/
def loadCopy (c : Copy) (f : AnchorFields) (s : State) : State :=
  setMode .recovering
    { s with
      anchor := { s.anchor with
        working := f.configuration, current := some c, generation := f.generation, stale := false, loading := none }
      ring := s.ring.load f
      epochs := { s.epochs with closedThrough := f.closedThrough }
      management := { s.management with pending := f.configuration }
      replay := { s.replay with
        recovery := some
          { phase := .scanning 0, ringId := f.ringId, runLength := none, lastMarker := none, cutoff := none,
            highest := none, recoveredThrough := none }
        requests := slotReads f.tail
        headLine := none } }

/-- No copy is valid: the no-anchor defaults, BYPASS with cause NO-ANCHOR, and the NO-ANCHOR event (R139, R142,
R147). -/
def loadNothing (s : State) : State :=
  raise .noAnchor
    (setMode .bypass
      { s with
        anchor := { s.anchor with
          working := .noAnchor, current := none, generation := 0#32, stale := false, loading := none }
        management := { s.management with pending := .noAnchor }
        modes := { s.modes with cause := .noAnchor } })

/-- The answers of the four anchor reads, in order, are judged (R138, R139). -/
def judgeCopies (s : State) : List (Option (List Byte)) → State
  | [a1, a2, b1, b2] =>
    match chooseCopy (judgeLines s.anchorBase a1 a2) (judgeLines s.anchorBase b1 b2) with
    | some (c, f) => loadCopy c f s
    | none => loadNothing s
  | _ => s

/-- An anchor read at LOADING is answered: the answer is kept, and the fourth has the copies judged (R138). -/
def anchorReadAnswered (a : ReadAnswer) (s : State) : State :=
  match s.anchor.loading with
  | none => s
  | some l =>
    let answers := l.answers ++ [match a with | .done data => some data | .fault => none]
    let t := s.setAnchor { s.anchor with loading := some { l with answers := answers } }
    if answers.length = 4 then judgeCopies t answers else t

/-! ### Walks and the scan -/

/-- The walk after a record has been acted on: the cursor moves back by one (R92), and a restore adds to the
restore writes outstanding (R93). -/
def Walk.back (w : Walk) (size : Nat) (restored : Bool) : Walk :=
  { cursor := previousSlot size w.cursor, sequence := w.sequence - 1#32, left := w.left - 1,
    outstanding := if restored then w.outstanding + 1 else w.outstanding }

/-- The walk is complete: no slots left and no restore writes outstanding (R94, R101). -/
def Walk.complete (w : Walk) : Bool := w.left == 0 && w.outstanding == 0

/-- The requests that follow a judged walk slot: its restore write, if any, before the reads of the slot below
(R92, R93). -/
def walkRequests (restore : Option ReplayRequest) (w : Walk) : List ReplayRequest :=
  restore.toList ++ (if w.left = 0 then [] else slotReads w.cursor)

/-- The restore write of a verified record: a LINE record whose epoch is after `closed` (R93, R101). -/
def restoreOf (closed : Word) (info : RecordInfo) (body : List Byte) : Option ReplayRequest :=
  match info.kind, info.line with
  | .line, some line => if after info.epoch closed then some (.restore info.slot info.epoch line body) else none
  | _, _ => none

/-- A record fails verification in a walk: log entry and halt (R96, R101). -/
def failCheck (slot : Nat) (s : State) : State :=
  halt .replayCheck (logError .replayCheck none none (some slot) s)

/-- A record read of the replay engine is answered FAULT: log entry and halt (R96, R99, R104). In the scan it ends the
run, and that head slot, head sequence and used stay as LOADING set them is the model's choice (R33, R34; DESIGN CHOICE,
log entry 28). -/
def failReplayRead (slot : Nat) (s : State) : State :=
  halt .replayFault (logError .replayFault none none (some slot) s)

/-- A slot of the rollback's walk is judged (R92, R93, R94). -/
def judgeRollbackSlot (r : Rollback) (w : Walk) (head body : List Byte) (s : State) : State :=
  match verifyRecord s.ring.ringId w.sequence w.cursor head body with
  | none => failCheck w.cursor s
  | some info =>
    let restore := restoreOf s.epochs.closedThrough info body
    let next := w.back s.size restore.isSome
    let t := s.setReplay { s.replay with
      rollback := some { r with phase := .walking next }, requests := walkRequests restore next, headLine := none }
    if next.complete then queueClose r.highest t else t

/-- The recovery's walk is complete: nothing restored goes on to ANCHORING, else a CLOSE record is requested for the
highest rolled-back epoch (R101, R102). -/
def finishRestoring (q : Recovery) (s : State) : State :=
  match q.highest with
  | none => anchorRecovery q (q.recoveredThrough.getD s.epochs.closedThrough) s
  | some highest =>
    requestMarker .close highest
      (fun _ _ t => t.setReplay { t.replay with recovery := some { q with phase := .closing } }) s

/-- The highest rolled-back epoch after a restore of epoch `e` (R101). -/
def raiseHighest (highest : Option Word) (e : Word) : Option Word :=
  match highest with
  | none => some e
  | some h => if after e h then some e else some h

/-- A slot of the recovery's walk is judged (R101). -/
def judgeRecoverySlot (q : Recovery) (w : Walk) (head body : List Byte) (s : State) : State :=
  match verifyRecord q.ringId w.sequence w.cursor head body with
  | none => failCheck w.cursor s
  | some info =>
    let restore := restoreOf (q.cutoff.getD s.epochs.closedThrough) info body
    let next := w.back s.size restore.isSome
    let q' : Recovery :=
      { q with phase := .restoring next,
               highest := if restore.isSome then raiseHighest q.highest info.epoch else q.highest }
    let t := s.setReplay { s.replay with
      recovery := some q', requests := walkRequests restore next, headLine := none }
    if next.complete then finishRestoring q' t else t

/-- The scan ends with a run of `k` slots: the cutoff is fixed, the ring takes its head from the run end, and
RESTORING or ANCHORING begins (R34, R99, R100). -/
def endScan (q : Recovery) (k : Nat) (s : State) : State :=
  let cutoff :=
    match q.lastMarker with
    | some m => later m s.epochs.closedThrough
    | none => s.epochs.closedThrough
  let t := s.setRing { s.ring with
    head := (s.ring.tail + k) % s.size, headSequence := s.ring.tailSequence + BitVec.ofNat 32 k, used := k }
  let q' : Recovery :=
    { q with runLength := some k, cutoff := some cutoff, recoveredThrough := some cutoff }
  if k = 0 then anchorRecovery q' cutoff t
  else
    let w := t.walkFromHead k
    t.setReplay { t.replay with
      recovery := some { q' with phase := .restoring w }, requests := slotReads w.cursor, headLine := none }

/-- A slot of the scan is judged: it extends the run, or ends it (R33, R99). -/
def judgeScanSlot (q : Recovery) (k : Nat) (head body : List Byte) (s : State) : State :=
  let t := s.setReplay { s.replay with headLine := none }
  match verifyRecord q.ringId (s.ring.tailSequence + BitVec.ofNat 32 k) ((s.ring.tail + k) % s.size) head body with
  | none => endScan q k t
  | some info =>
    let q' : Recovery := { q with lastMarker := if info.kind = .line then q.lastMarker else some info.epoch }
    if k + 1 = s.size then endScan q' (k + 1) t
    else
      t.setReplay { t.replay with
        recovery := some { q' with phase := .scanning (k + 1) }
        requests := slotReads ((s.ring.tail + (k + 1)) % s.size) }

/-- The body read of a slot is answered DONE, its head line kept: the slot is judged by the sequence that runs; with
none running the answer is dropped (R92, R97, R99, R101). -/
def replayBodyRead (body : List Byte) (s : State) : State :=
  match s.replay.headLine, s.replay.rollback, s.replay.recovery with
  | some head, some r, _ =>
    match r.phase with
    | .walking w => judgeRollbackSlot r w head body s
    | _ => s
  | some head, none, some q =>
    match q.phase with
    | .scanning k => judgeScanSlot q k head body s
    | .restoring w => judgeRecoverySlot q w head body s
    | _ => s
  | _, _, _ => s

/-- The replay engine runs a sequence; after a halt its answers act on nothing (R97). -/
def ReplayEngine.running (r : ReplayEngine) : Bool := r.rollback.isSome || r.recovery.isSome

/-- A restore write is answered DONE: restore writes outstanding falls by one, and the walk may be complete (R93,
R94, R101). -/
def restoreDone (s : State) : State :=
  match s.replay.rollback, s.replay.recovery with
  | some r, _ =>
    match r.phase with
    | .walking w =>
      let next := { w with outstanding := w.outstanding - 1 }
      let t := s.setRollback (some { r with phase := .walking next })
      if next.complete then queueClose r.highest t else t
    | _ => s
  | none, some q =>
    match q.phase with
    | .restoring w =>
      let next := { w with outstanding := w.outstanding - 1 }
      let q' : Recovery := { q with phase := .restoring next }
      let t := s.setReplay { s.replay with recovery := some q' }
      if next.complete then finishRestoring q' t else t
    | _ => s
  | none, none => s

/-- A restore write is answered FAULT: log entry and halt (R96, R104). -/
def restoreFaulted (slot : Nat) (epoch line : Word) (s : State) : State :=
  if s.replay.running then
    halt .replayFault (logError .replayFault (some epoch) (some line) (some slot) s)
  else s

/-! ### Captures -/

/-- The capture slot whose record is `info`, with its capture (R64). -/
def CaptureUnit.ofRecord (c : CaptureUnit) (info : RecordInfo) : Option (Fin 4 × Capture) :=
  slotOrder.findSome? fun i =>
    match c.slots[i] with
    | some x =>
      match x.phase with
      | .writing _ slot sequence => if slot = info.slot ∧ sequence = info.sequence then some (i, x) else none
      | .reading _ => none
    | none => none

/-- The entry is the owner of the capture, or waits on its tag entry (R44, R50). -/
def HoldEntry.servedBy (e : HoldEntry) (c : Capture) : Bool :=
  c.hold == some e.id || (e.state == .waitCapture && e.tag.isSome && e.tag == c.tag)

/-- The owner and every entry waiting on the tag entry become READY (R44). -/
def readyServed (c : Capture) (entries : List HoldEntry) : List HoldEntry :=
  entries.map fun e => if e.servedBy c then { e with state := .ready, tag := none, capture := none } else e

/-- The capture in slot `i` ends with its record durable (R44, R56, R64, R68). -/
def endCapture (i : Fin 4) (c : Capture) (s : State) : State :=
  let isOpen := (s.epochs.table.opened.map (·.number)) == some c.epoch
  let tags := if isOpen then setTag c.tag .saved s.capture.tags else freeTag c.tag s.capture.tags
  let t := s.setCapture ({ s.capture with tags := tags }.setSlot i none)
  noteCapturesSettled (t.setHold { t.hold with entries := readyServed c t.hold.entries })

/-- A capture read slot is given up without a record: the promise is released, the tag entry freed, and the capture
slot IDLE (R26, R56, R65, R67). The low-space indication follows the space freed, before a marker of the same step can
take it again (R24, R36; log entry 21). -/
def releaseCapture (i : Fin 4) (c : Capture) (s : State) : State :=
  let t := s.setRing { s.ring with promised := s.ring.promised - 1 }
  updateLow (t.setCapture ({ t.capture with tags := freeTag c.tag t.capture.tags }.setSlot i none))

/-- A capture read is answered FAULT (R50, R65). -/
def faultCapture (i : Fin 4) (c : Capture) (s : State) : State :=
  let t := reportDamage .captureReadFault c.epoch c.line s
  let lost := (t.hold.entries.filter fun e => e.servedBy c).length
  let u := t.setHold { t.hold with entries := t.hold.entries.filter fun e => !e.servedBy c }
  let v := u.setTable (u.epochs.table.modify c.epoch fun e => { e with held := e.held - lost })
  noteCapturesSettled (releaseCapture i c v)

/-- The epoch controller counts a LINE record assigned slot `slot` at time `now` (R13). -/
def LiveEpoch.countLine (e : LiveEpoch) (slot now : Nat) : LiveEpoch :=
  { e with
    lines := min (e.lines + 1) 4294967295
    firstSlot := some (e.firstSlot.getD slot)
    firstTime := some (e.firstTime.getD now) }

/-- The line threshold of the OPEN epoch, when it is epoch `n`, is tested and holds (R83). -/
def State.thresholdOf (s : State) (n : Word) : Bool :=
  match s.epochs.table.opened with
  | some e => e.number == n && e.thresholdReached
  | none => false

/-- A capture read not cancelled is answered DONE: a ring slot is assigned, the LINE record is built and queued, the
epoch counts it, and the line threshold is tested when the epoch is OPEN. The age, tested too at the first assignment,
is 0 there and below every limit that is on (R13, R27, R63, R83). -/
def assignLine (i : Fin 4) (c : Capture) (data : List Byte) (s : State) : State :=
  let info : RecordInfo :=
    { kind := .line, epoch := c.epoch, line := some c.line, slot := s.ring.head, sequence := s.ring.headSequence }
  let ring := s.ring.assign s.size
  let t := s.setRing { ring with
    promised := s.ring.promised - 1, writes := s.ring.writes ++ s.lineRecordWrites info c.window data }
  let u := t.setCapture
    (t.capture.setSlot i (some { c with phase := .writing data info.slot info.sequence }))
  let v := u.setTable (u.epochs.table.modify c.epoch fun e => e.countLine info.slot u.pins.now)
  if v.thresholdOf c.epoch then fireTrigger false v else v

/-! ### Durable markers -/

/-- The commit point (R78). -/
def commitPoint (info : RecordInfo) (s : State) : State :=
  match s.epochs.commit with
  | some q =>
    if q.epoch = info.epoch then
      let t := bump .commits (raise .commitDone
        (s.setEpochs { s.epochs with
          closedThrough := q.epoch
          table := s.epochs.table.remove q.epoch
          commit := match q.purpose with | .commit => none | .quiesce => some { q with phase := .anchorWait } }))
      let u := requestUpdate t
      if q.purpose = .commit ∧ u.epochs.heldTrigger = true ∧ u.modes.freeze = false then reexamine u else u
    else s
  | none => s

/-- The CLOSE record of a rollback is acknowledged: the rollback ends (R95). -/
def endRollback (r : Rollback) (s : State) : State :=
  let t := (s.setEpochs { s.epochs with closedThrough := r.highest, table := ⟨none, none⟩ }).setRollback none
  bump .rollbacks (raise .rollbackDone (requestUpdate (openEpoch (r.highest + 1#32) t)))

/-- A CLOSE record is acknowledged: it ends a rollback, or takes a recovery on to ANCHORING (R95, R102). -/
def closeDurable (info : RecordInfo) (s : State) : State :=
  match s.replay.rollback, s.replay.recovery with
  | some r, _ =>
    match r.phase with
    | .closing _ _ => endRollback r s
    | _ => s
  | none, some q =>
    match q.phase with
    | .closing => anchorRecovery q info.epoch s
    | _ => s
  | none, none => s

/-- The head write of a record is acknowledged: the record is durable and its owner goes on; after a halt the answer
is dropped (R30, R64, R69, R78, R95, R102). -/
def recordDurable (info : RecordInfo) (s : State) : State :=
  if s.modes.mode = .halted then s
  else
    let t := bump .records s
    match info.kind with
    | .line =>
      match t.capture.ofRecord info with
      | some (i, c) => endCapture i c t
      | none => t
    | .commit => commitPoint info t
    | .close => closeDurable info t

/-- A record write is answered FAULT: one log entry and the halt; after a halt the answer is dropped (R30, R66). -/
def recordFaulted (info : RecordInfo) (s : State) : State :=
  if s.modes.mode = .halted then s
  else if s.modes.mode = .recovering then
    halt .replayFault (logError .replayFault (some info.epoch) info.line (some info.slot) s)
  else halt .recordWriteFault (logError .recordWriteFault (some info.epoch) info.line (some info.slot) s)

/-! ### The memory answer timeout -/

/-- An ISSUED entry ended by a timeout reaches its owner as a FAULT answer marked as a timeout. The owners that the
halt has emptied drop it (R115). -/
def endTimedOut (s : State) (e : MemoryEntry) : State :=
  match e.source with
  | .hostRead _ owner => hostReadAnswered owner .fault s
  | .deferredFetch i abandoned => if abandoned then s else fetchFaulted i s
  | .anchorWrite _ second => anchorLineAnswered second .timedOut s
  | .holdRelease _ => s
  | .captureRead _ => s
  | .recordWrite _ _ => s
  | .anchorRead _ _ => s
  | .replayRead _ _ => s
  | .restoreWrite _ _ => s

/-- The ring slot a MEMORY-TIMEOUT entry carries: that of a record write or a replay read (R115). -/
def Source.ringSlot : Source → Option Nat
  | .recordWrite info _ => some info.slot
  | .replayRead slot _ => some slot
  | .hostRead _ _ => none
  | .deferredFetch _ _ => none
  | .holdRelease _ => none
  | .captureRead _ => none
  | .anchorRead _ _ => none
  | .anchorWrite _ _ => none
  | .restoreWrite _ _ => none

/-- The oldest ISSUED request times out: log entry, halt, and every ISSUED entry ended as faulted, oldest first;
WAITING entries stay (R115, R116). -/
def timeOut (s : State) : State :=
  match s.oldestIssued with
  | none => s
  | some e =>
    let t := halt .memoryTimeout (logError .memoryTimeout none (some e.line) e.source.ringSlot s)
    let ended := t.memory.queue.filter fun x => x.issued.isSome
    let waiting := t.memory.queue.filter fun x => x.issued.isNone
    ended.foldl endTimedOut (t.setMemory { t.memory with queue := waiting })

end Sys2Proof.Machine
end

