-- ==== Sys2Proof/Machine/Answers.lean ====
section
/-! DEFINITION. The commands by which the memory answers (R108, R113), or does not (R115), and the expiry of the
auto-commit age (R83). Each answer row takes the oldest ISSUED entry when its source is the row's. -/

namespace Sys2Proof.Machine

/-! ### The host port's answers -/

/-- The owner of a HOST-READ entry. -/
def Source.asHostRead : Source → Option ReadOwner
  | .hostRead _ owner => some owner
  | _ => none

/-- HOST_READ_ANSWER (R113, R127, R131). -/
def execHostReadAnswer (answer : ReadAnswer) (s : State) : Host.Outcome State Fault Refusal :=
  whileRunning (onAnswer Source.asHostRead fun owner _ => hostReadAnswered owner answer) s

/-- The slot of a DEFERRED-FETCH entry, and whether the fetch is abandoned. -/
def Source.asDeferredFetch : Source → Option (Fin 4 × Bool)
  | .deferredFetch i abandoned => some (i, abandoned)
  | _ => none

/-- DEFERRED_FETCH_ANSWER (R113, R131); the answer of an abandoned fetch is dropped (R132). -/
def execDeferredFetchAnswer (answer : ReadAnswer) (s : State) : Host.Outcome State Fault Refusal :=
  whileRunning (onAnswer Source.asDeferredFetch fun x _ s => if x.2 then s else fetchAnswered x.1 answer s) s

/-! ### Data writes -/

/-- The epoch of a released JOURNAL data write. -/
def Source.asDataWrite : Source → Option Word
  | .holdRelease (some n) => some n
  | _ => none

/-- The answer to a JOURNAL data write: the count falls by one, FAULT is a damage report, and the epoch may have
drained (R12, R14, R15, R48). -/
def dataWriteAnswered (answer : WriteAnswer) (n : Word) (e : MemoryEntry) (s : State) : State :=
  let t := s.setTable (s.epochs.table.modify n fun x => { x with out := x.out - 1 })
  drainNotice (match answer with | .done => t | .fault => reportDamage .dataWriteFault n e.line t)

/-- DATA_WRITE_ANSWER (R12, R14, R15, R48). -/
def execDataWriteAnswer (answer : WriteAnswer) (s : State) : Host.Outcome State Fault Refusal :=
  whileRunning (onAnswer Source.asDataWrite fun n e s => updateSpace (dataWriteAnswered answer n e s)) s

/-- A released PASS data write. -/
def Source.asPassWrite : Source → Option Unit
  | .holdRelease none => some ()
  | _ => none

/-- The answer to a PASS data write ends it; FAULT is logged (R48, R114). -/
def passWriteAnswered (answer : WriteAnswer) (e : MemoryEntry) (s : State) : State :=
  match answer with
  | .done => s
  | .fault => logError .passWriteFault none (some e.line) none s

/-- PASS_WRITE_ANSWER (R48, R114). -/
def execPassWriteAnswer (answer : WriteAnswer) (s : State) : Host.Outcome State Fault Refusal :=
  whileRunning (onAnswer Source.asPassWrite fun _ => passWriteAnswered answer) s

/-! ### Capture reads -/

/-- The capture slot of a CAPTURE-READ entry. -/
def Source.asCaptureRead : Source → Option (Fin 4)
  | .captureRead i => some i
  | _ => none

/-- The answer of a capture read acts on its slot: `onReading` on a READING capture whose cancelled mark is
`cancelled`. A slot that a halt made IDLE drops the answer (R69), and a capture with the other mark is the other
row's (log entry 2). -/
def captureAnswered (cancelled : Bool) (onReading : Fin 4 → Capture → State → State) (s : State) : State :=
  match s.oldestIssued with
  | none => s
  | some e =>
    match e.source.asCaptureRead with
    | none => s
    | some i =>
      match s.capture.slots[i] with
      | none => dropOldest s
      | some c => if c.phase = .reading cancelled then onReading i c (dropOldest s) else s

/-- CAPTURE_READ_DONE (R27, R63). -/
def execCaptureReadDone (data : List Byte) (s : State) : Host.Outcome State Fault Refusal :=
  whileRunning (captureAnswered false fun i c s => updateSpace (assignLine i c data s)) s

/-- CAPTURE_READ_FAULT (R50, R65). -/
def execCaptureReadFault (s : State) : Host.Outcome State Fault Refusal :=
  whileRunning (captureAnswered false fun i c s => updateSpace (faultCapture i c s)) s

/-- The answer to a cancelled read: DONE releases the promise and drops the data; FAULT acts as a capture read fault
(R26, R67). -/
def cancelledAnswered (answer : ReadAnswer) (i : Fin 4) (c : Capture) (s : State) : State :=
  match answer with
  | .done _ => noteCapturesSettled (releaseCapture i c s)
  | .fault => faultCapture i c s

/-- CANCELLED_READ_ANSWER (R26, R65, R67). -/
def execCancelledReadAnswer (answer : ReadAnswer) (s : State) : Host.Outcome State Fault Refusal :=
  whileRunning (captureAnswered true fun i c s => updateSpace (cancelledAnswered answer i c s)) s

/-! ### Record writes -/

/-- The record of a head write. -/
def Source.asRecordHead : Source → Option RecordInfo
  | .recordWrite info true => some info
  | _ => none

/-- RECORD_HEAD_ACK (R30, R64, R78, R95, R102). -/
def execRecordHeadAck (s : State) : Host.Outcome State Fault Refusal :=
  whileRunning (onAnswer Source.asRecordHead fun info _ s => updateSpace (recordDurable info s)) s

/-- The record of a body write. -/
def Source.asRecordBody : Source → Option RecordInfo
  | .recordWrite info false => some info
  | _ => none

/-- RECORD_BODY_ACK: the entry leaves the queue, with no effect on the capture slot (R64, R113). -/
def execRecordBodyAck (s : State) : Host.Outcome State Fault Refusal :=
  whileRunning (onAnswer Source.asRecordBody fun _ _ s => s) s

/-- The record of a record write, body or head. -/
def Source.asRecordWrite : Source → Option RecordInfo
  | .recordWrite info _ => some info
  | _ => none

/-- RECORD_WRITE_FAULT (R30, R66, R96, R104). -/
def execRecordWriteFault (s : State) : Host.Outcome State Fault Refusal :=
  whileRunning (onAnswer Source.asRecordWrite fun info _ s => updateSpace (recordFaulted info s)) s

/-! ### Anchor lines -/

/-- The line answer of a write answer (R136). -/
def lineAnswerOf : WriteAnswer → LineAnswer
  | .done => .done
  | .fault => .fault

/-- The first line of the anchor write in flight. -/
def Source.asFirstAnchorLine : Source → Option Unit
  | .anchorWrite _ false => some ()
  | _ => none

/-- ANCHOR_LINE_ANSWER: the answer of the first line is kept (R136, R141). -/
def execAnchorLineAnswer (answer : WriteAnswer) (s : State) : Host.Outcome State Fault Refusal :=
  whileRunning (onAnswer Source.asFirstAnchorLine fun _ _ => anchorLineAnswered false (lineAnswerOf answer)) s

/-- The second line of an anchor write. -/
def Source.asSecondAnchorLine : Source → Option Unit
  | .anchorWrite _ true => some ()
  | _ => none

/-- The anchor write in flight is an UPDATE. -/
def State.updateInFlight (s : State) : Bool :=
  match s.anchor.write with
  | some w => match w.kind with | .update _ _ _ => true | .store _ => false
  | none => false

/-- The anchor write in flight is a STORE (R143, R151, R153, R164). -/
def State.storeInFlight (s : State) : Bool :=
  match s.anchor.write with
  | some w => match w.kind with | .update _ _ _ => false | .store _ => true
  | none => false

/-- ANCHOR_UPDATE_ANSWER: the second line of an UPDATE is answered and the update is judged (R32, R82, R103,
R141). -/
def execAnchorUpdateAnswer (answer : WriteAnswer) (s : State) : Host.Outcome State Fault Refusal :=
  whileRunning (fun s =>
    if s.updateInFlight then
      onAnswer Source.asSecondAnchorLine (fun _ _ s => updateSpace (anchorLineAnswered true (lineAnswerOf answer) s)) s
    else s) s

/-- STORE_ANSWER: the second line of a STORE is answered and the STORE succeeds or fails (R144, R145). -/
def execStoreAnswer (answer : WriteAnswer) (s : State) : Host.Outcome State Fault Refusal :=
  whileRunning (fun s =>
    if s.storeInFlight then
      onAnswer Source.asSecondAnchorLine (fun _ _ s => updateSpace (anchorLineAnswered true (lineAnswerOf answer) s)) s
    else s) s

/-- An anchor read at LOADING. -/
def Source.asAnchorRead : Source → Option Unit
  | .anchorRead _ _ => some ()
  | _ => none

/-- ANCHOR_READ_ANSWER (R138, R139). -/
def execAnchorReadAnswer (answer : ReadAnswer) (s : State) : Host.Outcome State Fault Refusal :=
  whileRunning (onAnswer Source.asAnchorRead fun _ _ s => updateSpace (anchorReadAnswered answer s)) s

/-! ### Replay -/

/-- The ring slot of a head-line read. -/
def Source.asReplayHead : Source → Option Nat
  | .replayRead slot true => some slot
  | _ => none

/-- The ring slot of a body-line read. -/
def Source.asReplayBody : Source → Option Nat
  | .replayRead slot false => some slot
  | _ => none

/-- The head-line read of a slot is answered: kept until the body read is answered, or a halt (R92, R96, R99). -/
def replayHeadAnswered (answer : ReadAnswer) (slot : Nat) (s : State) : State :=
  if s.replay.running then
    match answer with
    | .done data => s.setReplay { s.replay with headLine := some data }
    | .fault => failReplayRead slot s
  else s

/-- The body read of a slot is answered: the slot is judged, or a halt (R92, R96, R99, R101). -/
def replayBodyAnswered (answer : ReadAnswer) (slot : Nat) (s : State) : State :=
  if s.replay.running then
    match answer with
    | .done data => replayBodyRead data s
    | .fault => failReplayRead slot s
  else s

/-- REPLAY_HEAD_READ_ANSWER (R92, R96, R99). -/
def execReplayHeadReadAnswer (answer : ReadAnswer) (s : State) : Host.Outcome State Fault Refusal :=
  whileRunning (onAnswer Source.asReplayHead fun slot _ s => updateSpace (replayHeadAnswered answer slot s)) s

/-- REPLAY_READ_ANSWER (R92 to R94, R99 to R104). -/
def execReplayReadAnswer (answer : ReadAnswer) (s : State) : Host.Outcome State Fault Refusal :=
  whileRunning (onAnswer Source.asReplayBody fun slot _ s => updateSpace (replayBodyAnswered answer slot s)) s

/-- The ring slot and record epoch of a restore write. -/
def Source.asRestore : Source → Option (Nat × Word)
  | .restoreWrite slot epoch => some (slot, epoch)
  | _ => none

/-- A restore write is answered (R93, R96). -/
def restoreAnswered (answer : WriteAnswer) (slot : Nat) (epoch line : Word) (s : State) : State :=
  match answer with
  | .done => restoreDone s
  | .fault => restoreFaulted slot epoch line s

/-- RESTORE_WRITE_ANSWER (R93, R94, R96, R101, R102, R104). -/
def execRestoreWriteAnswer (answer : WriteAnswer) (s : State) : Host.Outcome State Fault Refusal :=
  whileRunning (onAnswer Source.asRestore fun x e s => updateSpace (restoreAnswered answer x.1 x.2 e.line s)) s

/-! ### Answers that do not come, or do not fit -/

/-- The oldest ISSUED request times out, at the tick that is its issue time + 2,048 µs; the timer runs while the freeze
flag is set (R115; log entry 7). -/
def expireOldest (s : State) : State :=
  match s.oldestIssued with
  | some e =>
    match e.issued with
    | some t => updateSpace (timeOut (elapseTo (t + Config.answerLimit) s))
    | none => s
  | none => s

/-- MEMORY_TIMEOUT (R115, R116). -/
def execMemoryTimeout (s : State) : Host.Outcome State Fault Refusal := whileRunning expireOldest s

/-- UNEXPECTED_MEMORY_ANSWER: with no request outstanding it is ignored, and an answer whose kind does not fit the
oldest ISSUED entry is treated as the timeout of that entry (R108). -/
def execUnexpectedMemoryAnswer (kind : AnswerKind) (s : State) : Host.Outcome State Fault Refusal :=
  whileRunning (fun s =>
    match s.oldestIssued with
    | some e => if e.source.kind = kind then s else updateSpace (timeOut s)
    | none => s) s

/-! ### The auto-commit age -/

/-- The age of the OPEN epoch reaches its latched limit, which is on, at the tick that is its first record time + limit
× 1,000 µs, and the trigger fires; the age stands still while the freeze flag is set (R13, R83, R86; log entry 7). -/
def expireAge (s : State) : State :=
  if s.modes.freeze then s
  else
    match s.epochs.table.opened with
    | some e =>
      match e.firstTime with
      | some t =>
        if e.ageLimit = 0#16 then s
        else updateSpace (fireTrigger false (elapseTo (t + e.ageLimit.toNat * 1000) s))
      | none => s
    | none => s

/-- AUTO_COMMIT_AGE_EXPIRY (R83, R85, R86). -/
def execAutoCommitAgeExpiry (s : State) : Host.Outcome State Fault Refusal := whileRunning expireAge s

end Sys2Proof.Machine
end

