-- ==== Sys2Proof/Machine/Management.lean ====
section
/-! DEFINITION. The commands of the management port that act on its own state: READ and WRITE over the item map (R162 to
R166, R170, R175), ERROR-POP (R168), TAG-PROBE (R71), and the frames that do nothing (R160). -/

namespace Sys2Proof.Machine

/-! ### Responses -/

/-- Send a response part (R161). -/
def respond (status : Status) (words : List Word) (s : State) : State :=
  s.setManagement { s.management with response := some { status := status, words := words } }

/-- A frame. When CS# was low as reset ended, the port ignores the bytes until CS# rises, which the end of this frame
is (R160; log entry 10). -/
def onFrame (f : State → State) (s : State) : Host.Outcome State Fault Refusal :=
  whileRunning (fun s =>
    if s.management.awaitsDeselect then
      s.setManagement { s.management with awaitsDeselect := false, response := none }
    else f s) s

/-- A command with a word count of 0; any other is answered BAD-ITEM and does nothing (R72, R87, R143, R148, R151,
R153, R168). -/
def withoutWords (count : Byte) (f : State → State) (s : State) : State :=
  if count = 0#8 then f s else respond .badItem [] s

/-! ### Items -/

/-- The code of a mode (R175). -/
def Mode.code : Mode → Word
  | .loading => 0#32
  | .recovering => 1#32
  | .bypass => 2#32
  | .active => 3#32
  | .quiescing => 4#32
  | .quiesced => 5#32
  | .halted => 6#32

/-- The code of a cause (R175). -/
def Cause.code : Cause → Word
  | .none => 0#32
  | .noAnchor => 1#32
  | .recordWriteFault => 2#32
  | .replayFault => 3#32
  | .replayCheck => 4#32
  | .memoryTimeout => 5#32
  | .ringExhausted => 6#32

/-- The code of an epoch state (R175). -/
def EpochState.code : EpochState → Word
  | .opened => 0#32
  | .committing => 1#32
  | .failed => 2#32
  | .rollingBack => 3#32

/-- A one-bit item, or a bit of a packed item. -/
def flagAt (b : Bool) (bit : Nat) : Word := if b then BitVec.twoPow 32 bit else 0#32

/-- The descriptor item of an epoch; absent, it reads 0 (R19, R175). -/
def descriptor : Option LiveEpoch → Word
  | none => 0#32
  | some e => e.state.code ||| flagAt e.damaged 8 ||| flagAt true 31

/-- The number item of an epoch; absent, it reads 0 (R19, R175). -/
def numberItem (e : Option LiveEpoch) : Word := (e.map (·.number)).getD 0#32

/-- The epoch the OPEN epoch item reports: the OPEN one, or, while a rollback runs, the one that was OPEN when the
ABORT was taken, which is the highest aborted (R19, R88). -/
def State.openItem (s : State) : Option LiveEpoch :=
  match s.replay.rollback with
  | some r => s.epochs.table.find r.highest
  | none => s.epochs.table.opened

/-- The live epoch that the OPEN epoch item does not report (R19). -/
def State.otherItem (s : State) : Option LiveEpoch :=
  s.epochs.table.epochs.find? fun e => (s.openItem.map (·.number)) != some e.number

/-- A ring item; with no valid working configuration it reads 0 (R175). -/
def State.ringItem (s : State) (n : Nat) : Word :=
  if s.anchor.working.hasJournal then BitVec.ofNat 32 n else 0#32

/-- The current copy item (R175). -/
def copyCode : Option Copy → Word
  | none => 0#32
  | some .a => 1#32
  | some .b => 2#32

/-- The item at an address of the item map, and none outside it (R175). -/
def State.readItem (s : State) (address : Nat) : Option Word :=
  match address with
  | 0x0000 => some s.modes.mode.code
  | 0x0001 => some s.modes.cause.code
  | 0x0002 => some (flagAt s.modes.freeze 0)
  | 0x0003 => some (descriptor s.openItem)
  | 0x0004 => some (numberItem s.openItem)
  | 0x0005 => some (descriptor s.otherItem)
  | 0x0006 => some (numberItem s.otherItem)
  | 0x0007 => some s.epochs.closedThrough
  | 0x0008 => some (s.ringItem s.ring.head)
  | 0x0009 => some (s.ringItem s.ring.tail)
  | 0x000A => some (s.ringItem s.free)
  | 0x000B => some (s.ringItem s.ring.promised)
  | 0x000C => some (BitVec.ofNat 32 s.hold.entries.length)
  | 0x000D => some (BitVec.ofNat 32 s.capture.tags.length)
  | 0x000E => some s.anchor.generation
  | 0x000F => some (copyCode s.anchor.current)
  | 0x0010 => some (flagAt s.anchor.stale 0)
  | 0x0011 => some (BitVec.ofNat 32 s.management.log.length ||| flagAt s.management.overflow 8)
  | 0x0018 => some (s.management.flags.setWidth 32)
  | 0x0019 => some (s.management.enables.setWidth 32)
  | 0x001A => some (flagAt s.management.clearOnRead 0)
  | a =>
    if h : 0x0020 ≤ a ∧ a ≤ 0x002C then some (s.management.counters[a - 0x0020]'(by omega))
    else if 0x0100 ≤ a ∧ a ≤ 0x0116 then s.management.pending.item (a - 0x0100)
    else if 0x0200 ≤ a ∧ a ≤ 0x0216 then s.anchor.working.item (a - 0x0200)
    else none

/-- The addresses of a range: `count` consecutive items from `item` (R163, R164). An address above 0xFFFF stays
above it, and so outside the item map. -/
def itemRange (item : BitVec 16) (count : Nat) : List Nat := (List.range count).map (item.toNat + ·)

/-! ### READ -/

/-- The words of a READ of the given addresses, or none when one lies outside the item map (R163). -/
def State.readItems (s : State) : List Nat → Option (List Word)
  | [] => some []
  | a :: rest =>
    match s.readItem a, s.readItems rest with
    | some w, some ws => some (w :: ws)
    | _, _ => none

/-- Zero counter `k` when the range covers it (R170). -/
def zeroCovered (addresses : List Nat) (counters : Vector Word 13) (k : Fin 13) : Vector Word 13 :=
  if addresses.contains (0x0020 + k.val) then counters.set k 0#32 else counters

/-- The counters in their order. -/
def counterOrder : List (Fin 13) := [0, 1, 2, 3, 4, 5, 6, 7, 8, 9, 10, 11, 12]

/-- Zero the counters the range covers, when the clear-on-read flag is set (R170). -/
def clearCovered (addresses : List Nat) (s : State) : State :=
  if s.management.clearOnRead then
    s.setManagement { s.management with
      counters := counterOrder.foldl (zeroCovered addresses) s.management.counters }
  else s

/-- Judge and carry out a READ: all its words, the counters among them, are taken from the state at this moment
(R163, R170). -/
def readRange (item : BitVec 16) (count : Byte) (s : State) : State :=
  let addresses := itemRange item count.toNat
  if 1 ≤ count.toNat ∧ count.toNat ≤ 32 then
    match s.readItems addresses with
    | some words => respond .ok words (clearCovered addresses s)
    | none => respond .badItem [] s
  else respond .badItem [] s

/-- READ (R163). -/
def execRead (item : BitVec 16) (count : Byte) (s : State) : Host.Outcome State Fault Refusal :=
  onFrame (readRange item count) s

/-- COUNTER_SNAPSHOT: a READ that covers counters (R170). -/
def execCounterSnapshot (item : BitVec 16) (count : Byte) (s : State) : Host.Outcome State Fault Refusal :=
  onFrame (readRange item count) s

/-! ### WRITE -/

/-- The address belongs to the item map (R175). -/
def inItemMap (a : Nat) : Bool :=
  decide (a ≤ 0x0011 ∨ (0x0018 ≤ a ∧ a ≤ 0x001A) ∨ (0x0020 ≤ a ∧ a ≤ 0x002C) ∨
    (0x0100 ≤ a ∧ a ≤ 0x0116) ∨ (0x0200 ≤ a ∧ a ≤ 0x0216))

/-- A status item, a counter or a working configuration mirror item: read-only (R162, R164). -/
def lockedItem (a : Nat) : Bool :=
  decide (a ≤ 0x0011 ∨ (0x0020 ≤ a ∧ a ≤ 0x002C) ∨ (0x0200 ≤ a ∧ a ≤ 0x0216))

/-- A pending configuration item (R164, R175). -/
def pendingItem (a : Nat) : Bool := decide (0x0100 ≤ a ∧ a ≤ 0x0116)

/-- The status of a WRITE: the first row of the table of R164 that applies. -/
def State.judgeWrite (s : State) (addresses : List Nat) : Status :=
  if addresses.length = 0 ∨ 32 < addresses.length then .badItem
  else if !addresses.all inItemMap then .badItem
  else if addresses.any lockedItem then .locked
  else if addresses.any pendingItem && s.storeInFlight then .busy
  else .ok

/-- One item written (R164): event flags are cleared where a 1 is written (R165), enables and the clear-on-read flag
take the value (R166, R170), and a pending configuration item takes it whether or not it is in range (R142). -/
def writeItem (address : Nat) (value : Word) (s : State) : State :=
  match address with
  | 0x0018 => s.setManagement (s.management.setFlags (s.management.flags &&& ~~~(value.setWidth 14)))
  | 0x0019 => s.setManagement (s.management.setEnables (value.setWidth 14))
  | 0x001A => s.setManagement { s.management with clearOnRead := value.getLsbD 0 }
  | a =>
    if pendingItem a then
      s.setManagement { s.management with pending := s.management.pending.writeItem (a - 0x0100) value }
    else s

/-- The words of a WRITE, written to consecutive items from `address` (R164). -/
def writeItems : Nat → List Word → State → State
  | _, [], s => s
  | address, w :: rest, s => writeItems (address + 1) rest (writeItem address w s)

/-- Judge and carry out a WRITE; with any status other than OK nothing at all is written (R164). -/
def writeRange (item : BitVec 16) (words : List Word) (s : State) : State :=
  let status := s.judgeWrite (itemRange item words.length)
  if status = .ok then respond .ok [] (writeItems item.toNat words s) else respond status [] s

/-- WRITE (R164). -/
def execWrite (item : BitVec 16) (words : List Word) (s : State) : Host.Outcome State Fault Refusal :=
  onFrame (writeRange item words) s

/-- EVENT_FLAGS_WRITE: a WRITE of the event flags item (R165). -/
def execEventFlagsWrite (value : Word) (s : State) : Host.Outcome State Fault Refusal :=
  onFrame (writeRange 0x0018#16 [value]) s

/-- EVENT_ENABLES_WRITE: a WRITE of the event enables item (R166). -/
def execEventEnablesWrite (value : Word) (s : State) : Host.Outcome State Fault Refusal :=
  onFrame (writeRange 0x0019#16 [value]) s

/-- PENDING_CONFIG_WRITE: a WRITE of pending configuration items (R142). -/
def execPendingConfigWrite (item : BitVec 16) (words : List Word) (s : State) : Host.Outcome State Fault Refusal :=
  onFrame (writeRange item words) s

/-! ### ERROR-POP -/

/-- The code of an error kind (R174). -/
def ErrorKind.code : ErrorKind → Word
  | .captureReadFault => 1#32
  | .dataWriteFault => 2#32
  | .passWriteFault => 3#32
  | .recordWriteFault => 4#32
  | .anchorWriteFault => 5#32
  | .replayFault => 6#32
  | .replayCheck => 7#32
  | .memoryTimeout => 8#32
  | .ringExhausted => 9#32

/-- The four words of a popped entry; absent fields read 0 (R168, R174). -/
def ErrorEntry.words (e : ErrorEntry) : List Word :=
  [e.kind.code ||| (e.mode.code <<< 8) ||| flagAt e.epoch.isSome 16 ||| flagAt e.line.isSome 17 |||
      flagAt e.slot.isSome 18,
   e.epoch.getD 0#32, e.line.getD 0#32, BitVec.ofNat 32 (e.slot.getD 0)]

/-- Remove and return the oldest entry; an empty log returns kind NONE, and a pop that leaves the log empty clears the
overflow indication (R168). -/
def popError (s : State) : State :=
  match s.management.log with
  | [] => respond .ok [0#32, 0#32, 0#32, 0#32] s
  | e :: rest =>
    respond .ok e.words
      (s.setManagement { s.management with
        log := rest, overflow := if rest.isEmpty then false else s.management.overflow })

/-- ERROR_POP (R168). -/
def execErrorPop (_item : BitVec 16) (count : Byte) (s : State) : Host.Outcome State Fault Refusal :=
  onFrame (withoutWords count popError) s

/-! ### TAG-PROBE -/

/-- The bits that report a tag entry: its state, and its capture slot once a capture has started (R71, R174). -/
def tagBits : Option TagState → Word
  | none => 0#32
  | some .saved => flagAt true 0 ||| flagAt true 30
  | some (.capturing _ none) => flagAt true 30
  | some (.capturing _ (some i)) => (BitVec.ofNat 32 i.val <<< 4) ||| flagAt true 8 ||| flagAt true 30

/-- The response word for an epoch; absent, it reads 0 (R71, R174). -/
def State.probeWord (s : State) (line : Word) : Option LiveEpoch → Word
  | none => 0#32
  | some e => flagAt true 31 ||| tagBits (s.capture.tagState ⟨line, e.number⟩)

/-- Judge and carry out a TAG-PROBE; it changes no state but the response sent (R71). -/
def probeTags (words : List Word) (s : State) : State :=
  match words with
  | [w] => respond .ok [s.probeWord (lineOf w) s.openItem, s.probeWord (lineOf w) s.otherItem] s
  | _ => respond .badItem [] s

/-- TAG_PROBE (R71). -/
def execTagProbe (_item : BitVec 16) (words : List Word) (s : State) : Host.Outcome State Fault Refusal :=
  onFrame (probeTags words) s

/-! ### Frames that do nothing -/

/-- BAD_FRAME: answered BAD-FRAME, and nothing is done (R160). -/
def execBadFrame (s : State) : Host.Outcome State Fault Refusal := onFrame (respond .badFrame []) s

/-- FRAME_DISCARDED: nothing is done and no response part is sent (R160). -/
def execFrameDiscarded (s : State) : Host.Outcome State Fault Refusal :=
  onFrame (fun s => s.setManagement { s.management with response := none }) s

end Sys2Proof.Machine
end

