-- ==== Sys2Proof/Machine/Control.lean ====
section
/-! DEFINITION. The six commands that act on modes and epochs: COMMIT (R72), ABORT (R87), QUIESCE (R148), RESUME (R151),
BYPASS (R153) and STORE (R143). -/

namespace Sys2Proof.Machine

/-! ### COMMIT -/

/-- Judge and carry out a COMMIT (R72, R73, R74). -/
def commitCommand (s : State) : State :=
  match s.judgeCommit with
  | .mode => respond .mode [] s
  | .busyCommitting => respond .busy [] s
  | .busy => respond .busy [] s
  | .damaged => respond .damaged [] s
  | .empty e => respond .ok [] (updateSpace (commitEmpty e.number s))
  | .commits e => respond .ok [] (updateSpace (commitOpen e.number s))

/-- COMMIT (R72). -/
def execCommit (_item : BitVec 16) (count : Byte) (s : State) : Host.Outcome State Fault Refusal :=
  onFrame (withoutWords count commitCommand) s

/-! ### ABORT -/

/-- The latest number, in serial order, of a list of epochs: the highest aborted epoch (R88). -/
def highestNumber : List LiveEpoch → Word
  | [] => 0#32
  | [e] => e.number
  | e :: rest => later e.number (highestNumber rest)

/-- A live epoch becomes ROLLING-BACK; its JOURNAL entries have been discarded, so its held entries are 0 (R11, R88). -/
def LiveEpoch.rollBack (e : LiveEpoch) : LiveEpoch := { e with state := .rollingBack, held := 0 }

/-- What an ABORT does to a capture: a READING one is cancelled, a WRITING one goes on, and neither has its hold entry
any longer (R67, R68). -/
def Capture.cancel (c : Capture) : Capture :=
  { c with
    hold := none
    phase := match c.phase with
      | .reading _ => .reading true
      | .writing contents slot sequence => .writing contents slot sequence }

/-- What an ABORT leaves of a tag entry of the aborted set: only one whose capture runs stays, without its owner (R54,
R58). -/
def TagEntry.abort (aborted : List Word) (t : TagEntry) : Option TagEntry :=
  if aborted.contains t.key.epoch then
    match t.state with
    | .capturing _ (some i) => some { t with state := .capturing none (some i) }
    | .capturing _ none => none
    | .saved => none
  else some t

/-- The capture unit on an ABORT (R58, R67, R68). -/
def CaptureUnit.abort (c : CaptureUnit) (aborted : List Word) : CaptureUnit :=
  { c with
    tags := c.tags.filterMap (TagEntry.abort aborted)
    slots := #v[c.slots[0].map Capture.cancel, c.slots[1].map Capture.cancel, c.slots[2].map Capture.cancel,
      c.slots[3].map Capture.cancel] }

/-- A rollback starts (R88): the live epochs roll back, JOURNAL entries, tags and captures are dealt with, deferred
reads of JOURNAL lines are discarded, the request in hand is judged afresh, and SETTLING begins with the notices that
can be given at once (R91). -/
def startRollback (s : State) : State :=
  let live := s.epochs.table.epochs
  let t : State :=
    { s with
      epochs := { s.epochs with
        table := s.epochs.table.map LiveEpoch.rollBack, heldTrigger := false, fullRequest := false }
      hold := s.hold.withoutJournal
      capture := s.capture.abort (live.map (·.number))
      replay := { s.replay with
        rollback := some { phase := .settling false false, highest := highestNumber live } } }
  let u := discardDeferred (fun d => (t.anchor.working.classify d.line).1 == .journal) t
  noteEpochsDrained (noteCapturesSettled (rejudge u))

/-- Judge and carry out an ABORT (R87, R88). -/
def abortCommand (s : State) : State :=
  if s.modes.mode ≠ .active then respond .mode [] s
  else if s.rollingBack then respond .busy [] s
  else if s.epochs.table.has .committing then respond .busy [] s
  else respond .ok [] (updateSpace (startRollback s))

/-- ABORT (R87). -/
def execAbort (_item : BitVec 16) (count : Byte) (s : State) : Host.Outcome State Fault Refusal :=
  onFrame (withoutWords count abortCommand) s

/-! ### QUIESCE -/

/-- A QUIESCE taken on the empty OPEN epoch `n`: it closes, and the mode becomes QUIESCED (R8, R148). -/
def quiesceEmpty (n : Word) (s : State) : State := raise .quiesced (setMode .quiesced (closeEmpty n s))

/-- A QUIESCE taken on the OPEN epoch `n`, not empty: it becomes COMMITTING and the mode QUIESCING (R149). -/
def quiesceOpen (n : Word) (s : State) : State := drainNotice (setMode .quiescing (startCommit .quiesce n s))

/-- Judge and carry out a QUIESCE (R148, R149). -/
def quiesceCommand (s : State) : State :=
  match s.judgeCommit with
  | .mode => respond .mode [] s
  | .busyCommitting => respond .busy [] s
  | .busy => respond .busy [] s
  | .damaged => respond .damaged [] s
  | .empty e => respond .ok [] (updateSpace (quiesceEmpty e.number s))
  | .commits e => respond .ok [] (updateSpace (quiesceOpen e.number s))

/-- QUIESCE (R148). -/
def execQuiesce (_item : BitVec 16) (count : Byte) (s : State) : Host.Outcome State Fault Refusal :=
  onFrame (withoutWords count quiesceCommand) s

/-! ### RESUME -/

/-- RESUME is carried out: the cause becomes NONE when it leaves BYPASS, an epoch opens and the mode becomes ACTIVE
(R5, R146, R151). -/
def resumeActive (s : State) : State :=
  let t := s.setModes { s.modes with cause := if s.modes.mode = .bypass then .none else s.modes.cause }
  setMode .active (openEpoch (t.epochs.closedThrough + 1#32) t)

/-- Judge and carry out a RESUME (R151). -/
def resumeCommand (s : State) : State :=
  if s.modes.mode ≠ .quiesced ∧ s.modes.mode ≠ .bypass then respond .mode [] s
  else if s.storeInFlight then respond .busy [] s
  else if s.modes.mode = .bypass ∧ s.anchor.working.hasJournal = false then respond .badConfig [] s
  else respond .ok [] (updateSpace (resumeActive s))

/-- RESUME (R151). -/
def execResume (_item : BitVec 16) (count : Byte) (s : State) : Host.Outcome State Fault Refusal :=
  onFrame (withoutWords count resumeCommand) s

/-! ### BYPASS -/

/-- Judge and carry out a BYPASS (R153). -/
def bypassCommand (s : State) : State :=
  if s.modes.mode ≠ .quiesced then respond .mode [] s
  else if s.storeInFlight then respond .busy [] s
  else respond .ok [] (setMode .bypass s)

/-- BYPASS (R153). -/
def execBypass (_item : BitVec 16) (count : Byte) (s : State) : Host.Outcome State Fault Refusal :=
  onFrame (withoutWords count bypassCommand) s

/-! ### STORE -/

/-- Judge a STORE, and start it (R143, R144). -/
def storeCommand (s : State) : State :=
  if s.modes.mode ≠ .quiesced ∧ s.modes.mode ≠ .bypass then respond .mode [] s
  else if s.anchor.write.isSome ∨ s.anchor.pendingUpdate = true then respond .busy [] s
  else if s.management.pending.valid s.anchorBase = false then respond .badConfig [] s
  else respond .ok [] (startStore s)

/-- STORE (R143). -/
def execStore (_item : BitVec 16) (count : Byte) (s : State) : Host.Outcome State Fault Refusal :=
  onFrame (withoutWords count storeCommand) s

end Sys2Proof.Machine
end

