-- ==== Sys2Proof/Machine/Grants.lean ====
section
/-! DEFINITION. Capture start (R61), the arbiter and its grants (R110 to R112), and issue on the memory bus (R108). -/

namespace Sys2Proof.Machine

/-! ### Capture start -/

/-- The capture of the hold entry `e` starts in slot `i`, a promise having been granted (R25, R61). -/
def startCapture (i : Fin 4) (e : HoldEntry) (epoch : Word) (window : Fin 8) (s : State) : State :=
  let capture : Capture :=
    { line := e.line, epoch := epoch, window := window, hold := some e.id, tag := e.tag, phase := .reading false }
  let t := s.setRing { s.ring with promised := s.ring.promised + 1 }
  let u := t.setHold { t.hold with
    entries := t.hold.entries.map fun x => if x.id = e.id then { x with capture := some i } else x }
  bump .captures (u.setCapture
    { u.capture.setSlot i (some capture) with
      tags := setTag e.tag (.capturing (some e.id) (some i)) u.capture.tags
      reads := u.capture.reads ++ [i] })

/-- The oldest eligible entry is offered, and takes the IDLE slot with the lowest number and a promise, which is
granted only with free > 2 (R25, R45, R61). -/
def offerCapture (s : State) : State :=
  match firstEligible [] s.hold.entries, s.capture.idleSlot with
  | some e, some i =>
    match e.cls with
    | .journal epoch window => if Config.captureReserve < s.free then updateSpace (startCapture i e epoch window s) else s
    | .pass => s
  | _, _ => s

/-- CAPTURE_START (R25, R45, R61). -/
def execCaptureStart (s : State) : Host.Outcome State Fault Refusal :=
  whileRunning offerCapture s

/-! ### The arbiter -/

/-- What the arbiter can grant (R110). -/
inductive Grant where
  | replay
  | anchor
  | record
  | capture
  | hostRead
  | deferredFetch (slot : Fin 4)
  | hold
deriving DecidableEq, Repr

/-- The current host read may be presented: GRANT-WAIT, and no hold entry targets its line (R111, R127). -/
def State.readPresented (s : State) : Bool :=
  match s.host.current with
  | some r => r.wait == .grantWait && !s.lineHeld r.line
  | none => false

/-- A deferred fetch may be presented: GRANT-WAIT, and no hold entry targets its line (R111, R131). -/
def State.fetchPresented (s : State) (d : Deferred) : Bool :=
  d.state == .fetching .grantWait && !s.lineHeld d.line

/-- The host side presents the current read before the deferred fetches, and those in slot order (R111). -/
def State.hostSide (s : State) : Option Grant :=
  if s.readPresented then some .hostRead else (s.host.findSlot s.fetchPresented).map .deferredFetch

/-- The hold side presents the release of the head entry when it is READY (R47, R110). -/
def State.holdSide (s : State) : Bool :=
  match s.hold.entries with
  | [] => false
  | e :: _ => e.state == .ready

/-- The fifth level: the presenting side, and the one the turn names when both present (R111). -/
def State.fifthLevel (s : State) : Option Grant :=
  match s.hostSide, s.holdSide with
  | some g, true => if s.memory.turn = .host then some g else some .hold
  | some g, false => some g
  | none, true => some .hold
  | none, false => none

/-- The request the arbiter grants: none while the queue is full or the freeze flag set, else that of the first
level at which a source presents one (R110, R112). -/
def State.arbiter (s : State) : Option Grant :=
  if s.modes.freeze || decide (Config.memoryPlaces ≤ s.memory.queue.length) then none
  else if !s.replay.requests.isEmpty then some .replay
  else if s.anchorRequest.isSome then some .anchor
  else if !s.ring.writes.isEmpty then some .record
  else if !s.capture.reads.isEmpty then some .capture
  else s.fifthLevel

/-- A grant row has its effect when the arbiter's choice is that grant; else it cannot occur (log entry 2). -/
def whenGranted (g : Grant) (f : State → State) (s : State) : State := if s.arbiter = some g then f s else s

/-- Pass the turn of the fifth level to side `t` (R111). -/
def passTurn (t : Turn) (s : State) : State := s.setMemory { s.memory with turn := t }

/-! ### Grants -/

/-- The head entry is released: it becomes a data write, and a JOURNAL entry's count moves from held entries to data
writes outstanding (R11, R12, R47). -/
def releaseHead (s : State) : State :=
  match s.hold.entries with
  | [] => s
  | e :: rest =>
    let t := s.setHold { s.hold with entries := rest }
    let u := passTurn .host
      (enqueue (writeEntry (.holdRelease e.cls.epoch) e.line e.offset e.data) t)
    match e.cls with
    | .pass => u
    | .journal n _ =>
      u.setTable (u.epochs.table.modify n fun x => { x with held := x.held - 1, out := x.out + 1 })

/-- HOLD_RELEASE (R47, R110, R111). -/
def execHoldRelease (s : State) : Host.Outcome State Fault Refusal :=
  whileRunning (whenGranted .hold fun s => updateSpace (releaseHead s)) s

/-- The current host read is granted and enters MEMORY-WAIT (R127). -/
def grantHostRead (s : State) : State :=
  match s.host.current with
  | none => s
  | some r =>
    passTurn .hold
      (enqueue (readEntry (.hostRead r.requester .current) r.line)
        (s.setHost { s.host with current := some { r with wait := .memoryWait } }))

/-- HOST_READ_GRANT (R110, R111, R127). -/
def execHostReadGrant (s : State) : Host.Outcome State Fault Refusal :=
  whileRunning (whenGranted .hostRead grantHostRead) s

/-- The fetch of deferred slot `i` is granted and enters IN-QUEUE (R131). -/
def grantFetch (i : Fin 4) (s : State) : State :=
  match s.host.deferred[i] with
  | none => s
  | some d =>
    passTurn .hold
      (enqueue (readEntry (.deferredFetch i false) d.line)
        (s.setHost (s.host.setSlot i (some { d with state := .fetching .inQueue }))))

/-- DEFERRED_FETCH_GRANT (R110, R111, R131). -/
def execDeferredFetchGrant (s : State) : Host.Outcome State Fault Refusal :=
  whileRunning (fun s =>
    match s.arbiter with
    | some (.deferredFetch i) => grantFetch i s
    | _ => s) s

/-- The capture read at the front of the read list is granted (R62). -/
def grantCapture (s : State) : State :=
  match s.capture.reads with
  | [] => s
  | i :: rest =>
    match s.capture.slots[i] with
    | none => s
    | some c =>
      enqueue (readEntry (.captureRead i) c.line) (s.setCapture { s.capture with reads := rest })

/-- CAPTURE_READ_GRANT (R62, R110). -/
def execCaptureReadGrant (s : State) : Host.Outcome State Fault Refusal :=
  whileRunning (whenGranted .capture grantCapture) s

/-- The write at the front of the record write list is granted (R29). -/
def grantRecord (s : State) : State :=
  match s.ring.writes with
  | [] => s
  | w :: rest =>
    enqueue (writeEntry (.recordWrite w.info w.isHead) w.address 0 w.data)
      (s.setRing { s.ring with writes := rest })

/-- RECORD_WRITE_GRANT (R29, R110). -/
def execRecordWriteGrant (s : State) : Host.Outcome State Fault Refusal :=
  whileRunning (whenGranted .record grantRecord) s

/-- The anchor unit's request is granted, and the next line is presented (R138, R140). -/
def grantAnchor (s : State) : State :=
  match s.anchorRequest with
  | none => s
  | some e => enqueue e (s.setAnchor s.anchor.lineGranted)

/-- ANCHOR_LINE_GRANT (R110, R138, R140). -/
def execAnchorLineGrant (s : State) : Host.Outcome State Fault Refusal :=
  whileRunning (whenGranted .anchor grantAnchor) s

/-- The memory request of a replay request (R92, R93, R106). -/
def State.replayEntry (s : State) : ReplayRequest → MemoryEntry
  | .readHead slot => readEntry (.replayRead slot true) (s.slotAddress slot true)
  | .readBody slot => readEntry (.replayRead slot false) (s.slotAddress slot false)
  | .restore slot epoch line data => writeEntry (.restoreWrite slot epoch) line 0 data

/-- The replay engine's request is granted (R92, R93, R110). -/
def grantReplay (s : State) : State :=
  match s.replay.requests with
  | [] => s
  | q :: rest => enqueue (s.replayEntry q) (s.setReplay { s.replay with requests := rest })

/-- REPLAY_REQUEST_GRANT (R92, R93, R110). -/
def execReplayRequestGrant (s : State) : Host.Outcome State Fault Refusal :=
  whileRunning (whenGranted .replay grantReplay) s

/-! ### Issue -/

/-- The oldest WAITING entry is issued while fewer than 4 requests are outstanding (R108). -/
def issue (s : State) : State :=
  if s.outstanding < Config.maxOutstanding then
    s.setMemory { s.memory with queue := issueOldest s.pins.now s.memory.queue }
  else s

/-- MEMORY_ISSUE (R108). The freeze flag does not stop issue (R117). -/
def execMemoryIssue (s : State) : Host.Outcome State Fault Refusal := whileRunning issue s

end Sys2Proof.Machine
end

