-- ==== Sys2Proof/Machine/HostPort.lean ====
section
/-! DEFINITION. The commands of the host port: requests that arrive, waiting requests that go on, and the two limits
(Chapter 8, and R40, R43, R49 of Chapter 3). -/

namespace Sys2Proof.Machine

/-- A request that arrives is answered, or handed on by `forward`; the host bus carries one request at a time
(R119, R121). -/
def arriveRequest (r : HostRequest) (forward : Judgement → State → State) (s : State) : State :=
  match s.host.current with
  | some _ => s
  | none =>
    match s.judgeArrival r with
    | .retry => answerHost .retry s
    | .fault k => answerHost (.fault k) s
    | .forward => forward .forward s
    | .journal => forward .journal s

/-- HOST_READ_REQUEST (R119 to R127, R131). -/
def execHostReadRequest (requester : BitVec 4) (address : Word) (length : Nat) (s : State) :
    Host.Outcome State Fault Refusal :=
  whileRunning (fun s =>
    let r := s.arrive .read requester address length []
    arriveRequest r (fun _ => startRead r) s) s

/-- HOST_WRITE_REQUEST (R40 to R43, R119 to R126). -/
def execHostWriteRequest (requester : BitVec 4) (address : Word) (data : List Byte) (s : State) :
    Host.Outcome State Fault Refusal :=
  whileRunning (fun s =>
    let r := s.arrive .write requester address data.length data
    arriveRequest r (fun j s => updateSpace (offerWrite r (j == .journal) s)) s) s

/-- The write in PLACE-WAIT is taken when a place is free, set up by the mode, the OPEN epoch and the tag table as
they stand (R43). -/
def takeWaiting (s : State) : State :=
  match s.host.current with
  | none => s
  | some r =>
    if r.wait = .placeWait ∧ s.hold.entries.length < Config.holdPlaces then
      match s.judge r.kind r.cls with
      | .forward => updateSpace (takeWrite r false s)
      | .journal => updateSpace (takeWrite r true s)
      | .retry => s
      | .fault _ => s
    else s

/-- WAITING_WRITE_TAKEN (R43). -/
def execWaitingWriteTaken (s : State) : Host.Outcome State Fault Refusal :=
  whileRunning takeWaiting s

/-- The current read of `line` leaves LINE-WAIT for GRANT-WAIT (R49, R127). -/
def HostRequest.lineCleared (line : Word) (r : HostRequest) : HostRequest :=
  if r.wait = .lineWait ∧ r.line = line then { r with wait := .grantWait } else r

/-- A deferred fetch of `line` leaves LINE-WAIT for GRANT-WAIT (R49, R131). -/
def Deferred.lineCleared (line : Word) (d : Deferred) : Deferred :=
  if d.state = .fetching .lineWait ∧ d.line = line then { d with state := .fetching .grantWait } else d

/-- The hold queue tells the host port that no entry targets `line`: the reads of it that wait present themselves to
the arbiter (R49, R127, R131). -/
def clearLine (line : Word) (s : State) : State :=
  if s.lineHeld line then s
  else
    s.setHost { s.host with
      current := s.host.current.map (HostRequest.lineCleared line)
      deferred := mapDeferred (Deferred.lineCleared line) s.host.deferred }

/-- LINE_WAIT_CLEARED (R49). -/
def execLineWaitCleared (line : Word) (s : State) : Host.Outcome State Fault Refusal :=
  whileRunning (clearLine line) s

/-- The host wait limit runs out on the current request, at the tick that is its time of arrival + the limit in force
(R126; log entry 7). -/
def expireWait (s : State) : State :=
  match s.host.current with
  | none => s
  | some r => expireRequest r (elapseTo (r.arrival + s.anchor.working.waitLimit.toNat) s)

/-- HOST_WAIT_LIMIT_EXPIRY (R43, R126, R130). -/
def execHostWaitLimitExpiry (s : State) : Host.Outcome State Fault Refusal := whileRunning expireWait s

/-- The age of the READY entry in slot `i` reaches the discard limit in force, and the entry is discarded. Ages stand
still during a freeze, and an age then reaches the limit only by a STORE that lowers the limit to it (R133; log entry
7). -/
def expireDeferred (i : Fin 4) (s : State) : State :=
  match s.host.deferred[i] with
  | none => s
  | some d =>
    match d.state with
    | .ready _ age =>
      let limit := s.anchor.working.discardLimit.toNat
      if s.modes.freeze then (if limit ≤ age then discardSlot i s else s)
      else discardSlot i (elapse (limit - age) s)
    | .fetching _ => s

/-- DEFERRED_DISCARD_LIMIT_EXPIRY (R132, R133). -/
def execDeferredDiscardLimitExpiry (slot : Fin 4) (s : State) : Host.Outcome State Fault Refusal :=
  whileRunning (expireDeferred slot) s

end Sys2Proof.Machine
end

