-- ==== Sys2Proof/Machine/Pins.lean ====
section
/-! DEFINITION. The commands of the input lines: PFI# (R156, R157) and RESET# (R158). -/

namespace Sys2Proof.Machine

/-- PFI_ASSERT: the freeze flag is set and the request in hand is answered RETRY; while RESET# is asserted only the line
changes (R128, R146, R156). -/
def execPfiAssert (s : State) : Host.Outcome State Fault Refusal :=
  let t := s.setPins { s.pins with pfi := true }
  .next (if s.pins.inReset then t else rejudge (t.setModes { t.modes with freeze := true }))

/-- The freeze flag clears, and the trigger of the OPEN epoch is re-examined once (R86, R157). -/
def thaw (s : State) : State :=
  let t := s.setModes { s.modes with freeze := false }
  if t.triggersAct then updateSpace (reexamine t) else t

/-- PFI_DEASSERT: the freeze flag, if set, clears; while RESET# is asserted only the line changes (R146, R156, R157). -/
def execPfiDeassert (s : State) : Host.Outcome State Fault Refusal :=
  let t := s.setPins { s.pins with pfi := false }
  .next (if s.pins.inReset then t else if s.modes.freeze then thaw t else t)

/-- RESET_ASSERT: the bridge is held in reset; a frame in progress is discarded, what is left of its response part with it
(R158, R160). The rest of the volatile state takes its reset values at the release (log entry 9). -/
def execResetAssert (s : State) : Host.Outcome State Fault Refusal :=
  let t := s.setManagement { s.management with response := none }
  .next (t.setPins { t.pins with inReset := true })

/-- RESET_RELEASE: every volatile field takes its reset value, the straps are sampled, the freeze flag takes the level of
PFI#, and LOADING begins (R118, R135, R138, R146, R158, R160). -/
def execResetRelease (straps : BitVec 2) (csLow : Bool) (s : State) : Host.Outcome State Fault Refusal :=
  .next (State.afterReset s.pins.pfi straps csLow s.pending)

end Sys2Proof.Machine
end

