-- ==== Sys2Proof/Machine/Dispatch.lean ====
section
/-! DEFINITION. `exec`: one arm for each row of spec/opcode_table.json, in the table's order. -/

namespace Sys2Proof.Machine

def exec (i : Instr) (s : State) : Host.Outcome State Fault Refusal :=
  match i with
  | .hostReadRequest requester address length => Sys2Proof.Machine.execHostReadRequest requester address length s
  | .hostWriteRequest requester address data => Sys2Proof.Machine.execHostWriteRequest requester address data s
  | .waitingWriteTaken => Sys2Proof.Machine.execWaitingWriteTaken s
  | .lineWaitCleared line => Sys2Proof.Machine.execLineWaitCleared line s
  | .hostWaitLimitExpiry => Sys2Proof.Machine.execHostWaitLimitExpiry s
  | .deferredDiscardLimitExpiry slot => Sys2Proof.Machine.execDeferredDiscardLimitExpiry slot s
  | .captureStart => Sys2Proof.Machine.execCaptureStart s
  | .holdRelease => Sys2Proof.Machine.execHoldRelease s
  | .hostReadGrant => Sys2Proof.Machine.execHostReadGrant s
  | .deferredFetchGrant => Sys2Proof.Machine.execDeferredFetchGrant s
  | .captureReadGrant => Sys2Proof.Machine.execCaptureReadGrant s
  | .recordWriteGrant => Sys2Proof.Machine.execRecordWriteGrant s
  | .anchorLineGrant => Sys2Proof.Machine.execAnchorLineGrant s
  | .replayRequestGrant => Sys2Proof.Machine.execReplayRequestGrant s
  | .memoryIssue => Sys2Proof.Machine.execMemoryIssue s
  | .unexpectedMemoryAnswer kind => Sys2Proof.Machine.execUnexpectedMemoryAnswer kind s
  | .hostReadAnswer answer => Sys2Proof.Machine.execHostReadAnswer answer s
  | .deferredFetchAnswer answer => Sys2Proof.Machine.execDeferredFetchAnswer answer s
  | .dataWriteAnswer answer => Sys2Proof.Machine.execDataWriteAnswer answer s
  | .passWriteAnswer answer => Sys2Proof.Machine.execPassWriteAnswer answer s
  | .captureReadDone data => Sys2Proof.Machine.execCaptureReadDone data s
  | .captureReadFault => Sys2Proof.Machine.execCaptureReadFault s
  | .cancelledReadAnswer answer => Sys2Proof.Machine.execCancelledReadAnswer answer s
  | .recordHeadAck => Sys2Proof.Machine.execRecordHeadAck s
  | .recordWriteFault => Sys2Proof.Machine.execRecordWriteFault s
  | .autoCommitAgeExpiry => Sys2Proof.Machine.execAutoCommitAgeExpiry s
  | .anchorUpdateAnswer answer => Sys2Proof.Machine.execAnchorUpdateAnswer answer s
  | .storeAnswer answer => Sys2Proof.Machine.execStoreAnswer answer s
  | .anchorReadAnswer answer => Sys2Proof.Machine.execAnchorReadAnswer answer s
  | .replayReadAnswer answer => Sys2Proof.Machine.execReplayReadAnswer answer s
  | .restoreWriteAnswer answer => Sys2Proof.Machine.execRestoreWriteAnswer answer s
  | .memoryTimeout => Sys2Proof.Machine.execMemoryTimeout s
  | .read item count => Sys2Proof.Machine.execRead item count s
  | .counterSnapshot item count => Sys2Proof.Machine.execCounterSnapshot item count s
  | .write item words => Sys2Proof.Machine.execWrite item words s
  | .eventFlagsWrite value => Sys2Proof.Machine.execEventFlagsWrite value s
  | .eventEnablesWrite value => Sys2Proof.Machine.execEventEnablesWrite value s
  | .pendingConfigWrite item words => Sys2Proof.Machine.execPendingConfigWrite item words s
  | .commit item count => Sys2Proof.Machine.execCommit item count s
  | .abort item count => Sys2Proof.Machine.execAbort item count s
  | .quiesce item count => Sys2Proof.Machine.execQuiesce item count s
  | .resume item count => Sys2Proof.Machine.execResume item count s
  | .bypass item count => Sys2Proof.Machine.execBypass item count s
  | .store item count => Sys2Proof.Machine.execStore item count s
  | .errorPop item count => Sys2Proof.Machine.execErrorPop item count s
  | .tagProbe item words => Sys2Proof.Machine.execTagProbe item words s
  | .badFrame => Sys2Proof.Machine.execBadFrame s
  | .frameDiscarded => Sys2Proof.Machine.execFrameDiscarded s
  | .pfiAssert => Sys2Proof.Machine.execPfiAssert s
  | .pfiDeassert => Sys2Proof.Machine.execPfiDeassert s
  | .resetAssert => Sys2Proof.Machine.execResetAssert s
  | .resetRelease straps csLow => Sys2Proof.Machine.execResetRelease straps csLow s
  | .recordBodyAck => Sys2Proof.Machine.execRecordBodyAck s
  | .anchorLineAnswer answer => Sys2Proof.Machine.execAnchorLineAnswer answer s
  | .replayHeadReadAnswer answer => Sys2Proof.Machine.execReplayHeadReadAnswer answer s

end Sys2Proof.Machine
end

