-- ==== Sys2Proof/Machine/Frames.lean ====
section
/-! DEFINITION. The bytes of the frames of the management port: the command that the request bytes of a frame
carry, the request bytes of a command, and the bytes of a response (R159, R160, R161, R171, R174). -/

namespace Sys2Proof.Machine

/-! ### Requests -/

/-- A request part without data words: command code, item address, word count, CRC-8 (R159). -/
def shortRequest (code : Byte) (item : BitVec 16) (count : Byte) : List Byte :=
  let covered := [code] ++ be16 item ++ [count]
  covered ++ [crc8 covered]

/-- A request part with data words: WRITE and TAG-PROBE (R159). -/
def longRequest (code : Byte) (item : BitVec 16) (words : List Word) : List Byte :=
  let covered := [code] ++ be16 item ++ [BitVec.ofNat 8 words.length] ++ words.flatMap be32
  covered ++ [crc8 covered]

/-- The bytes a master shifts in for a command of the management port (R159, R174); other rows are no frames. -/
def requestBytes : Instr → Option (List Byte)
  | .read item count => some (shortRequest 0x01#8 item count)
  | .counterSnapshot item count => some (shortRequest 0x01#8 item count)
  | .write item words => some (longRequest 0x02#8 item words)
  | .eventFlagsWrite value => some (longRequest 0x02#8 0x0018#16 [value])
  | .eventEnablesWrite value => some (longRequest 0x02#8 0x0019#16 [value])
  | .pendingConfigWrite item words => some (longRequest 0x02#8 item words)
  | .commit item count => some (shortRequest 0x20#8 item count)
  | .abort item count => some (shortRequest 0x21#8 item count)
  | .quiesce item count => some (shortRequest 0x22#8 item count)
  | .resume item count => some (shortRequest 0x23#8 item count)
  | .bypass item count => some (shortRequest 0x24#8 item count)
  | .store item count => some (shortRequest 0x28#8 item count)
  | .tagProbe item words => some (longRequest 0x2C#8 item words)
  | .errorPop item count => some (shortRequest 0x30#8 item count)
  | _ => none

/-- The data words in a run of bytes, most significant byte first (R171); a partial word at the end is none. -/
def wordsOf : List Byte → List Word
  | a :: b :: c :: d :: rest => ((a ++ b) ++ (c ++ d)) :: wordsOf rest
  | _ => []

/-- The command of a short request with a good CRC-8; an unknown code is a bad frame (R160). -/
def shortCommand (code : Byte) (item : BitVec 16) (count : Byte) : Instr :=
  if code = 0x01#8 then .read item count
  else if code = 0x20#8 then .commit item count
  else if code = 0x21#8 then .abort item count
  else if code = 0x22#8 then .quiesce item count
  else if code = 0x23#8 then .resume item count
  else if code = 0x24#8 then .bypass item count
  else if code = 0x28#8 then .store item count
  else if code = 0x30#8 then .errorPop item count
  else .badFrame

/-- The command that the MOSI bytes of one frame carry (R159, R160): bytes that follow the request CRC-8 are
ignored, and a frame that ends before its CRC-8 is discarded. -/
def frameCommand : List Byte → Instr
  | code :: a1 :: a0 :: count :: rest =>
    if code = 0x02#8 ∨ code = 0x2C#8 then
      let n := 4 * count.toNat
      match rest.drop n with
      | [] => .frameDiscarded
      | crc :: _ =>
        let data := rest.take n
        if crc = crc8 ([code, a1, a0, count] ++ data) then
          if code = 0x02#8 then .write (a1 ++ a0) (wordsOf data) else .tagProbe (a1 ++ a0) (wordsOf data)
        else .badFrame
    else
      match rest with
      | [] => .frameDiscarded
      | crc :: _ => if crc = crc8 [code, a1, a0, count] then shortCommand code (a1 ++ a0) count else .badFrame
  | _ => .frameDiscarded

/-! ### Responses -/

/-- The status byte (R174). -/
def Status.code : Status → Byte
  | .ok => 0x00#8
  | .busy => 0x01#8
  | .mode => 0x02#8
  | .damaged => 0x03#8
  | .badConfig => 0x04#8
  | .badItem => 0x05#8
  | .badFrame => 0x06#8
  | .locked => 0x07#8

/-- The bytes of a response part: status, data words, CRC-8 (R159, R174). -/
def Response.bytes (r : Response) : List Byte :=
  let covered := r.status.code :: r.words.flatMap be32
  covered ++ [crc8 covered]

/-- The length of the request part of a frame, which follows from its command byte and its word count (R159). -/
def requestLength : List Byte → Nat
  | code :: _ :: _ :: count :: _ => if code = 0x02#8 ∨ code = 0x2C#8 then 5 + 4 * count.toNat else 5
  | _ => 5

/-- Byte `k` that the bridge drives on MISO in a frame whose request part has `n` bytes: 0x00 through the request part and
the turnaround, then the response part, and 0x00 after it until CS# rises; without a response part it is 0x00 throughout
(R159, R160). -/
def misoByte (n : Nat) (response : Option Response) (k : Nat) : Byte :=
  match response with
  | some r => if k < n + 1 then 0x00#8 else r.bytes.getD (k - (n + 1)) 0x00#8
  | none => 0x00#8

/-- The bytes that the bridge drives on MISO while the master shifts in `mosi`, one for each; a frame cut short loses the
rest of the response (R159, R160). `response` is the response part the frame's command leaves in the management port. -/
def misoBytes (mosi : List Byte) (response : Option Response) : List Byte :=
  (List.range mosi.length).map (misoByte (requestLength mosi) response)

/-- What the bridge drives on MISO while the master shifts in byte `k` of `mosi`, in a frame whose command has left the
state `s`: `none` when it does not drive the line, which is so while RESET# is asserted, and when CS# is high, as it is
from the end of `mosi` on (R159, R160). -/
def State.miso (s : State) (mosi : List Byte) (k : Nat) : Option Byte :=
  if s.pins.inReset then none else (misoBytes mosi s.management.response)[k]?

end Sys2Proof.Machine
end

