-- ==== Sys2Proof/Safety.lean ====
section
/-! DEFINITION. What the claims are stated in terms of: the conditions under which a command acts, and the invariants of
a sound state of the part. No step of this machine faults or is refused, so a safe run is one whose states keep them. -/

namespace Sys2Proof.Machine

/-! ### When a command acts -/

/-- RESET# is not asserted (R158). -/
def State.Running (s : State) : Prop := s.pins.inReset = false

/-- The management port takes frames: RESET# is not asserted, and CS# has risen since (R160). -/
def State.TakesFrames (s : State) : Prop := s.pins.inReset = false ∧ s.management.awaitsDeselect = false

/-- The oldest entry of the memory queue is `e`, which is ISSUED, and `rest` lies behind it (R107, R108). -/
def State.Awaits (s : State) (e : MemoryEntry) (rest : List MemoryEntry) : Prop :=
  s.memory.queue = e :: rest ∧ e.issued.isSome = true

/-- The state with `rest` as its memory queue: what an answer leaves once its entry has gone (R108). -/
def State.answered (s : State) (rest : List MemoryEntry) : State :=
  { s with memory := { s.memory with queue := rest } }

/-- No HOST-READ entry of the memory queue belongs to the current request. -/
def State.NoCurrentRead (s : State) : Prop :=
  ∀ e ∈ s.memory.queue, ∀ requester, e.source ≠ .hostRead requester .current

/-- No anchor write in flight has had its first line answered FAULT. -/
def State.NoFaultedFirstLine (s : State) : Prop := ∀ w, s.anchor.write = some w → w.first ≠ some .fault

/-! ### Invariants -/

/-- IRQ# is driven low exactly while a flag is set with its enable set (R166). -/
def State.IrqRight (s : State) : Prop := s.management.irq = irqLevel s.management.flags s.management.enables

/-- The hold queue, the tag table, the memory queue and the error log keep within their sizes (R38, R54, R107, R167). -/
def State.Bounded (s : State) : Prop :=
  s.hold.entries.length ≤ 16 ∧ s.capture.tags.length ≤ 256 ∧ s.memory.queue.length ≤ 16 ∧
    s.management.log.length ≤ 8

/-- The ISSUED entries are the oldest of the memory queue, and there are at most 4 of them (R107). -/
def State.IssueOrdered (s : State) : Prop :=
  s.memory.queue.Pairwise (fun older younger => younger.issued.isSome = true → older.issued.isSome = true) ∧
    s.outstanding ≤ 4

/-- In HALTED no journal work is left in any block (R154). -/
def State.HaltQuiet (s : State) : Prop :=
  s.modes.mode = .halted →
    s.epochs.table = ⟨none, none⟩ ∧ s.epochs.commit = none ∧ s.epochs.heldTrigger = false ∧
    s.epochs.fullRequest = false ∧ s.ring.promised = 0 ∧ s.ring.writes = [] ∧ s.ring.blocked = false ∧
    (∀ e ∈ s.hold.entries, e.cls = .pass) ∧
    s.capture.tags = [] ∧ s.capture.slots = #v[none, none, none, none] ∧ s.capture.reads = [] ∧
    s.replay.rollback = none ∧ s.replay.recovery = none ∧ s.replay.requests = [] ∧ s.replay.headLine = none ∧
    s.anchor.pendingUpdate = false ∧ s.anchor.loading = none

/-- The live epochs of ACTIVE with no rollback running: one OPEN epoch alone, or one OPEN epoch beside one COMMITTING or
FAILED epoch whose number is one less, the commit sequence running for the COMMITTING one (R4, R75). -/
def EpochController.ActiveShape (e : EpochController) : Prop :=
  (∃ o, e.table.epochs = [o] ∧ o.state = .opened ∧ e.commit = none) ∨
  (∃ o x, (e.table.epochs = [o, x] ∨ e.table.epochs = [x, o]) ∧ o.state = .opened ∧ o.number = x.number + 1#32 ∧
    ((x.state = .failed ∧ e.commit = none) ∨
     (x.state = .committing ∧ ∃ q, e.commit = some q ∧ q.epoch = x.number ∧ q.purpose = .commit ∧
        q.phase ≠ .anchorWait)))

/-- The live epochs of ACTIVE with a rollback running: one or two, all ROLLING-BACK (R4, R88). -/
def EpochController.RollbackShape (e : EpochController) : Prop :=
  e.commit = none ∧ e.table.epochs ≠ [] ∧ ∀ x ∈ e.table.epochs, x.state = .rollingBack

/-- The live epochs of QUIESCING: one COMMITTING epoch, or none once the commit sequence waits for the anchor update
(R4, R82). -/
def EpochController.QuiescingShape (e : EpochController) : Prop :=
  ∃ q, e.commit = some q ∧ q.purpose = .quiesce ∧
    ((q.phase = .anchorWait ∧ e.table.epochs = []) ∨
     (q.phase ≠ .anchorWait ∧ ∃ x, e.table.epochs = [x] ∧ x.state = .committing ∧ x.number = q.epoch))

/-- The shape of the live epoch table in each mode (R4), and the sequences that go with each mode: a rollback runs only
in ACTIVE, a recovery only in RECOVERING, and the anchor reads only in LOADING. -/
def State.EpochShape (s : State) : Prop :=
  (s.replay.rollback.isSome = true → s.modes.mode = .active) ∧
  (s.replay.recovery.isSome = true → s.modes.mode = .recovering) ∧
  (s.anchor.loading.isSome = true → s.modes.mode = .loading) ∧
  match s.modes.mode with
  | .active => if s.replay.rollback.isSome then s.epochs.RollbackShape else s.epochs.ActiveShape
  | .quiescing => s.epochs.QuiescingShape
  | _ => s.epochs.table.epochs = [] ∧ s.epochs.commit = none

/-! ### The counts of the journal -/

/-- The hold entries stamped with epoch `n` (R10, R11). -/
def State.heldOf (s : State) (n : Word) : Nat := s.hold.entries.countP fun e => e.cls.epoch == some n

/-- The JOURNAL data writes of epoch `n` in the memory queue (R12). -/
def State.dataWritesOf (s : State) (n : Word) : Nat :=
  s.memory.queue.countP fun e => e.source == .holdRelease (some n)

/-- The hold entry that the capture in slot `i` serves, and that waits for it (R44, R61). -/
def State.OwnsCapture (s : State) (i : Fin 4) (c : Capture) (id : Nat) : Prop :=
  ∃ e ∈ s.hold.entries,
    e.id = id ∧ e.cls.epoch = some c.epoch ∧ e.state = .needsCapture ∧ e.capture = some i

/-- A capture outside a rollback has its hold entry and is not cancelled; in a rollback it has none, and a READING one
is cancelled (R67, R68). -/
def State.CaptureRight (s : State) (i : Fin 4) (c : Capture) : Prop :=
  (∀ key, c.tag = some key → key.epoch = c.epoch) ∧
  (∀ id, c.hold = some id → s.OwnsCapture i c id) ∧
  (c.hold = none ↔ s.replay.rollback.isSome = true) ∧
  (∀ cancelled, c.phase = .reading cancelled → cancelled = s.replay.rollback.isSome)

/-- What a rollback has waited for: the captures that have settled and the epochs that have drained (R14, R68, R91). -/
def State.RollbackRight (s : State) (q : Rollback) : Prop :=
  (∀ e ∈ s.hold.entries, e.cls = .pass) ∧
  ((∀ epochs, q.phase ≠ .settling false epochs) → ∀ i : Fin 4, s.capture.slots[i] = none) ∧
  ((∀ captures, q.phase ≠ .settling captures false) → ∀ x ∈ s.epochs.table.epochs, x.drained = true)

/-- Outside HALTED: the counts of each live epoch are the hold entries and data writes that are its own, every JOURNAL
entry and data write belongs to a live epoch, each hold entry has a name of its own, each capture has its hold entry, a
STORE is in flight only in QUIESCED and BYPASS, and an epoch whose marker is being written has drained (R10, R11, R12,
R14, R28, R61, R77, R143, R151, R153). -/
def State.CountsRight (s : State) : Prop :=
  s.modes.mode ≠ .halted →
    (∀ x ∈ s.epochs.table.epochs, x.held = s.heldOf x.number ∧ x.out = s.dataWritesOf x.number) ∧
    (∀ e ∈ s.hold.entries, ∀ n, e.cls.epoch = some n → ∃ x ∈ s.epochs.table.epochs, x.number = n) ∧
    (∀ e ∈ s.memory.queue, ∀ n, e.source = .holdRelease (some n) → ∃ x ∈ s.epochs.table.epochs, x.number = n) ∧
    s.hold.entries.Pairwise (fun x y => x.id ≠ y.id) ∧
    (∀ e ∈ s.hold.entries, e.id < s.hold.nextId ∧ ∀ key, e.tag = some key → e.cls.epoch = some key.epoch) ∧
    (∀ (i : Fin 4) (c : Capture), s.capture.slots[i] = some c → s.CaptureRight i c) ∧
    (∀ q, s.replay.rollback = some q → s.RollbackRight q) ∧
    (∀ q slot sequence, s.epochs.commit = some q → q.phase = .markerWriting slot sequence →
      ∀ x ∈ s.epochs.table.epochs, x.number = q.epoch → x.drained = true) ∧
    (∀ w c, s.anchor.write = some w → w.kind = .store c → s.modes.mode = .quiesced ∨ s.modes.mode = .bypass)

/-! ### The bounds of the ring and of its lists -/

/-- The slot and sequence of the record that a capture is writing. -/
def Capture.writingKey (c : Capture) : Option (Nat × Word) :=
  match c.phase with
  | .reading _ => none
  | .writing _ slot sequence => some (slot, sequence)

/-- The capture slots that are READING: those with a promise (R24, R25, R26). -/
def State.readingSlots (s : State) : Nat :=
  s.capture.slots.toList.countP fun x => x.any fun c => c.writingKey.isNone

/-- The capture slots whose reads are on the read list, and then those whose reads are in the memory queue (R62). -/
def State.captureReads (s : State) : List (Fin 4) :=
  s.capture.reads ++ s.memory.queue.filterMap fun e =>
    match e.source with
    | .captureRead i => some i
    | _ => none

/-- The records whose head writes are not acknowledged: those in the memory queue, and those on the record write list
(R29, R30). -/
def State.recordHeads (s : State) : List RecordInfo :=
  (s.memory.queue.filterMap fun e =>
    match e.source with
    | .recordWrite info true => some info
    | _ => none) ++
  s.ring.writes.filterMap fun w => if w.isHead then some w.info else none

/-- A commit, a rollback or a recovery waits for its marker to be durable (R77, R94, R102). -/
def State.AwaitsMarker (s : State) : Prop :=
  (∃ q slot sequence, s.epochs.commit = some q ∧ q.phase = .markerWriting slot sequence) ∨
  (∃ q slot sequence, s.replay.rollback = some q ∧ q.phase = .closing slot sequence) ∨
  (∃ q, s.replay.recovery = some q ∧ q.phase = .closing)

/-- Used and promised slots fit the ring, each promise is a READING capture, no configuration is in force before
LOADING ends, a STORE carries a ring, and a scan is within it. Outside HALTED each read that is to be answered is that
of a READING capture, each body write on the record write list is followed by its head write, the records whose heads
are not acknowledged are those of the WRITING captures, and besides them at most one marker, which a sequence waits for
(R24, R25, R26, R29, R33, R62, R64, R99, R143). -/
def State.JournalBounds (s : State) : Prop :=
  s.ring.used + s.ring.promised ≤ s.anchor.working.slots.toNat ∧
  s.ring.promised = s.readingSlots ∧
  (s.anchor.loading.isSome = true → s.anchor.working.slots = 0#32) ∧
  (∀ w c, s.anchor.write = some w → w.kind = .store c → 16 ≤ c.slots.toNat) ∧
  (∀ q k, s.replay.recovery = some q → q.phase = .scanning k → k < s.anchor.working.slots.toNat) ∧
  (s.modes.mode ≠ .halted →
    s.captureReads.Nodup ∧
    (∀ i ∈ s.captureReads, ∃ c cancelled, s.capture.slots[i] = some c ∧ c.phase = .reading cancelled) ∧
    (∀ before w after, s.ring.writes = before ++ w :: after → w.isHead = false →
      w.info.kind = .line ∧ ∃ head rest, after = head :: rest ∧ head.info = w.info ∧ head.isHead = true) ∧
    List.Perm ((s.recordHeads.filter fun x => x.kind == .line).map fun x => (x.slot, x.sequence))
      (s.capture.slots.toList.filterMap fun x => x.bind Capture.writingKey) ∧
    (s.recordHeads.filter fun x => x.kind != .line).length ≤ 1 ∧
    (¬ s.AwaitsMarker → ∀ x ∈ s.recordHeads, x.kind = .line))

end Sys2Proof.Machine
end

