-- ==== Sys2Proof/WellFormed.lean ====
section
/-! DEFINITION. The commands the part's three ports can carry: a host request has 1 to 64 bytes (R119), a DONE
answer to a READ carries the 64 bytes of the line (R106), a line is named by an address whose low six bits are
0, and a frame's word count is one byte (R159). -/

namespace Sys2Proof

/-- A READ answered DONE carries the 64 bytes of the line (R106). -/
def ReadAnswer.wellFormed : ReadAnswer → Bool
  | .done data => data.length == 64
  | .fault => true

/-- The operands lie in the ranges the ports of the part can carry (R106, R119, R159, R164). -/
def Instr.wellFormed : Instr → Bool
  | .hostReadRequest _ _ length => decide (1 ≤ length ∧ length ≤ 64)
  | .hostWriteRequest _ _ data => decide (1 ≤ data.length ∧ data.length ≤ 64)
  | .waitingWriteTaken => true
  | .lineWaitCleared line => decide (line.extractLsb' 0 6 = 0#6)
  | .hostWaitLimitExpiry => true
  | .deferredDiscardLimitExpiry _ => true
  | .captureStart => true
  | .holdRelease => true
  | .hostReadGrant => true
  | .deferredFetchGrant => true
  | .captureReadGrant => true
  | .recordWriteGrant => true
  | .anchorLineGrant => true
  | .replayRequestGrant => true
  | .memoryIssue => true
  | .unexpectedMemoryAnswer _ => true
  | .hostReadAnswer answer => answer.wellFormed
  | .deferredFetchAnswer answer => answer.wellFormed
  | .dataWriteAnswer _ => true
  | .passWriteAnswer _ => true
  | .captureReadDone data => data.length == 64
  | .captureReadFault => true
  | .cancelledReadAnswer answer => answer.wellFormed
  | .recordHeadAck => true
  | .recordWriteFault => true
  | .autoCommitAgeExpiry => true
  | .anchorUpdateAnswer _ => true
  | .storeAnswer _ => true
  | .anchorReadAnswer answer => answer.wellFormed
  | .replayReadAnswer answer => answer.wellFormed
  | .restoreWriteAnswer _ => true
  | .memoryTimeout => true
  | .read _ _ => true
  | .counterSnapshot _ _ => true
  | .write _ words => decide (words.length ≤ 255)
  | .eventFlagsWrite _ => true
  | .eventEnablesWrite _ => true
  | .pendingConfigWrite _ words => decide (words.length ≤ 255)
  | .commit _ _ => true
  | .abort _ _ => true
  | .quiesce _ _ => true
  | .resume _ _ => true
  | .bypass _ _ => true
  | .store _ _ => true
  | .errorPop _ _ => true
  | .tagProbe _ words => decide (words.length ≤ 255)
  | .badFrame => true
  | .frameDiscarded => true
  | .pfiAssert => true
  | .pfiDeassert => true
  | .resetAssert => true
  | .resetRelease _ _ => true
  | .recordBodyAck => true
  | .anchorLineAnswer _ => true
  | .replayHeadReadAnswer answer => answer.wellFormed

end Sys2Proof
end

