-- ==== Sys2Proof/Certificates/Slice0/Obligations.lean ====
section
/-! DEFINITION. The statements about the model, each a `def Obligations.<Name> : Prop`. A docstring names the rules a
statement rests on, and the log entry of a clause that is the model's own choice. -/

open Sys2Proof
open Sys2Proof.Machine

/-! ### The step, the queue of commands and reset -/

/-- A step runs the command at the front of the queue on the state with the queue's rest. -/
def Obligations.StepRunsFrontCommand : Prop :=
  ∀ (c : Instr) (rest : List Instr) (s : State), s.pending = c :: rest → step s = exec c { s with pending := rest }

/-- On an empty queue the 1 µs tick advances by one (the model's choice, log entry 1). While the freeze flag is clear a
READY deferred entry ages by 1 µs (R133); while it is set the first record times move with the tick, so that no epoch
ages (R13), and deferred entries do not age. Nothing advances in reset. All else is unchanged. Any number of µs passes
in the same way, and an expiry row passes those that the tick still lacks to its moment, which makes the tick the later
of the two (R13, R133, R156; log entry 7). -/
def Obligations.IdleStepPassesOneTick : Prop :=
  (∀ s : State, s.pending = [] →
    (s.pins.inReset = true → step s = .next s) ∧
    (s.pins.inReset = false → s.modes.freeze = false →
      step s = .next
        { s with
          pins := { s.pins with now := s.pins.now + 1 }
          host := { s.host with deferred := mapDeferred (Deferred.grow 1) s.host.deferred } }) ∧
    (s.pins.inReset = false → s.modes.freeze = true →
      step s = .next
        { s with
          pins := { s.pins with now := s.pins.now + 1 }
          epochs := { s.epochs with table := s.epochs.table.map (LiveEpoch.holdAge 1) } })) ∧
  (∀ (s : State) (d : Nat),
    (s.modes.freeze = false →
      elapse d s =
        { s with
          pins := { s.pins with now := s.pins.now + d }
          host := { s.host with deferred := mapDeferred (Deferred.grow d) s.host.deferred } }) ∧
    (s.modes.freeze = true →
      elapse d s =
        { s with
          pins := { s.pins with now := s.pins.now + d }
          epochs := { s.epochs with table := s.epochs.table.map (LiveEpoch.holdAge d) } })) ∧
  (∀ (s : State) (t : Nat),
    elapseTo t s = elapse (t - s.pins.now) s ∧ (elapseTo t s).pins.now = max t s.pins.now) ∧
  ∀ (d : Nat) (x : Deferred) (e : LiveEpoch) (f : Deferred → Deferred) (slots : Vector (Option Deferred) 4) (i : Fin 4),
    (∀ data age, x.state = .ready data age → x.grow d = { x with state := .ready data (age + d) }) ∧
    (∀ stage, x.state = .fetching stage → x.grow d = x) ∧
    e.holdAge d = { e with firstTime := e.firstTime.map fun t => t + d } ∧
    (mapDeferred f slots)[i] = slots[i].map f

/-- Every command answers a next state, and leaves the queue of commands alone. That none faults and none is refused is
the model's reading of a manual that gives each row an effect (log entry 24). -/
def Obligations.EveryCommandAnswersAndKeepsQueue : Prop :=
  ∀ (c : Instr) (s : State), ∃ t : State, exec c s = .next t ∧ t.pending = s.pending

/-- While RESET# is asserted no command but those of the input lines has any effect, and PFI# only changes its line
(R158, R160; that commands in reset change nothing is log entry 9). RESET_ASSERT changes the line and discards the
frame in progress, so that no response part is left (R160), and changes nothing else (log entry 9). RESET_RELEASE
gives every field its reset value, samples the straps, sets the freeze flag to the level of PFI# and keeps the queue
of commands (R2, R3, R23, R39, R54, R60, R89, R98, R118, R119, R129, R136, R142, R146, R158, R165, R166, R167, R169,
R170). The straps select the base of the anchor region (R135). The replay engine presents nothing, and the anchor
unit the read of copy A's first line, which may be granted once the freeze flag is clear (R110, R118, R138). -/
def Obligations.ResetLines : Prop :=
  (∀ s : State,
    (s.pins.straps = 0#2 → s.anchorBase = 0x00000000#32) ∧ (s.pins.straps = 1#2 → s.anchorBase = 0x00100000#32) ∧
    (s.pins.straps = 2#2 → s.anchorBase = 0x40000000#32) ∧ (s.pins.straps = 3#2 → s.anchorBase = 0xFFFFFF00#32)) ∧
  (∀ (c : Instr) (s : State), s.pins.inReset = true →
    (c ≠ .pfiAssert → c ≠ .pfiDeassert → c ≠ .resetAssert → (∀ straps csLow, c ≠ .resetRelease straps csLow) →
      exec c s = .next s) ∧
    exec .pfiAssert s = .next { s with pins := { s.pins with pfi := true } } ∧
    exec .pfiDeassert s = .next { s with pins := { s.pins with pfi := false } }) ∧
  ∀ (s : State) (straps : BitVec 2) (csLow : Bool),
    exec .resetAssert s =
      .next
        { s with
          pins := { s.pins with inReset := true }
          management := { s.management with response := none } } ∧
    ∃ t : State, exec (.resetRelease straps csLow) s = .next t ∧
      t.pending = s.pending ∧
      t.pins.inReset = false ∧ t.pins.pfi = s.pins.pfi ∧ t.pins.straps = straps ∧
      t.modes = { mode := .loading, cause := .none, freeze := s.pins.pfi } ∧
      t.epochs.closedThrough = 0#32 ∧ t.epochs.table.epochs = [] ∧ t.epochs.commit = none ∧
      t.epochs.heldTrigger = false ∧ t.epochs.fullRequest = false ∧
      t.ring =
        { head := 0, headSequence := 0#32, tail := 0, tailSequence := 0#32, ringId := 0#32, used := 0,
          promised := 0, lowSpace := false, blocked := false, writes := [] } ∧
      t.hold.entries = [] ∧ t.capture.tags = [] ∧ (∀ i : Fin 4, t.capture.slots[i] = none) ∧ t.capture.reads = [] ∧
      t.replay.rollback = none ∧ t.replay.recovery = none ∧
      t.memory.queue = [] ∧ t.outstanding = 0 ∧ t.memory.turn = .host ∧
      t.host.current = none ∧ (∀ i : Fin 4, t.host.deferred[i] = none) ∧
      t.anchor.working = .noAnchor ∧ t.anchor.current = none ∧ t.anchor.generation = 0#32 ∧
      t.anchor.stale = false ∧ t.anchor.pendingUpdate = false ∧ t.anchor.write = none ∧
      t.management.pending = .noAnchor ∧ t.management.flags = 0#14 ∧ t.management.enables = 0#14 ∧
      t.management.irq = false ∧ t.management.log = [] ∧ t.management.overflow = false ∧
      (∀ c : Counter, t.counter c = 0#32) ∧ t.management.clearOnRead = false ∧
      t.management.awaitsDeselect = csLow ∧
      t.replay.requests = [] ∧ t.replay.headLine = none ∧
      t.anchorRequest =
        some
          { source := .anchorRead .a false, line := t.anchorBase, offset := 0, length := 64, data := [], issued := none } ∧
      t.arbiter = if s.pins.pfi then none else some .anchor

/-- State.reset is the state after RESET# with PFI# and CS# deasserted and the straps at 0 (log entry 3), with no
command waiting, and every invariant holds in it, and in the state after any reset. -/
def Obligations.InvariantsHoldAtReset : Prop :=
  (∀ (pfi : Bool) (straps : BitVec 2) (csLow : Bool) (queue : List Instr),
    let s := State.afterReset pfi straps csLow queue
    s.IrqRight ∧ s.Bounded ∧ s.IssueOrdered ∧ s.HaltQuiet ∧ s.EpochShape ∧ s.CountsRight ∧ s.JournalBounds) ∧
  State.reset = State.afterReset false 0#2 false [] ∧ State.reset.pending = []

/-! ### Numbers, checks and formats -/

/-- Serial order (R1): `a` is after `b` when (a - b) mod 2^32 lies in 1 to 2^31 - 1, and in no other case; the later of
two numbers; the wrap of every increment; and the examples of the rule. -/
def Obligations.SerialOrder : Prop :=
  (∀ a b : Word, after a b = true ↔ 1 ≤ (a - b).toNat ∧ (a - b).toNat ≤ 2 ^ 31 - 1) ∧
  (∀ a : Word, after a a = false) ∧
  (∀ a b : Word, (a - b).toNat = 2 ^ 31 → after a b = false) ∧
  (∀ a b : Word, after b a = true → after a b = false) ∧
  (∀ a b : Word, later a b = if after a b = true then a else b) ∧
  (∀ a : Word, later a a = a) ∧
  (4294967295#32 + 1#32 = 0#32) ∧
  after 0#32 4294967295#32 = true ∧ after 5#32 4294967290#32 = true ∧
  after 43#32 42#32 = true ∧ after 42#32 43#32 = false ∧ after 42#32 42#32 = false ∧
  after 2147483690#32 42#32 = false

/-- The bytes of each of the ten commands: its code, the item address and the word count, the data words of a WRITE
and a TAG-PROBE, each with its most significant byte first, and the CRC-8 of them all (R71, R72, R87, R143, R148,
R151, R153, R159, R163, R164, R168, R171, R174). They are read back as that command, whatever follows the CRC-8
(R159, R160); the rows that name a READ or a WRITE of certain items have the bytes of that READ or WRITE (log entry
20). A wrong CRC-8 or an unknown code makes a bad frame, and a frame that ends before its CRC-8 is discarded (R160).
Over them the bridge drives 0x00 on MISO until the status byte, then the response part, and 0x00 after it; with no
response part it drives 0x00 throughout (R159, R160), also in the frame that the port ignores after a reset, where
the manual names no level (log entry 18). It does not drive MISO while RESET# is asserted or CS# is high (R159,
R160). The response part is the code of its status, its data words, each with its most significant byte first, and
the CRC-8 of them all (R159, R171, R174). The CRC-8 shifts each byte in, most significant bit first, over the
polynomial 0x07 from 0x00 (R171). -/
def Obligations.FramesReadBack : Prop :=
  (∀ (item : BitVec 16) (count : Byte) (words : List Word) (value : Word) (extra : List Byte),
    let address : List Byte := [item.extractLsb' 8 8, item.extractLsb' 0 8]
    let data : List Byte :=
      words.flatMap fun w => [w.extractLsb' 24 8, w.extractLsb' 16 8, w.extractLsb' 8 8, w.extractLsb' 0 8]
    let carries := fun (c : Instr) (covered : List Byte) =>
      requestBytes c = some (covered ++ [crc8 covered]) ∧ frameCommand (covered ++ [crc8 covered] ++ extra) = c ∧
        requestLength (covered ++ [crc8 covered] ++ extra) = covered.length + 1
    carries (.read item count) (0x01#8 :: address ++ [count]) ∧
    carries (.commit item count) (0x20#8 :: address ++ [count]) ∧
    carries (.abort item count) (0x21#8 :: address ++ [count]) ∧
    carries (.quiesce item count) (0x22#8 :: address ++ [count]) ∧
    carries (.resume item count) (0x23#8 :: address ++ [count]) ∧
    carries (.bypass item count) (0x24#8 :: address ++ [count]) ∧
    carries (.store item count) (0x28#8 :: address ++ [count]) ∧
    carries (.errorPop item count) (0x30#8 :: address ++ [count]) ∧
    (words.length ≤ 255 →
      carries (.write item words) (0x02#8 :: address ++ [BitVec.ofNat 8 words.length] ++ data) ∧
      carries (.tagProbe item words) (0x2C#8 :: address ++ [BitVec.ofNat 8 words.length] ++ data)) ∧
    requestBytes (.counterSnapshot item count) = requestBytes (.read item count) ∧
    requestBytes (.pendingConfigWrite item words) = requestBytes (.write item words) ∧
    requestBytes (.eventFlagsWrite value) = requestBytes (.write 0x0018#16 [value]) ∧
    requestBytes (.eventEnablesWrite value) = requestBytes (.write 0x0019#16 [value])) ∧
  (∀ (code a1 a0 count crc : Byte) (data extra : List Byte),
    let covered := [code, a1, a0, count] ++ data
    let long : Prop := code = 0x02#8 ∨ code = 0x2C#8
    (long → data.length = 4 * count.toNat) → (¬ long → data = []) →
    (crc ≠ crc8 covered → frameCommand (covered ++ crc :: extra) = .badFrame) ∧
    (code ∉ [0x01#8, 0x02#8, 0x20#8, 0x21#8, 0x22#8, 0x23#8, 0x24#8, 0x28#8, 0x2C#8, 0x30#8] →
      frameCommand (covered ++ crc :: extra) = .badFrame)) ∧
  (∀ bytes : List Byte, bytes.length < requestLength bytes → frameCommand bytes = .frameDiscarded) ∧
  (∀ x : Response,
    let code : Byte :=
      match x.status with
      | .ok => 0x00#8
      | .busy => 0x01#8
      | .mode => 0x02#8
      | .damaged => 0x03#8
      | .badConfig => 0x04#8
      | .badItem => 0x05#8
      | .badFrame => 0x06#8
      | .locked => 0x07#8
    let covered : List Byte :=
      code ::
        x.words.flatMap fun w => [w.extractLsb' 24 8, w.extractLsb' 16 8, w.extractLsb' 8 8, w.extractLsb' 0 8]
    x.bytes = covered ++ [crc8 covered]) ∧
  (crc8 [] = 0x00#8 ∧
    ∀ (bytes : List Byte) (b : Byte),
      crc8 (bytes ++ [b]) =
        (fun c : Byte => if c.getLsbD 7 then (c <<< 1) ^^^ 0x07#8 else c <<< 1)^[8] (crc8 bytes ^^^ b)) ∧
  (∀ (s : State) (mosi : List Byte) (k : Nat),
    (s.pins.inReset = true → s.miso mosi k = none) ∧
    (mosi.length ≤ k → s.miso mosi k = none) ∧
    (s.pins.inReset = false → k < mosi.length → s.miso mosi k = (misoBytes mosi s.management.response)[k]?)) ∧
  ∀ (mosi : List Byte) (response : Option Response) (k : Nat), k < mosi.length →
    (misoBytes mosi response).length = mosi.length ∧
    (response = none → (misoBytes mosi response)[k]? = some 0x00#8) ∧
    (∀ x : Response, response = some x →
      let status := requestLength mosi + 1
      (k < status ∨ status + x.bytes.length ≤ k → (misoBytes mosi response)[k]? = some 0x00#8) ∧
      (status ≤ k → k < status + x.bytes.length → (misoBytes mosi response)[k]? = x.bytes[k - status]?))

/-- The record built for a slot passes every test of a valid record there and is read back whole; with another ring id,
another sequence or another slot index it fails (R22, R33, R172). A marker's body does not matter (R21). The two lines
of a slot are a valid record there exactly when signature, kind, ring id, sequence, slot index and check all hold, and
give its epoch and line address (R33, R172). The CRC-32 shifts each byte in, least significant bit first, over the
reflected polynomial 0xEDB88320, from 0xFFFFFFFF and with a final XOR of 0xFFFFFFFF (R171). -/
def Obligations.RecordsReadBack : Prop :=
  (∀ (ringId sequence : Word) (slot : Nat) (head body : List Byte) (info : RecordInfo),
    let byte := fun o : Nat => head.getD o 0#8
    let half := fun o : Nat => (byte (o + 1) ++ byte o : BitVec 16)
    let word := fun o : Nat => ((byte (o + 3) ++ byte (o + 2)) ++ (byte (o + 1) ++ byte o) : Word)
    verifyRecord ringId sequence slot head body = some info ↔
      half 0 = 0x7A4C#16 ∧
      ((byte 2 = 1#8 ∧ info.kind = .line) ∨ (byte 2 = 2#8 ∧ info.kind = .commit) ∨
        (byte 2 = 3#8 ∧ info.kind = .close)) ∧
      word 4 = ringId ∧ word 8 = sequence ∧ word 20 = BitVec.ofNat 32 slot ∧
      word 60 = crc32 (head.take 60 ++ if info.kind = .line then body else []) ∧
      info =
        { kind := info.kind, epoch := word 12, line := if info.kind = .line then some (word 16) else none, slot := slot,
          sequence := sequence }) ∧
  (crc32 [] = 0#32 ∧
    ∀ (bytes : List Byte) (b : Byte),
      crc32 (bytes ++ [b]) =
        ~~~ (fun c : Word => if c.getLsbD 0 then (c >>> 1) ^^^ 0xEDB88320#32 else c >>> 1)^[8]
          (~~~ crc32 bytes ^^^ b.setWidth 32)) ∧
  ∀ (info : RecordInfo) (window : Byte) (ringId : Word) (body : List Byte),
    (info.kind = .line ↔ info.line.isSome = true) →
    (∀ other : List Byte, (info.kind = .line → other = body) →
      verifyRecord ringId info.sequence info.slot (recordHead info window ringId body) other = some info) ∧
    (∀ (ringId' sequence' : Word) (slot' : Nat),
      ringId' ≠ ringId ∨ sequence' ≠ info.sequence ∨ BitVec.ofNat 32 slot' ≠ BitVec.ofNat 32 info.slot →
      verifyRecord ringId' sequence' slot' (recordHead info window ringId body) body = none) ∧
    (recordHead info window ringId body).length = 64

/-- A copy built from a valid configuration and a tail below the journal slots is 128 bytes long, is judged valid, and
every field is read back (R137, R138, R143, R173). The two lines of a copy, both answered DONE, are a valid copy exactly
when signature, format, CRC-32, the enumerated bytes, the configuration and the tail all pass, and give the fields at
their offsets (R138, R173). A configuration passes when none of the conditions of STORE validation holds (R143). -/
def Obligations.AnchorCopiesReadBack : Prop :=
  (∀ (f : AnchorFields) (base : Word), f.configuration.valid base = true → f.tail < f.configuration.slots.toNat →
    judgeCopy base (anchorBytes f) = some f ∧ (anchorBytes f).length = 128) ∧
  (∀ (base : Word) (bytes : List Byte) (f : AnchorFields),
    let c := f.configuration
    let byte := fun o : Nat => bytes.getD o 0#8
    let half := fun o : Nat => (byte (o + 1) ++ byte o : BitVec 16)
    let page := fun o : Nat => ((byte (o + 2)).extractLsb' 0 4 ++ (byte (o + 1) ++ byte o) : BitVec 20)
    let word := fun o : Nat => ((byte (o + 3) ++ byte (o + 2)) ++ (byte (o + 1) ++ byte o) : Word)
    judgeCopy base bytes = some f ↔
      (half 0 = 0x5048#16 ∧ byte 2 = 1#8 ∧ word 124 = crc32 (bytes.take 124) ∧
        (byte 3).toNat ≤ 1 ∧ (byte 32).toNat ≤ 1 ∧ (byte 33).toNat ≤ 1 ∧
        (∀ n : Fin 8, (byte (58 + 8 * n.val)).toNat ≤ 2) ∧ c.valid base = true ∧ f.tail < c.slots.toNat) ∧
      (f.generation = word 4 ∧ f.ringId = word 8 ∧ f.tail = (word 20).toNat ∧ f.tailSequence = word 24 ∧
        f.closedThrough = word 28 ∧ c.basePage = word 12 ∧ c.slots = word 16 ∧ c.startMode = (byte 3).extractLsb' 0 2 ∧
        c.defaultMode = (byte 32).extractLsb' 0 2 ∧ c.fullPolicy = (byte 33).extractLsb' 0 2 ∧ c.waitLimit = byte 34 ∧
        c.discardLimit.toNat = 8 * (byte 35).toNat ∧ c.threshold = half 36 ∧ c.ageLimit = half 38 ∧
        c.watermark = word 40) ∧
      ∀ n : Fin 8,
        c.windows[n] =
          { enable := (byte (59 + 8 * n.val)).getLsbD 0, base := page (52 + 8 * n.val),
            countLessOne := page (55 + 8 * n.val), mode := (byte (58 + 8 * n.val)).extractLsb' 0 2 }) ∧
  ∀ (c : Configuration) (base : Word),
    let first := c.basePage.toNat * 4096
    let past := first + c.slots.toNat * 128
    c.valid base = true ↔
      16 ≤ c.slots.toNat ∧ c.slots.toNat ≤ 1048576 ∧ past ≤ 2 ^ 32 ∧
      (past ≤ base.toNat ∨ base.toNat + 256 ≤ first) ∧
      (∀ n : Fin 8,
        c.windows[n].mode.toNat ≤ 2 ∧
          (c.windows[n].enable = true → c.windows[n].base.toNat + (c.windows[n].countLessOne.toNat + 1) ≤ 1048576)) ∧
      c.startMode.toNat ≤ 1 ∧ c.defaultMode.toNat ≤ 1 ∧ c.fullPolicy.toNat ≤ 1 ∧
      8 ≤ c.discardLimit.toNat ∧ c.discardLimit.toNat ≤ 2040 ∧ c.discardLimit.toNat % 8 = 0 ∧
      c.watermark.toNat ≤ 1048576

/-- Each configuration item reads the field or fields that the layout gives its offset, reads back what was written to
it, under the bits the layout names, and a write leaves every other item alone (R142, R175). -/
def Obligations.ConfigurationItems : Prop :=
  ∀ (c : Configuration) (v : Word),
    (c.item 0 = some c.basePage ∧ c.item 1 = some c.slots ∧
      c.item 2 =
        some (c.startMode.setWidth 32 ||| c.defaultMode.setWidth 32 <<< 8 ||| c.fullPolicy.setWidth 32 <<< 16) ∧
      c.item 3 = some (c.waitLimit.setWidth 32) ∧ c.item 4 = some c.discardLimit ∧
      c.item 5 = some (c.threshold.setWidth 32 ||| c.ageLimit.setWidth 32 <<< 16) ∧ c.item 6 = some c.watermark ∧
      ∀ n : Fin 8,
        c.item (7 + 2 * n.val) =
          some
            (c.windows[n].base.setWidth 32 ||| c.windows[n].mode.setWidth 32 <<< 24 |||
              if c.windows[n].enable then 0x80000000#32 else 0#32) ∧
        c.item (8 + 2 * n.val) = some (c.windows[n].countLessOne.setWidth 32)) ∧
    (c.writeItem 0 v).item 0 = some v ∧ (c.writeItem 1 v).item 1 = some v ∧
    (c.writeItem 2 v).item 2 = some (v &&& 0x00030303#32) ∧ (c.writeItem 3 v).item 3 = some (v &&& 0xFF#32) ∧
    (c.writeItem 4 v).item 4 = some v ∧ (c.writeItem 5 v).item 5 = some v ∧ (c.writeItem 6 v).item 6 = some v ∧
    (∀ n : Nat, n < 8 →
      (c.writeItem (7 + 2 * n) v).item (7 + 2 * n) = some (v &&& 0x830FFFFF#32) ∧
      (c.writeItem (8 + 2 * n) v).item (8 + 2 * n) = some (v &&& 0x000FFFFF#32)) ∧
    (∀ o p : Nat, o ≠ p → (c.writeItem o v).item p = c.item p) ∧ (∀ p : Nat, 23 ≤ p → c.item p = none)

/-! ### The host port -/

/-- The enabled window of lowest index that contains an address gives its class and window index; with none, the default
mode gives the class, and there is no index (R124). A page guarded only in part keeps its class where the guard lets an
address pass (log entry 27). -/
def Obligations.LowestWindowClassifies : Prop :=
  ∀ (c : Configuration) (address : Word),
    (∀ i : Fin 8,
      (c.windows[i].contains address = true ↔
        c.windows[i].enable = true ∧ c.windows[i].base.toNat ≤ address.toNat / 4096 ∧
          address.toNat / 4096 ≤ c.windows[i].base.toNat + (c.windows[i].countLessOne.toNat + 1) - 1)) ∧
    (∀ i : Fin 8, c.windows[i].contains address = true → (∀ j : Fin 8, j < i → c.windows[j].contains address = false) →
      (c.classify address).2 = some i ∧
      (c.windows[i].mode = 0#2 → (c.classify address).1 = .pass) ∧
      (c.windows[i].mode = 1#2 → (c.classify address).1 = .journal) ∧
      (c.windows[i].mode = 2#2 → (c.classify address).1 = .readonly)) ∧
    ((∀ i : Fin 8, c.windows[i].contains address = false) →
      (c.classify address).2 = none ∧
      (c.defaultMode = 0#2 → (c.classify address).1 = .pass) ∧
      (c.defaultMode = 1#2 → (c.classify address).1 = .readonly))

/-- The tests made on arrival in their order, with the guard over the 256 bytes of the anchor region and over the
journal area of a valid working configuration (R121, R122), and then the answer table (R125). The guard refuses the
addresses of its regions, and not the rest of their pages (log entry 27). A request that these tests or the table
refuse is answered at once, and all that changes is the answer given and its counter (R120, R121, R125, R169). -/
def Obligations.ArrivalTestsInOrder : Prop :=
  (∀ (s : State) (r : HostRequest),
    (s.guarded r.address = true ↔
      (s.anchorBase.toNat ≤ r.address.toNat ∧ r.address.toNat < s.anchorBase.toNat + 256) ∨
      (16 ≤ s.anchor.working.slots.toNat ∧ s.anchor.working.slots.toNat ≤ 1048576 ∧
        s.anchor.working.basePage.toNat * 4096 ≤ r.address.toNat ∧
        r.address.toNat < s.anchor.working.basePage.toNat * 4096 + s.anchor.working.slots.toNat * 128)) ∧
    (s.modes.freeze = true → s.judgeArrival r = .retry) ∧
    (s.modes.freeze = false → 64 < r.offset + r.length → s.judgeArrival r = .fault .boundary) ∧
    (s.modes.freeze = false → r.offset + r.length ≤ 64 →
      ((s.modes.mode = .loading ∨ s.modes.mode = .recovering) → s.judgeArrival r = .retry) ∧
      (s.modes.mode ≠ .loading → s.modes.mode ≠ .recovering →
        (s.guarded r.address = true → s.judgeArrival r = .fault .guarded) ∧
        (s.guarded r.address = false → s.judgeArrival r = s.judge r.kind r.cls)))) ∧
  ∀ (s : State) (q : BitVec 4) (address : Word) (length : Nat) (data : List Byte) (kind : FaultKind),
    s.Running → s.host.current = none →
    (s.judgeArrival (s.arrive .read q address length []) = .retry →
      exec (.hostReadRequest q address length) s =
        .next (bump .retries { s with host := { s.host with answer := some .retry } })) ∧
    (s.judgeArrival (s.arrive .read q address length []) = .fault kind →
      exec (.hostReadRequest q address length) s =
        .next (bump .faults { s with host := { s.host with answer := some (.fault kind) } })) ∧
    (s.judgeArrival (s.arrive .write q address data.length data) = .retry →
      exec (.hostWriteRequest q address data) s =
        .next (bump .retries { s with host := { s.host with answer := some .retry } })) ∧
    (s.judgeArrival (s.arrive .write q address data.length data) = .fault kind →
      exec (.hostWriteRequest q address data) s =
        .next (bump .faults { s with host := { s.host with answer := some (.fault kind) } }))

/-- The answer table (R125, R90): each class and kind in each mode, with the row of a running rollback. -/
def Obligations.AnswerTable : Prop :=
  ∀ s : State, s.modes.mode ≠ .loading → s.modes.mode ≠ .recovering →
    s.judge .read .pass = .forward ∧ s.judge .write .pass = .forward ∧
    s.judge .read .readonly = .forward ∧ s.judge .write .readonly = .fault .readonly ∧
    (s.modes.mode = .active → s.replay.rollback = none →
      s.judge .read .journal = .forward ∧
      ((∃ e ∈ s.epochs.table.epochs, e.state = .opened) → s.judge .write .journal = .journal)) ∧
    (s.modes.mode = .active → s.replay.rollback ≠ none →
      s.judge .read .journal = .retry ∧ s.judge .write .journal = .retry) ∧
    (s.modes.mode = .quiescing ∨ s.modes.mode = .quiesced →
      s.judge .read .journal = .forward ∧ s.judge .write .journal = .retry) ∧
    (s.modes.mode = .bypass → s.judge .read .journal = .forward ∧ s.judge .write .journal = .forward) ∧
    (s.modes.mode = .halted → s.judge .read .journal = .forward ∧ s.judge .write .journal = .fault .halted)

/-- The request in hand judged afresh (R128): while the freeze flag is set it is answered RETRY, and else as the answer
table says, its HOST-READ entry, if any, then left abandoned; let through, it goes on. After a STORE it is classified
afresh, and answered FAULT, GUARDED when the guard now refuses its address. -/
def Obligations.RequestInHandJudgedAfresh : Prop :=
  ∀ s : State,
    let abandoned :=
      s.memory.queue.map fun e =>
        match e.source with
        | .hostRead q .current => { e with source := .hostRead q .abandoned }
        | _ => e
    let answered := fun a : HostAnswer =>
      { s with
        host := { s.host with current := none, answer := some a }
        memory := { s.memory with queue := abandoned } }
    (s.host.current = none → rejudge s = s ∧ reclassify s = s) ∧
    (∀ r : HostRequest, s.host.current = some r →
      (s.modes.freeze = true ∨ s.judge r.kind r.cls = .retry → rejudge s = bump .retries (answered .retry)) ∧
      (∀ k : FaultKind, s.modes.freeze = false → s.judge r.kind r.cls = .fault k →
        rejudge s = bump .faults (answered (.fault k))) ∧
      (s.modes.freeze = false → (s.judge r.kind r.cls = .forward ∨ s.judge r.kind r.cls = .journal) → rejudge s = s) ∧
      (s.guarded r.address = true → reclassify s = bump .faults (answered (.fault .guarded))) ∧
      (s.guarded r.address = false →
        reclassify s =
          rejudge
            { s with
              host :=
                { s.host with
                  current := some
                    { r with
                      cls := (s.anchor.working.classify r.address).1
                      window := (s.anchor.working.classify r.address).2 } } }))

/-- A forwarded read that matches no deferred entry waits in LINE-WAIT while a hold entry targets its line, and else
in GRANT-WAIT (R49, R119, R127). With a host wait limit of 0 the limit has run out at once: the read is answered
RETRY and kept in the free slot of lowest number, or, with none free, not kept (R126, R130). An older entry of its
requester is discarded first, as `DeferredDiscard` gives, and frees its slot, which may be the one taken (R130,
R132). All else is unchanged. -/
def Obligations.HostReadForwarded : Prop :=
  ∀ (s : State) (q : BitVec 4) (address : Word) (length : Nat),
    let r := s.arrive .read q address length []
    let held := s.hold.entries.any fun e => e.line == lineOf address
    s.Running → s.host.current = none → s.judgeArrival r = .forward →
    s.host.findSlot (fun d => d.matchesRequest r) = none →
    (s.anchor.working.waitLimit ≠ 0#8 →
      exec (.hostReadRequest q address length) s =
        .next
          { s with
            host :=
              { s.host with
                current := some
                  { kind := .read, requester := q, address := address, line := lineOf address,
                    offset := address.toNat % 64, length := length, data := [],
                    cls := (s.anchor.working.classify address).1, window := (s.anchor.working.classify address).2,
                    arrival := s.pins.now, wait := if held then .lineWait else .grantWait }
                answer := none } }) ∧
    (s.anchor.working.waitLimit = 0#8 → s.NoCurrentRead →
      (∀ i : Fin 4, ∀ d, s.host.deferred[i] = some d → d.requester ≠ q) →
      (∀ i : Fin 4, s.host.deferred[i] = none → (∀ j : Fin 4, j < i → s.host.deferred[j] ≠ none) →
        exec (.hostReadRequest q address length) s =
          .next (bump .retries
            { s with
              host :=
                { current := none
                  deferred := s.host.deferred.set i (some
                    { requester := q, line := lineOf address, offset := address.toNat % 64, length := length,
                      state := .fetching (if held then .lineWait else .grantWait) })
                  answer := some .retry } })) ∧
      ((∀ i : Fin 4, s.host.deferred[i] ≠ none) →
        exec (.hostReadRequest q address length) s =
          .next (bump .retries { s with host := { s.host with answer := some .retry } }))) ∧
    (s.anchor.working.waitLimit = 0#8 → s.NoCurrentRead →
      ∀ (old : Fin 4) (d : Deferred), s.host.deferred[old] = some d → d.requester = q →
        let v := discardDeferred (fun d => d.requester == q) s
        v.host.deferred[old] = none ∧
        ∀ i : Fin 4, v.host.deferred[i] = none → (∀ j : Fin 4, j < i → v.host.deferred[j] ≠ none) →
          exec (.hostReadRequest q address length) s =
            .next (bump .retries
              { v with
                host :=
                  { current := none
                    deferred := v.host.deferred.set i (some
                      { requester := q, line := lineOf address, offset := address.toNat % 64, length := length,
                        state := .fetching (if held then .lineWait else .grantWait) })
                    answer := some .retry } }))

/-- A reissued read that matches a READY entry is answered DONE with its data at once, its slot becomes free, and two
counters rise; on a FETCHING entry it waits in SLOT-WAIT, or, with a limit of 0, is answered RETRY (R126, R131). -/
def Obligations.HostReadMatchesDeferred : Prop :=
  ∀ (s : State) (q : BitVec 4) (address : Word) (length : Nat) (i : Fin 4) (d : Deferred),
    let r := s.arrive .read q address length []
    s.Running → s.host.current = none → s.judgeArrival r = .forward →
    s.host.findSlot (fun d => d.matchesRequest r) = some i → s.host.deferred[i] = some d →
    (d.requester = q ∧ d.line = lineOf address ∧ d.offset = address.toNat % 64 ∧ d.length = length) ∧
    (∀ (data : List Byte) (age : Nat), d.state = .ready data age →
      exec (.hostReadRequest q address length) s =
        .next (bump .deferredServed (bump .hostReads
          { s with
            host := { current := none, deferred := s.host.deferred.set i none, answer := some (.done data) } }))) ∧
    (∀ stage : FetchStage, d.state = .fetching stage →
      (s.anchor.working.waitLimit ≠ 0#8 →
        exec (.hostReadRequest q address length) s =
          .next { s with host := { s.host with current := some { r with wait := .slotWait i }, answer := none } }) ∧
      (s.anchor.working.waitLimit = 0#8 →
        exec (.hostReadRequest q address length) s =
          .next (bump .retries { s with host := { s.host with answer := some .retry } })))

/-- A write that the answer table lets through, on arrival or waiting for a place, is taken when the hold queue holds
fewer than 16 entries (R40, R43); `TakenWrites` says what taking it does. A write that finds 16 entries there waits for
a place, or, with a host wait limit of 0, is answered RETRY at once; the hold-full waits counter rises (R43, R126). -/
def Obligations.WritesOffered : Prop :=
  ∀ (s : State) (q : BitVec 4) (address : Word) (data : List Byte),
    let r := s.arrive .write q address data.length data
    s.Running →
    (s.host.current = none → s.hold.entries.length < 16 →
      (s.judgeArrival r = .forward →
        exec (.hostWriteRequest q address data) s = .next (updateSpace (takeWrite r false s))) ∧
      (s.judgeArrival r = .journal →
        exec (.hostWriteRequest q address data) s = .next (updateSpace (takeWrite r true s)))) ∧
    (s.host.current = none → 16 ≤ s.hold.entries.length → (s.judgeArrival r = .forward ∨ s.judgeArrival r = .journal) →
      (s.anchor.working.waitLimit ≠ 0#8 →
        exec (.hostWriteRequest q address data) s =
          .next (updateSpace (bump .holdFullWaits
            { s with host := { s.host with current := some { r with wait := .placeWait }, answer := none } }))) ∧
      (s.anchor.working.waitLimit = 0#8 →
        exec (.hostWriteRequest q address data) s =
          .next (updateSpace (bump .holdFullWaits (bump .retries
            { s with host := { s.host with answer := some .retry } }))))) ∧
    (∀ x : HostRequest, s.host.current = some x → x.wait = .placeWait →
      (16 ≤ s.hold.entries.length → exec .waitingWriteTaken s = .next s) ∧
      (s.hold.entries.length < 16 →
        (s.judge x.kind x.cls = .forward → exec .waitingWriteTaken s = .next (updateSpace (takeWrite x false s))) ∧
        (s.judge x.kind x.cls = .journal → exec .waitingWriteTaken s = .next (updateSpace (takeWrite x true s)))))

/-- Taking a write: the deferred entries for its line are discarded, whatever its class (`DeferredDiscard`), an entry
joins the end of the hold queue, and the write is answered DONE and counted (R40, R132, R169). As PASS the entry is
READY and unstamped (R41). As JOURNAL it is stamped with the number of the OPEN epoch, whose held entries rise by one,
and the tag lookup gives its state, its tag entry and its counter (R10, R11, R41, R42, R55). -/
def Obligations.TakenWrites : Prop :=
  (∀ (s : State) (r : HostRequest),
    let u := discardDeferred (fun d => d.line == r.line) s
    takeWrite r false s =
      bump .hostWrites
        { u with
          hold :=
            { entries := s.hold.entries ++
                [{ id := s.hold.nextId, cls := .pass, line := r.line, offset := r.offset, data := r.data, state := .ready,
                   tag := none, capture := none }]
              nextId := s.hold.nextId + 1 }
          host := { u.host with current := none, answer := some (.done []) } }) ∧
  ∀ (s : State) (r : HostRequest) (w : Fin 8) (o : LiveEpoch),
    let key : TagKey := ⟨r.line, o.number⟩
    let u := discardDeferred (fun d => d.line == r.line) s
    let t := takeWrite r true s
    let entry : HoldEntry :=
      { id := s.hold.nextId, cls := .journal o.number w, line := r.line, offset := r.offset, data := r.data,
        state := .needsCapture, tag := none, capture := none }
    r.window = some w → s.epochs.table.opened = some o →
    t.epochs =
      { s.epochs with
        table := s.epochs.table.map fun e => if e.number = o.number then { e with held := e.held + 1 } else e } ∧
    t.host = { current := none, deferred := u.host.deferred, answer := some (.done []) } ∧ t.memory = u.memory ∧
    t.counter .hostWrites = saturatingSucc (s.counter .hostWrites) ∧
    (∀ c : Counter, c ≠ .hostWrites → c ≠ .tagHits → c ≠ .tagFullMisses → t.counter c = u.counter c) ∧
    t.management = { s.management with counters := t.management.counters } ∧
    t.hold.nextId = s.hold.nextId + 1 ∧
    t.pending = s.pending ∧ t.pins = s.pins ∧ t.modes = s.modes ∧ t.ring = s.ring ∧ t.replay = s.replay ∧
    t.anchor = s.anchor ∧ t.capture.slots = s.capture.slots ∧ t.capture.reads = s.capture.reads ∧
    (s.capture.tagState key = some .saved →
      t.hold.entries = s.hold.entries ++ [{ entry with state := .ready }] ∧ t.capture.tags = s.capture.tags ∧
      t.counter .tagHits = saturatingSucc (s.counter .tagHits) ∧
      t.counter .tagFullMisses = s.counter .tagFullMisses) ∧
    (∀ owner slot, s.capture.tagState key = some (.capturing owner slot) →
      t.hold.entries = s.hold.entries ++ [{ entry with state := .waitCapture, tag := some key }] ∧
      t.capture.tags = s.capture.tags ∧ t.counter .tagHits = saturatingSucc (s.counter .tagHits) ∧
      t.counter .tagFullMisses = s.counter .tagFullMisses) ∧
    (s.capture.tagState key = none → s.capture.tags.length < 256 →
      t.hold.entries = s.hold.entries ++ [{ entry with tag := some key }] ∧
      t.capture.tags = s.capture.tags ++ [{ key := key, state := .capturing (some s.hold.nextId) none }] ∧
      t.counter .tagHits = s.counter .tagHits ∧ t.counter .tagFullMisses = s.counter .tagFullMisses) ∧
    (s.capture.tagState key = none → 256 ≤ s.capture.tags.length →
      t.hold.entries = s.hold.entries ++ [entry] ∧ t.capture.tags = s.capture.tags ∧
      t.counter .tagHits = s.counter .tagHits ∧
      t.counter .tagFullMisses = saturatingSucc (s.counter .tagFullMisses))

/-- Discarding the deferred entries that `p` picks: their slots become free, each discard is counted, and the memory
requests of those slots are marked abandoned; nothing else changes (R132). -/
def Obligations.DeferredDiscard : Prop :=
  ∀ (p : Deferred → Bool) (s : State),
    let picked := fun i : Fin 4 => (s.host.deferred[i].map p).getD false
    let t := discardDeferred p s
    (∀ i : Fin 4, t.host.deferred[i] = if picked i then none else s.host.deferred[i]) ∧
    t.host.current = s.host.current ∧ t.host.answer = s.host.answer ∧
    t.memory.turn = s.memory.turn ∧
    t.memory.queue = s.memory.queue.map (fun e =>
      { e with
        source :=
          match e.source with
          | .hostRead q (.slot i) => if picked i then .hostRead q .abandoned else .hostRead q (.slot i)
          | .deferredFetch i b => if picked i then .deferredFetch i true else .deferredFetch i b
          | source => source }) ∧
    t.counter .deferredDiscarded =
      saturatingSucc^[(slotOrder.filter picked).length] (s.counter .deferredDiscarded) ∧
    (∀ c : Counter, c ≠ .deferredDiscarded → t.counter c = s.counter c) ∧
    t.management = { s.management with counters := t.management.counters } ∧
    t.pending = s.pending ∧ t.pins = s.pins ∧ t.modes = s.modes ∧ t.epochs = s.epochs ∧ t.ring = s.ring ∧
    t.hold = s.hold ∧ t.capture = s.capture ∧ t.replay = s.replay ∧ t.anchor = s.anchor

/-- When the hold queue holds no entry for a line, the current read and the deferred fetches that wait on that line
leave LINE-WAIT for GRANT-WAIT, and nothing else changes; while it holds one nothing changes (R49, R127, R131). -/
def Obligations.LineWaitCleared : Prop :=
  ∀ (s : State) (line : Word), s.Running →
    ((∃ e ∈ s.hold.entries, e.line = line) → exec (.lineWaitCleared line) s = .next s) ∧
    ((∀ e ∈ s.hold.entries, e.line ≠ line) →
      ∃ t : State, exec (.lineWaitCleared line) s = .next t ∧
        t = { s with host := { s.host with current := t.host.current, deferred := t.host.deferred } } ∧
        (∀ r, s.host.current = some r →
          t.host.current = some (if r.wait = .lineWait ∧ r.line = line then { r with wait := .grantWait } else r)) ∧
        (s.host.current = none → t.host.current = none) ∧
        (∀ (i : Fin 4) (d : Deferred), s.host.deferred[i] = some d →
          t.host.deferred[i] =
            some (if d.state = .fetching .lineWait ∧ d.line = line then { d with state := .fetching .grantWait }
              else d)) ∧
        (∀ i : Fin 4, s.host.deferred[i] = none → t.host.deferred[i] = none))

/-- The host wait limit runs out on the current request, the tick having reached its arrival + the limit (log entry 7):
the request is answered RETRY. A write in PLACE-WAIT and a read in SLOT-WAIT leave no deferred entry. A read in
LINE-WAIT, GRANT-WAIT or MEMORY-WAIT discards its requester's older entry and then takes the free slot of lowest
number, its fetch stage following its wait state and its HOST-READ entry, if any, now owned by the slot; with no slot
free that entry is abandoned (R43, R126, R130). The age of a READY entry reaches the discard limit, the tick having
passed to that moment: the entry is discarded (R132, R133). During a freeze ages stand still, and an entry is discarded
only when a STORE has lowered the limit to its age or below (R133; log entry 7). Making a slot, or nobody, the owner of
the current HOST-READ entry, and abandoning the requests of a slot, change those entries of the memory queue and
nothing else (R113, R130, R132). -/
def Obligations.HostPortLimits : Prop :=
  (∀ (s : State) (i : Fin 4) (owner : ReadOwner),
    ownCurrentRead owner s =
      { s with
        memory :=
          { s.memory with
            queue := s.memory.queue.map fun e =>
              { e with
                source :=
                  match e.source with
                  | .hostRead q .current => .hostRead q owner
                  | source => source } } } ∧
    abandonFetch i s =
      { s with
        memory :=
          { s.memory with
            queue := s.memory.queue.map fun e =>
              { e with
                source :=
                  match e.source with
                  | .hostRead q (.slot j) => if j = i then .hostRead q .abandoned else .hostRead q (.slot j)
                  | .deferredFetch j b => if j = i then .deferredFetch j true else .deferredFetch j b
                  | source => source } } }) ∧
  (∀ (s : State) (i : Fin 4) (d : Deferred) (data : List Byte) (age : Nat),
    s.Running → s.host.deferred[i] = some d → d.state = .ready data age →
    (s.modes.freeze = true → age < s.anchor.working.discardLimit.toNat →
      exec (.deferredDiscardLimitExpiry i) s = .next s) ∧
    (s.modes.freeze = true → s.anchor.working.discardLimit.toNat ≤ age →
      exec (.deferredDiscardLimitExpiry i) s =
        .next (bump .deferredDiscarded
          { s with
            host := { s.host with deferred := s.host.deferred.set i none }
            memory := (abandonFetch i s).memory })) ∧
    (s.modes.freeze = false →
      let u := elapse (s.anchor.working.discardLimit.toNat - age) s
      exec (.deferredDiscardLimitExpiry i) s =
        .next (bump .deferredDiscarded
          { u with
            host := { u.host with deferred := u.host.deferred.set i none }
            memory := (abandonFetch i s).memory }))) ∧
  ∀ (s : State) (r : HostRequest), s.Running → s.host.current = some r →
    let u := elapseTo (r.arrival + s.anchor.working.waitLimit.toNat) s
    let v := discardDeferred (fun d => d.requester == r.requester) u
    ((r.wait = .placeWait ∨ ∃ i, r.wait = .slotWait i) →
      exec .hostWaitLimitExpiry s =
        .next (bump .retries { u with host := { u.host with current := none, answer := some .retry } })) ∧
    (∀ stage : FetchStage,
      (r.wait = .lineWait ∧ stage = .lineWait) ∨ (r.wait = .grantWait ∧ stage = .grantWait) ∨
        (r.wait = .memoryWait ∧ stage = .inQueue) →
      (∀ i : Fin 4, v.host.deferred[i] = none → (∀ j : Fin 4, j < i → v.host.deferred[j] ≠ none) →
        exec .hostWaitLimitExpiry s =
          .next (bump .retries
            { v with
              host :=
                { current := none
                  deferred := v.host.deferred.set i (some
                    { requester := r.requester, line := r.line, offset := r.offset, length := r.length,
                      state := .fetching stage })
                  answer := some .retry }
              memory := (ownCurrentRead (.slot i) v).memory })) ∧
      ((∀ i : Fin 4, v.host.deferred[i] ≠ none) →
        exec .hostWaitLimitExpiry s =
          .next (bump .retries
            { v with
              host := { v.host with current := none, answer := some .retry }
              memory := (ownCurrentRead .abandoned v).memory })))

/-! ### Capture start, the arbiter and the memory queue -/

/-- The oldest entry that needs a capture which has not started, and behind which no older entry targets its line, takes
the IDLE capture slot of lowest number and a promise, which is granted only with free space above 2; refused, or with
every slot busy, nothing changes (R24, R25, R45, R61). -/
def Obligations.CaptureStarts : Prop :=
  ∀ s : State, s.Running →
    ((∀ j : Fin 4, s.capture.slots[j] ≠ none) → exec .captureStart s = .next s) ∧
    (∀ (older younger : List HoldEntry) (e : HoldEntry) (epoch : Word) (window : Fin 8) (i : Fin 4),
      s.hold.entries = older ++ e :: younger →
      e.cls = .journal epoch window → e.state = .needsCapture → e.capture = none → (∀ x ∈ older, x.line ≠ e.line) →
      (∀ (pre post : List HoldEntry) (x : HoldEntry), older = pre ++ x :: post →
        x.cls = .pass ∨ x.state ≠ .needsCapture ∨ x.capture ≠ none ∨ ∃ y ∈ pre, y.line = x.line) →
      s.capture.slots[i] = none → (∀ j : Fin 4, j < i → s.capture.slots[j] ≠ none) →
      let free := s.anchor.working.slots.toNat - s.ring.used - s.ring.promised
      (free ≤ 2 → exec .captureStart s = .next s) ∧
      (2 < free →
        exec .captureStart s =
          .next (updateSpace (bump .captures
            { s with
              ring := { s.ring with promised := s.ring.promised + 1 }
              hold :=
                { s.hold with
                  entries := s.hold.entries.map fun x => if x.id = e.id then { x with capture := some i } else x }
              capture :=
                { tags :=
                    s.capture.tags.map fun x =>
                      if some x.key = e.tag then { x with state := .capturing (some e.id) (some i) } else x
                  slots := s.capture.slots.set i (some
                    { line := e.line, epoch := epoch, window := window, hold := some e.id, tag := e.tag,
                      phase := .reading false })
                  reads := s.capture.reads ++ [i] } }))))

/-- The order of the arbiter: nothing while the freeze flag is set or the queue holds 16 entries; else the replay
engine, the anchor unit, the record write list, the read list, and at the fifth level the host side (the current read
before the deferred fetches in slot order, each only when no hold entry targets its line) and the hold side (a READY
head entry), the turn deciding when both present (R49, R110, R111, R112). A grant row that is not the arbiter's choice
changes nothing (log entry 2). -/
def Obligations.ArbiterOrder : Prop :=
  ∀ s : State,
    let held := fun line : Word => ∃ e ∈ s.hold.entries, e.line = line
    let read : Prop := ∃ r : HostRequest, s.host.current = some r ∧ r.wait = .grantWait ∧ ¬ held r.line
    let fetch := fun i : Fin 4 =>
      ∃ d : Deferred, s.host.deferred[i] = some d ∧ d.state = .fetching .grantWait ∧ ¬ held d.line
    let release : Prop := ∃ (e : HoldEntry) (rest : List HoldEntry), s.hold.entries = e :: rest ∧ e.state = .ready
    let stopped : Prop := s.modes.freeze = true ∨ 16 ≤ s.memory.queue.length
    (stopped → s.arbiter = none) ∧
    (¬ stopped → s.replay.requests ≠ [] → s.arbiter = some .replay) ∧
    (¬ stopped → s.replay.requests = [] → s.anchorRequest ≠ none → s.arbiter = some .anchor) ∧
    (¬ stopped → s.replay.requests = [] → s.anchorRequest = none → s.ring.writes ≠ [] → s.arbiter = some .record) ∧
    (¬ stopped → s.replay.requests = [] → s.anchorRequest = none → s.ring.writes = [] →
      (s.capture.reads ≠ [] → s.arbiter = some .capture) ∧
      (s.capture.reads = [] →
        (read → (s.memory.turn = .host ∨ ¬ release) → s.arbiter = some .hostRead) ∧
        (∀ i : Fin 4, ¬ read → fetch i → (∀ j : Fin 4, j < i → ¬ fetch j) → (s.memory.turn = .host ∨ ¬ release) →
          s.arbiter = some (.deferredFetch i)) ∧
        (release → (s.memory.turn = .hold ∨ (¬ read ∧ ∀ i : Fin 4, ¬ fetch i)) → s.arbiter = some .hold) ∧
        (¬ read → (∀ i : Fin 4, ¬ fetch i) → ¬ release → s.arbiter = none))) ∧
    (s.Running →
      (s.arbiter ≠ some .replay → exec .replayRequestGrant s = .next s) ∧
      (s.arbiter ≠ some .anchor → exec .anchorLineGrant s = .next s) ∧
      (s.arbiter ≠ some .record → exec .recordWriteGrant s = .next s) ∧
      (s.arbiter ≠ some .capture → exec .captureReadGrant s = .next s) ∧
      (s.arbiter ≠ some .hostRead → exec .hostReadGrant s = .next s) ∧
      ((∀ i : Fin 4, s.arbiter ≠ some (.deferredFetch i)) → exec .deferredFetchGrant s = .next s) ∧
      (s.arbiter ≠ some .hold → exec .holdRelease s = .next s))

/-- What a grant does: it turns one request into a WAITING entry at the end of the memory queue. At the fifth level the
head entry of the hold queue leaves it as a data write, and for a JOURNAL entry held entries fall and data writes
outstanding rise by one; a host read enters MEMORY-WAIT and a fetch IN-QUEUE as a read of the line; the turn passes to
the side not granted (R11, R12, R47, R107, R111, R127, R131). At the four levels above it is the read at the front of
the read list (R62), the write at the front of the record write list (R29), an anchor read or an anchor line write at
its address (R135, R138, R140), and the replay engine's oldest request at the address of its ring slot, or of the
restored line (R20, R92, R93), and the turn stays as it is (R111). -/
def Obligations.Grants : Prop :=
  (∀ s : State, s.Running →
    (∀ (e : HoldEntry) (rest : List HoldEntry), s.arbiter = some .hold → s.hold.entries = e :: rest →
      let released := fun epoch : Option Word =>
        { s with
          hold := { s.hold with entries := rest }
          memory :=
            { queue := s.memory.queue ++
                [{ source := .holdRelease epoch, line := e.line, offset := e.offset, length := e.data.length,
                   data := e.data, issued := none }]
              turn := .host } }
      (e.cls = .pass → exec .holdRelease s = .next (updateSpace (released none))) ∧
      (∀ (n : Word) (w : Fin 8), e.cls = .journal n w →
        exec .holdRelease s =
          .next (updateSpace
            { released (some n) with
              epochs :=
                { s.epochs with
                  table := s.epochs.table.map fun x =>
                    if x.number = n then { x with held := x.held - 1, out := x.out + 1 } else x } }))) ∧
    (∀ r : HostRequest, s.arbiter = some .hostRead → s.host.current = some r →
      exec .hostReadGrant s =
        .next
          { s with
            host := { s.host with current := some { r with wait := .memoryWait } }
            memory :=
              { queue := s.memory.queue ++
                  [{ source := .hostRead r.requester .current, line := r.line, offset := 0, length := 64, data := [],
                     issued := none }]
                turn := .hold } }) ∧
    (∀ (i : Fin 4) (d : Deferred), s.arbiter = some (.deferredFetch i) → s.host.deferred[i] = some d →
      exec .deferredFetchGrant s =
        .next
          { s with
            host := { s.host with deferred := s.host.deferred.set i (some { d with state := .fetching .inQueue }) }
            memory :=
              { queue := s.memory.queue ++
                  [{ source := .deferredFetch i false, line := d.line, offset := 0, length := 64, data := [],
                     issued := none }]
                turn := .hold } })) ∧
  (∀ s : State, s.Running →
    let granted := fun (source : Source) (line : Word) (data : List Byte) (length : Nat) =>
      { s.memory with
        queue := s.memory.queue ++
          [{ source := source, line := line, offset := 0, length := length, data := data, issued := none }] }
    let slotLine := fun (slot offset : Nat) =>
      BitVec.ofNat 32 (s.anchor.working.basePage.toNat * 4096 + 128 * slot + offset)
    let copyLine := fun (c : Copy) (second : Bool) =>
      s.anchorBase + (if c = .b then 128#32 else 0#32) + (if second then 64#32 else 0#32)
    (∀ (i : Fin 4) (rest : List (Fin 4)) (c : Capture),
      s.arbiter = some .capture → s.capture.reads = i :: rest → s.capture.slots[i] = some c →
      exec .captureReadGrant s =
        .next { s with capture := { s.capture with reads := rest }, memory := granted (.captureRead i) c.line [] 64 }) ∧
    (∀ (w : RecordWrite) (rest : List RecordWrite), s.arbiter = some .record → s.ring.writes = w :: rest →
      exec .recordWriteGrant s =
        .next
          { s with
            ring := { s.ring with writes := rest }
            memory := granted (.recordWrite w.info w.isHead) w.address w.data w.data.length }) ∧
    (s.arbiter = some .anchor →
      (∀ (l : Loading) (c : Copy) (second : Bool), s.anchor.loading = some l →
        (l.granted = 0 ∧ c = .a ∧ second = false) ∨ (l.granted = 1 ∧ c = .a ∧ second = true) ∨
          (l.granted = 2 ∧ c = .b ∧ second = false) ∨ (l.granted = 3 ∧ c = .b ∧ second = true) →
        exec .anchorLineGrant s =
          .next
            { s with
              anchor := { s.anchor with loading := some { l with granted := l.granted + 1 } }
              memory := granted (.anchorRead c second) (copyLine c second) [] 64 }) ∧
      (∀ (w : AnchorWrite) (second : Bool), s.anchor.loading = none → s.anchor.write = some w →
        (w.granted = 0 ∧ second = false) ∨ (w.granted = 1 ∧ second = true) →
        let bytes := if second then w.bytes.drop 64 else w.bytes.take 64
        exec .anchorLineGrant s =
          .next
            { s with
              anchor := { s.anchor with write := some { w with granted := w.granted + 1 } }
              memory := granted (.anchorWrite w.target second) (copyLine w.target second) bytes bytes.length })) ∧
    (∀ (q : ReplayRequest) (rest : List ReplayRequest), s.arbiter = some .replay → s.replay.requests = q :: rest →
      let replay := { s.replay with requests := rest }
      (∀ slot, q = .readHead slot →
        exec .replayRequestGrant s =
          .next { s with replay := replay, memory := granted (.replayRead slot true) (slotLine slot 0) [] 64 }) ∧
      (∀ slot, q = .readBody slot →
        exec .replayRequestGrant s =
          .next { s with replay := replay, memory := granted (.replayRead slot false) (slotLine slot 64) [] 64 }) ∧
      (∀ slot epoch line data, q = .restore slot epoch line data →
        exec .replayRequestGrant s =
          .next
            { s with replay := replay, memory := granted (.restoreWrite slot epoch) line data data.length })))

/-- The oldest WAITING entry is issued, with the tick as its issue time, while fewer than 4 requests are outstanding;
with 4 outstanding, or no entry waiting, nothing changes (R107, R108). The freeze flag does not stop issue (R117). -/
def Obligations.MemoryIssued : Prop :=
  ∀ s : State, s.Running →
    (4 ≤ s.memory.queue.countP (fun e => e.issued.isSome) → exec .memoryIssue s = .next s) ∧
    ((∀ e ∈ s.memory.queue, e.issued.isSome = true) → exec .memoryIssue s = .next s) ∧
    (∀ (issued waiting : List MemoryEntry) (e : MemoryEntry),
      s.memory.queue = issued ++ e :: waiting → (∀ x ∈ issued, x.issued.isSome = true) → e.issued = none →
      s.memory.queue.countP (fun e => e.issued.isSome) < 4 →
      exec .memoryIssue s =
        .next
          { s with
            memory :=
              { s.memory with queue := issued ++ { e with issued := some s.pins.now } :: waiting } })

/-- A memory request that is not answered within 2,048 µs of its issue times out, the tick having passed to that moment
(log entry 7); an answer of a kind that does not fit the oldest ISSUED request has the same effect, and with nothing
outstanding an answer is ignored (R108, R115); the row for such an answer, with a kind that does fit, changes nothing
(log entry 2). Every ISSUED request is ended and the WAITING ones stay, one entry joins the error log, and the bridge
halts with cause MEMORY-TIMEOUT, unless it has halted before (R115, R116). A read of the current request that is ended
so, the oldest or not, or that waits on a slot whose fetch is, is answered FAULT, MEMORY (R127, R131). A deferred entry
whose fetch is ended is discarded, and the others stay (R131, R132). An anchor write whose second line is ended, its
first answered or ended too, is in flight no longer: for an update the stale flag is set and ANCHOR-STALE raised, and a
STORE leaves the stale flag as it is; with only its first line ended it stays in flight (R115, R141, R145). In HALTED
no journal work is taken to be left (`HaltedUntilReset`), and for the one entry the first line of an anchor write in
flight not to have been answered FAULT (log entry 11). Host reads, deferred fetches, capture, anchor and replay reads
are READs, and the others WRITEs; the entry carries the ring slot of a record write or a replay read, and else none
(R106, R115). -/
def Obligations.TimeoutsEndIssuedRequests : Prop :=
  (∀ (q : BitVec 4) (owner : ReadOwner) (i : Fin 4) (b : Bool) (epoch : Option Word) (info : RecordInfo) (copy : Copy)
      (slot : Nat) (n : Word),
    (Source.hostRead q owner).kind = .read ∧ (Source.deferredFetch i b).kind = .read ∧
    (Source.captureRead i).kind = .read ∧ (Source.anchorRead copy b).kind = .read ∧
    (Source.replayRead slot b).kind = .read ∧ (Source.holdRelease epoch).kind = .write ∧
    (Source.recordWrite info b).kind = .write ∧ (Source.anchorWrite copy b).kind = .write ∧
    (Source.restoreWrite slot n).kind = .write ∧
    (Source.recordWrite info b).ringSlot = some info.slot ∧ (Source.replayRead slot b).ringSlot = some slot ∧
    (Source.hostRead q owner).ringSlot = none ∧ (Source.deferredFetch i b).ringSlot = none ∧
    (Source.captureRead i).ringSlot = none ∧ (Source.anchorRead copy b).ringSlot = none ∧
    (Source.holdRelease epoch).ringSlot = none ∧ (Source.anchorWrite copy b).ringSlot = none ∧
    (Source.restoreWrite slot n).ringSlot = none) ∧
  (∀ (s : State) (kind : AnswerKind), s.Running → (∀ e rest, s.memory.queue = e :: rest → e.issued = none) →
    exec (.unexpectedMemoryAnswer kind) s = .next s) ∧
  ∀ (s : State) (e : MemoryEntry) (rest : List MemoryEntry), s.Running → s.Awaits e rest → s.HaltQuiet →
    let v := updateSpace (timeOut s)
    (∀ t : Nat, e.issued = some t →
      exec .memoryTimeout s = .next (updateSpace (timeOut (elapseTo (t + 2048) s)))) ∧
    (∀ kind : AnswerKind,
      exec (.unexpectedMemoryAnswer kind) s = .next (if kind = e.source.kind then s else v)) ∧
    (∀ x ∈ v.memory.queue, x.issued = none) ∧
    v.memory.queue.length = s.memory.queue.countP (fun x => x.issued.isNone) ∧
    v.modes.mode = .halted ∧ v.modes.freeze = s.modes.freeze ∧
    (s.modes.mode ≠ .halted → v.modes.cause = .memoryTimeout ∧ v.HaltQuiet ∧ v.management.flags.getLsbD 12 = true) ∧
    (s.modes.mode = .halted → v.modes.cause = s.modes.cause) ∧
    v.management.flags.getLsbD 13 = true ∧
    (s.NoFaultedFirstLine → s.management.log.length < 8 →
      v.management.log = s.management.log ++
        [{ kind := .memoryTimeout, epoch := none, line := some e.line, slot := e.source.ringSlot,
           mode := s.modes.mode }]) ∧
    (∀ r, s.host.current = some r → s.modes.freeze = false → r.kind = .read →
      (∃ x ∈ s.memory.queue, x.issued.isSome = true ∧
        ((∃ q, x.source = .hostRead q .current) ∨
          ∃ i : Fin 4, r.wait = .slotWait i ∧
            (x.source = .deferredFetch i false ∨ ∃ q, x.source = .hostRead q (.slot i)))) →
      v.host.current = none ∧ v.host.answer = some (.fault .memory)) ∧
    (∀ i : Fin 4,
      let ended : Prop :=
        ∃ x ∈ s.memory.queue, x.issued.isSome = true ∧
          (x.source = .deferredFetch i false ∨ ∃ q, x.source = .hostRead q (.slot i))
      (ended → v.host.deferred[i] = none) ∧ (¬ ended → v.host.deferred[i] = s.host.deferred[i])) ∧
    (let lines : List Bool := s.memory.queue.filterMap fun x =>
       match x.source with
       | .anchorWrite _ second => if x.issued.isSome then some second else none
       | _ => none
     (lines = [] → v.anchor.write = s.anchor.write ∧ v.anchor.stale = s.anchor.stale) ∧
     (∀ w : AnchorWrite, s.anchor.write = some w →
       (lines = [false] →
         v.anchor.write = some { w with first := some .timedOut } ∧ v.anchor.stale = s.anchor.stale) ∧
       ((lines = [true] ∧ w.first ≠ none) ∨ lines = [false, true] →
         v.anchor.write = none ∧
         (∀ tail sequence ends, w.kind = .update tail sequence ends →
           v.anchor.stale = true ∧ v.management.flags.getLsbD 11 = true) ∧
         (∀ c, w.kind = .store c →
           v.anchor.stale = s.anchor.stale ∧ v.management.flags.getLsbD 5 = s.management.flags.getLsbD 5 ∧
           v.management.flags.getLsbD 6 = s.management.flags.getLsbD 6)))) ∧
    v.pending = s.pending ∧ v.pins = s.pins ∧ v.epochs.closedThrough = s.epochs.closedThrough ∧
    v.anchor.working = s.anchor.working ∧ v.anchor.current = s.anchor.current ∧
    v.anchor.generation = s.anchor.generation ∧ v.ring.head = s.ring.head ∧ v.ring.headSequence = s.ring.headSequence ∧
    v.ring.tail = s.ring.tail ∧ v.ring.tailSequence = s.ring.tailSequence ∧ v.ring.used = s.ring.used ∧
    v.ring.ringId = s.ring.ringId ∧ v.management.enables = s.management.enables

/-! ### Answers to reads and data writes -/

/-- The answer to a HOST-READ or DEFERRED-FETCH entry, which leaves the queue. For the current request it is the host's
answer: DONE with the bytes asked for, or FAULT, MEMORY (R127). For a deferred slot the entry becomes READY with age 0,
or is discarded; a read in SLOT-WAIT on it is answered from it at once (R131). An abandoned one is dropped (R113,
R132). -/
def Obligations.HostReadAnswers : Prop :=
  ∀ (s : State) (e : MemoryEntry) (rest : List MemoryEntry), s.Running → s.Awaits e rest →
    let a := s.answered rest
    (∀ q r, e.source = .hostRead q .current → s.host.current = some r →
      (∀ data : List Byte, exec (.hostReadAnswer (.done data)) s =
        .next (bump .hostReads
          { a with
            host := { s.host with current := none, answer := some (.done ((data.drop r.offset).take r.length)) } })) ∧
      exec (.hostReadAnswer .fault) s =
        .next (bump .faults { a with host := { s.host with current := none, answer := some (.fault .memory) } })) ∧
    (∀ q answer, e.source = .hostRead q .abandoned → exec (.hostReadAnswer answer) s = .next a) ∧
    (∀ i answer, e.source = .deferredFetch i true → exec (.deferredFetchAnswer answer) s = .next a) ∧
    (∀ (i : Fin 4) (d : Deferred) (row : ReadAnswer → Instr), s.host.deferred[i] = some d →
      ((∃ q, e.source = .hostRead q (.slot i)) ∧ row = .hostReadAnswer) ∨
        (e.source = .deferredFetch i false ∧ row = .deferredFetchAnswer) →
      ((∀ r, s.host.current = some r → r.wait ≠ .slotWait i) →
        (∀ data : List Byte, exec (row (.done data)) s =
          .next
            { a with
              host :=
                { s.host with
                  deferred := s.host.deferred.set i
                    (some { d with state := .ready ((data.drop d.offset).take d.length) 0 }) } }) ∧
        exec (row .fault) s =
          .next (bump .deferredDiscarded
            { a with
              host := { s.host with deferred := s.host.deferred.set i none }
              memory := (abandonFetch i a).memory })) ∧
      (∀ r, s.host.current = some r → r.wait = .slotWait i →
        (∀ data : List Byte, exec (row (.done data)) s =
          .next (bump .deferredServed (bump .hostReads
            { a with
              host :=
                { current := none, deferred := s.host.deferred.set i none,
                  answer := some (.done ((data.drop d.offset).take d.length)) } }))) ∧
        exec (row .fault) s =
          .next (bump .faults (bump .deferredDiscarded
            { a with
              host := { current := none, deferred := s.host.deferred.set i none, answer := some (.fault .memory) }
              memory := (abandonFetch i a).memory }))))

/-- The answer to a data write, which leaves the queue. For a JOURNAL write data writes outstanding fall by one,
FAULT is a damage report, and the epoch may have drained (R12, R14, R15, R48); a PASS write answered FAULT is logged
(R114). -/
def Obligations.DataWriteAnswers : Prop :=
  ∀ (s : State) (e : MemoryEntry) (rest : List MemoryEntry), s.Running → s.Awaits e rest →
    let a := s.answered rest
    (∀ n : Word, e.source = .holdRelease (some n) →
      let b :=
        { a with
          epochs :=
            { s.epochs with
              table := s.epochs.table.map fun x => if x.number = n then { x with out := x.out - 1 } else x } }
      exec (.dataWriteAnswer .done) s = .next (updateSpace (drainNotice b)) ∧
      exec (.dataWriteAnswer .fault) s =
        .next (updateSpace (drainNotice (reportDamage .dataWriteFault n e.line b)))) ∧
    (e.source = .holdRelease none →
      exec (.passWriteAnswer .done) s = .next a ∧
      exec (.passWriteAnswer .fault) s = .next (logError .passWriteFault none (some e.line) none a))

/-! ### Events, damage, halts -/

/-- An event sets its flag, in the bits of the event flags item, with IRQ# following (R165, R166, R175); a counter
rises by one and saturates (R169); an error joins the log with the mode as it stands, or sets the overflow indication
when 8 entries are there, and ERROR-LOGGED is raised in both cases (R167). -/
def Obligations.EventsCountersAndLog : Prop :=
  ∀ s : State,
    (∀ (v : Event) (b : Fin 14),
      let bits : Vector Event 14 :=
        #v[.commitDone, .commitFailed, .rollbackDone, .recoveryDone, .noAnchor, .storeDone, .storeFailed, .journalLow,
          .journalFull, .epochDamaged, .quiesced, .anchorStale, .halted, .errorLogged]
      ∃ flags : BitVec 14,
        raise v s =
          { s with
            management :=
              { s.management with flags := flags, irq := decide (flags &&& s.management.enables ≠ 0#14) } } ∧
        (flags.getLsbD b.val = true ↔ s.management.flags.getLsbD b.val = true ∨ v = bits[b])) ∧
    (∀ c : Counter,
      ∃ counters : Vector Word 13,
        bump c s = { s with management := { s.management with counters := counters } } ∧
        (bump c s).counter c = BitVec.ofNat 32 (min ((s.counter c).toNat + 1) 4294967295) ∧
        (∀ d : Counter, d ≠ c → (bump c s).counter d = s.counter d)) ∧
    (∀ (kind : ErrorKind) (epoch line : Option Word) (slot : Option Nat),
      (s.management.log.length < 8 →
        logError kind epoch line slot s =
          raise .errorLogged
            { s with
              management :=
                { s.management with
                  log := s.management.log ++
                    [{ kind := kind, epoch := epoch, line := line, slot := slot, mode := s.modes.mode }] } }) ∧
      (8 ≤ s.management.log.length →
        logError kind epoch line slot s =
          raise .errorLogged { s with management := { s.management with overflow := true } }))

/-- A damage report is logged, and the first damage of a live epoch sets its damaged flag and raises EPOCH-DAMAGED; a
report that names no live epoch, or one damaged before, does no more than be logged (R15, R18). The damage of a
COMMITTING epoch fails its commit: it is FAILED, the commit sequence is inactive and COMMIT-FAILED is raised (R17,
R81); in QUIESCING the mode returns to ACTIVE and the next epoch opens (R149). -/
def Obligations.DamageReports : Prop :=
  ∀ (s : State) (kind : ErrorKind) (n line : Word),
    let t := logError kind (some n) (some line) none s
    let marked := fun f : LiveEpoch → LiveEpoch =>
      s.epochs.table.map fun x => if x.number = n then f { x with damaged := true } else x
    let failed :=
      raise .commitFailed (raise .epochDamaged
        { t with
          epochs := { s.epochs with table := marked fun x => { x with state := .failed }, commit := none } })
    (s.epochs.table.find n = none → reportDamage kind n line s = t) ∧
    (∀ e : LiveEpoch, s.epochs.table.find n = some e →
      e.number = n ∧ e ∈ s.epochs.table.epochs ∧
      (e.damaged = true → reportDamage kind n line s = t) ∧
      (e.damaged = false → e.state ≠ .committing →
        reportDamage kind n line s =
          raise .epochDamaged { t with epochs := { s.epochs with table := marked id } }) ∧
      (e.damaged = false → e.state = .committing → s.modes.mode ≠ .quiescing →
        reportDamage kind n line s = failed) ∧
      (e.damaged = false → e.state = .committing → s.modes.mode = .quiescing →
        reportDamage kind n line s =
          rejudge
            { openEpoch (n + 1#32) failed with
              modes := { s.modes with mode := .active } }))

/-- A halt enters HALTED with its cause, every block acting at the same moment, and raises HALTED; in HALTED a report
changes nothing (R9, R26, R29, R52, R58, R69, R80, R97, R104, R116, R154). A record write answered FAULT is logged and
halts, with cause REPLAY-FAULT in RECOVERING and RECORD-WRITE-FAULT elsewhere (R30, R66, R96, R104); in HALTED its
answer is dropped. -/
def Obligations.HaltStopsJournalWork : Prop :=
  (∀ (s : State) (cause : Cause),
    (s.modes.mode = .halted → halt cause s = s) ∧
    (s.modes.mode ≠ .halted →
      halt cause s =
        raise .halted (rejudge
          { s with
            modes := { s.modes with mode := .halted, cause := cause }
            epochs :=
              { closedThrough := s.epochs.closedThrough, table := ⟨none, none⟩, commit := none,
                heldTrigger := false, fullRequest := false }
            ring := { s.ring with promised := 0, writes := [], blocked := false }
            hold := { s.hold with entries := s.hold.entries.filter fun e => decide (e.cls = .pass) }
            capture := { tags := [], slots := #v[none, none, none, none], reads := [] }
            replay := { rollback := none, recovery := none, requests := [], headLine := none }
            anchor := { s.anchor with pendingUpdate := false, loading := none } }))) ∧
  ∀ (s : State) (e : MemoryEntry) (rest : List MemoryEntry) (info : RecordInfo) (isHead : Bool),
    s.Running → s.Awaits e rest → e.source = .recordWrite info isHead →
    let a := s.answered rest
    let logged := fun kind => logError kind (some info.epoch) info.line (some info.slot) a
    (s.modes.mode = .halted → exec .recordWriteFault s = .next (updateSpace a)) ∧
    (s.modes.mode = .recovering →
      exec .recordWriteFault s = .next (updateSpace (halt .replayFault (logged .replayFault)))) ∧
    (s.modes.mode ≠ .halted → s.modes.mode ≠ .recovering →
      exec .recordWriteFault s = .next (updateSpace (halt .recordWriteFault (logged .recordWriteFault))))

/-! ### Sequences of the journal side -/

/-- The drain notice (R14): a COMMITTING epoch whose held entries and data writes outstanding are both 0 has its marker
requested (R77), and with no space for it the bridge halts (R28); a rollback in SETTLING learns that every epoch has
drained (R91). The other notice of SETTLING is that every capture slot is IDLE (R68). With both notices the walk starts
at the slot below the head (R91), or, with used 0, the CLOSE record is requested (R94). -/
def Obligations.DrainAndSettle : Prop :=
  ∀ s : State,
    let free := s.anchor.working.slots.toNat - s.ring.used - s.ring.promised
    let marked := fun (kind : RecordKind) (n : Word) =>
      let info : RecordInfo :=
        { kind := kind, epoch := n, line := none, slot := s.ring.head, sequence := s.ring.headSequence }
      { s.ring with
        head := (s.ring.head + 1) % s.anchor.working.slots.toNat
        headSequence := s.ring.headSequence + 1#32
        used := s.ring.used + 1
        writes := s.ring.writes ++
          [{ info := info, isHead := true,
             address := BitVec.ofNat 32 (s.anchor.working.basePage.toNat * 4096 + 128 * s.ring.head),
             data := recordHead info 0#8 s.ring.ringId [] }] }
    let noSpace := fun n : Word =>
      halt .ringExhausted (logError .ringExhausted (some n) none (some s.ring.head) s)
    let below := (s.ring.head + s.anchor.working.slots.toNat - 1) % s.anchor.working.slots.toNat
    (∀ (q : CommitSequence) (e : LiveEpoch), s.epochs.commit = some q → q.phase = .draining →
      s.epochs.table.find q.epoch = some e → e.state = .committing → e.held = 0 → e.out = 0 →
      (1 ≤ free →
        drainNotice s =
          { s with
            ring := marked .commit q.epoch
            epochs :=
              { s.epochs with
                commit := some { q with phase := .markerWriting s.ring.head s.ring.headSequence } } }) ∧
      (free = 0 → drainNotice s = noSpace q.epoch)) ∧
    (∀ (q : CommitSequence) (e : LiveEpoch), s.epochs.commit = some q → s.replay.rollback = none →
      s.epochs.table.find q.epoch = some e → (0 < e.held ∨ 0 < e.out) → drainNotice s = s) ∧
    (s.epochs.commit = none → s.replay.rollback = none → drainNotice s = s ∧ noteCapturesSettled s = s) ∧
    (∀ (highest : Word) (captures epochs : Bool), s.epochs.commit = none →
      s.replay.rollback = some { phase := .settling captures epochs, highest := highest } →
      let settled := fun c e : Bool =>
        { s with replay := { s.replay with rollback := some { phase := .settling c e, highest := highest } } }
      ((∃ x ∈ s.epochs.table.epochs, 0 < x.held ∨ 0 < x.out) → drainNotice s = s) ∧
      ((∀ x ∈ s.epochs.table.epochs, x.held = 0 ∧ x.out = 0) → epochs = false →
        drainNotice s = if captures then startWalk highest s else settled false true) ∧
      ((∃ i : Fin 4, s.capture.slots[i] ≠ none) → noteCapturesSettled s = s) ∧
      ((∀ i : Fin 4, s.capture.slots[i] = none) → captures = false →
        noteCapturesSettled s = if epochs then startWalk highest s else settled true false)) ∧
    (∀ highest : Word,
      (s.ring.used ≠ 0 →
        startWalk highest s =
          { s with
            replay :=
              { s.replay with
                rollback := some
                  { phase := .walking
                      { cursor := below, sequence := s.ring.headSequence - 1#32, left := s.ring.used,
                        outstanding := 0 }
                    highest := highest }
                requests := [.readHead below, .readBody below]
                headLine := none } }) ∧
      (s.ring.used = 0 → startWalk highest s = queueClose highest s) ∧
      (1 ≤ free →
        queueClose highest s =
          { s with
            ring := marked .close highest
            replay :=
              { s.replay with
                rollback := some
                  { phase := .closing s.ring.head s.ring.headSequence, highest := highest } } }) ∧
      (free = 0 → queueClose highest s = noSpace highest))

/-- A capture read answered DONE gets the head slot and sequence: its promise becomes a used slot, the body and head
writes of its LINE record join the record write list, the capture slot is WRITING with the line's contents, and the
epoch counts the line, with its first record slot and time (R13, R25, R27, R29, R63). When the epoch is OPEN and its
threshold, which is on, is reached, the line trigger fires (R83). -/
def Obligations.CaptureReadDone : Prop :=
  ∀ (s : State) (e : MemoryEntry) (rest : List MemoryEntry) (i : Fin 4) (c : Capture) (data : List Byte),
    s.Running → s.Awaits e rest → e.source = .captureRead i → s.capture.slots[i] = some c → c.phase = .reading false →
    let info : RecordInfo :=
      { kind := .line, epoch := c.epoch, line := some c.line, slot := s.ring.head, sequence := s.ring.headSequence }
    let address := s.anchor.working.basePage.toNat * 4096 + 128 * s.ring.head
    let t :=
      { s.answered rest with
        ring :=
          { s.ring with
            head := (s.ring.head + 1) % s.anchor.working.slots.toNat
            headSequence := s.ring.headSequence + 1#32
            used := s.ring.used + 1
            promised := s.ring.promised - 1
            writes := s.ring.writes ++
              [{ info := info, isHead := false, address := BitVec.ofNat 32 (address + 64), data := data },
               { info := info, isHead := true, address := BitVec.ofNat 32 address,
                 data := recordHead info (BitVec.ofNat 8 c.window.val) s.ring.ringId data }] }
        capture :=
          { s.capture with
            slots := s.capture.slots.set i (some
              { c with phase := .writing data s.ring.head s.ring.headSequence }) }
        epochs :=
          { s.epochs with
            table := s.epochs.table.map fun x =>
              if x.number = c.epoch then
                { x with
                  lines := min (x.lines + 1) 4294967295
                  firstSlot := some (x.firstSlot.getD s.ring.head)
                  firstTime := some (x.firstTime.getD s.pins.now) }
              else x } }
    ((∀ o, s.epochs.table.opened = some o → o.number = c.epoch →
        o.threshold = 0#16 ∨ o.lines + 1 < o.threshold.toNat) →
      exec (.captureReadDone data) s = .next (updateSpace t)) ∧
    (∀ o, s.epochs.table.opened = some o → o.number = c.epoch → o.threshold ≠ 0#16 →
      o.threshold.toNat ≤ o.lines + 1 →
      exec (.captureReadDone data) s = .next (updateSpace (fireTrigger false t)))

/-- A capture that ends without a record releases its promise, frees its tag entry and leaves its slot IDLE, and low
space follows at once, before a marker of the same step can take the space again (R24, R36; log entry 21). FAULT is a
damage report, cancelled or not, and the owner and the entries waiting on the tag entry are discarded, held entries
falling by their number (R11, R26, R50, R56, R65, R67). DONE to a cancelled read drops the data (R67). The answer for a
slot that a halt has made IDLE is dropped (R69). A rollback in SETTLING may learn that captures have settled (R68). -/
def Obligations.CaptureReadsGivenUp : Prop :=
  ∀ (s : State) (e : MemoryEntry) (rest : List MemoryEntry) (i : Fin 4),
    s.Running → s.Awaits e rest → e.source = .captureRead i →
    let a := s.answered rest
    (s.capture.slots[i] = none →
      (∀ data, exec (.captureReadDone data) s = .next a) ∧ exec .captureReadFault s = .next a ∧
      ∀ answer, exec (.cancelledReadAnswer answer) s = .next a) ∧
    (∀ (c : Capture) (cancelled : Bool), s.capture.slots[i] = some c → c.phase = .reading cancelled →
      let ended := fun x : State =>
        updateLow
          { x with
            ring := { x.ring with promised := s.ring.promised - 1 }
            capture :=
              { tags := s.capture.tags.filter fun y => decide (some y.key ≠ c.tag)
                slots := s.capture.slots.set i none
                reads := s.capture.reads } }
      let served := fun x : HoldEntry =>
        decide (c.hold = some x.id ∨ (x.state = .waitCapture ∧ x.tag.isSome = true ∧ x.tag = c.tag))
      let damaged := reportDamage .captureReadFault c.epoch c.line a
      let lost := (s.hold.entries.filter served).length
      let faulted :=
        updateSpace (noteCapturesSettled (ended
          { damaged with
            hold := { s.hold with entries := s.hold.entries.filter fun x => !served x }
            epochs :=
              { damaged.epochs with
                table := damaged.epochs.table.map fun x =>
                  if x.number = c.epoch then { x with held := x.held - lost } else x } }))
      (cancelled = false → exec .captureReadFault s = .next faulted) ∧
      (cancelled = true →
        exec (.cancelledReadAnswer .fault) s = .next faulted ∧
        ∀ data, exec (.cancelledReadAnswer (.done data)) s =
          .next (updateSpace (noteCapturesSettled (ended a)))))

/-- The body write of a LINE record answered DONE changes nothing but the queue (R64). The head write answered DONE
makes the record durable: it is counted, the owner and the entries waiting on the tag entry become READY, the tag entry
becomes SAVED while the epoch is OPEN and is freed else, and the capture slot is IDLE (R30, R44, R56, R64, R169). In
HALTED the answer is dropped (R69). -/
def Obligations.LineRecordsDurable : Prop :=
  ∀ (s : State) (e : MemoryEntry) (rest : List MemoryEntry) (info : RecordInfo), s.Running → s.Awaits e rest →
    let a := s.answered rest
    (e.source = .recordWrite info false → exec .recordBodyAck s = .next a) ∧
    (e.source = .recordWrite info true → s.modes.mode = .halted → exec .recordHeadAck s = .next (updateSpace a)) ∧
    (∀ (i : Fin 4) (c : Capture) (contents : List Byte),
      e.source = .recordWrite info true → s.modes.mode ≠ .halted → info.kind = .line →
      s.capture.slots[i] = some c → c.phase = .writing contents info.slot info.sequence →
      (∀ j : Fin 4, j < i → ∀ x, s.capture.slots[j] = some x →
        ∀ other : List Byte, x.phase ≠ .writing other info.slot info.sequence) →
      let ended := fun tags : List TagEntry =>
        exec .recordHeadAck s =
          .next (updateSpace (noteCapturesSettled (bump .records
            { a with
              hold :=
                { s.hold with
                  entries := s.hold.entries.map fun x =>
                    if c.hold = some x.id ∨ (x.state = .waitCapture ∧ x.tag.isSome = true ∧ x.tag = c.tag) then
                      { x with state := .ready, tag := none, capture := none }
                    else x }
              capture := { s.capture with tags := tags, slots := s.capture.slots.set i none } })))
      ((∃ o, s.epochs.table.opened = some o ∧ o.number = c.epoch) →
        ended (s.capture.tags.map fun x => if some x.key = c.tag then { x with state := .saved } else x)) ∧
      ((∀ o, s.epochs.table.opened = some o → o.number ≠ c.epoch) →
        ended (s.capture.tags.filter fun x => decide (some x.key ≠ c.tag))))

/-- The head write of a marker answered DONE. A COMMIT record is the commit point: closed-through takes the epoch, its
entry empties, COMMIT-DONE is raised, an anchor update is asked for, and a held trigger is re-examined (R2, R8, R78,
R79, R82, R85). A CLOSE record ends the rollback: closed-through takes the highest aborted epoch, the next epoch opens,
and ROLLBACK-DONE is raised (R95); in a recovery it leads to the anchor update that ends it (R102, R103). -/
def Obligations.MarkersDurable : Prop :=
  ∀ (s : State) (e : MemoryEntry) (rest : List MemoryEntry) (info : RecordInfo),
    s.Running → s.Awaits e rest → e.source = .recordWrite info true → s.modes.mode ≠ .halted →
    let a := s.answered rest
    (∀ q : CommitSequence, info.kind = .commit → s.epochs.commit = some q → q.epoch = info.epoch →
      let closed := fun commit : Option CommitSequence =>
        requestUpdate (bump .commits (raise .commitDone (bump .records
          { a with
            epochs :=
              { s.epochs with
                closedThrough := q.epoch, table := s.epochs.table.remove q.epoch, commit := commit } })))
      (q.purpose = .quiesce →
        exec .recordHeadAck s = .next (updateSpace (closed (some { q with phase := .anchorWait })))) ∧
      (q.purpose = .commit → (s.epochs.heldTrigger = false ∨ s.modes.freeze = true) →
        exec .recordHeadAck s = .next (updateSpace (closed none))) ∧
      (q.purpose = .commit → s.epochs.heldTrigger = true → s.modes.freeze = false →
        exec .recordHeadAck s = .next (updateSpace (reexamine (closed none))))) ∧
    (∀ (highest : Word) (slot : Nat) (sequence : Word), info.kind = .close →
      s.replay.rollback = some { phase := .closing slot sequence, highest := highest } →
      exec .recordHeadAck s =
        .next (updateSpace (bump .rollbacks (raise .rollbackDone (requestUpdate (openEpoch (highest + 1#32)
          (bump .records
            { a with
              epochs := { s.epochs with closedThrough := highest, table := ⟨none, none⟩ }
              replay := { s.replay with rollback := none } })))))) ) ∧
    (∀ q : Recovery, info.kind = .close → s.replay.rollback = none → s.replay.recovery = some q →
      q.phase = .closing →
      exec .recordHeadAck s =
        .next (updateSpace (requestUpdate (bump .records
          { a with
            replay :=
              { s.replay with
                recovery := some { q with phase := .anchoring, recoveredThrough := some info.epoch } } }))))

/-- An auto-commit trigger acts only in ACTIVE with an OPEN epoch and the freeze flag clear (R86), a full trigger
during a freeze neither acting nor being held (log entry 15), is judged as a COMMIT would be, and is suppressed by a
refusal: BUSY holds the full request of a full trigger, and BUSY for a COMMITTING epoch the trigger (R84, R85). A
re-examination clears the held trigger, and fires again when the threshold, the age or a full request holds (R83, R85).
The age row fires once the age reaches a limit that is on, the tick having passed to that moment (log entry 7), and not
during a freeze (R13, R83). -/
def Obligations.TriggersAndTheirReexamination : Prop :=
  ∀ s : State,
    let acts : Prop := s.modes.mode = .active ∧ (∃ o, s.epochs.table.opened = some o) ∧ s.modes.freeze = false
    let committing : Prop := ∃ x ∈ s.epochs.table.epochs, x.state = .committing
    let failed : Prop := ∃ x ∈ s.epochs.table.epochs, x.state = .failed
    (∀ full : Bool,
      let holding := fun trigger : Bool =>
        { s with
          epochs := { s.epochs with heldTrigger := trigger, fullRequest := full || s.epochs.fullRequest } }
      (¬ acts → fireTrigger full s = s) ∧
      (acts → s.replay.rollback ≠ none → fireTrigger full s = holding s.epochs.heldTrigger) ∧
      (acts → s.replay.rollback = none → committing → fireTrigger full s = holding true) ∧
      (acts → s.replay.rollback = none → ¬ committing → failed → fireTrigger full s = holding s.epochs.heldTrigger) ∧
      (∀ o : LiveEpoch, acts → s.replay.rollback = none → ¬ committing → ¬ failed → s.epochs.table.opened = some o →
        (o.damaged = true → fireTrigger full s = s) ∧
        (o.damaged = false → o.lines = 0 ∧ o.held = 0 ∧ o.out = 0 → fireTrigger full s = commitEmpty o.number s) ∧
        (o.damaged = false → 0 < o.lines ∨ 0 < o.held ∨ 0 < o.out →
          fireTrigger full s = commitOpen o.number s))) ∧
    (let t := { s with epochs := { s.epochs with heldTrigger := false } }
     let holds : Prop :=
       (∃ o, s.epochs.table.opened = some o ∧
         ((o.threshold ≠ 0#16 ∧ o.threshold.toNat ≤ o.lines) ∨
          (∃ time, o.firstTime = some time ∧ o.ageLimit ≠ 0#16 ∧
            o.ageLimit.toNat * 1000 ≤ s.pins.now - time))) ∨
       s.epochs.fullRequest = true
     (holds → reexamine s = fireTrigger s.epochs.fullRequest t) ∧ (¬ holds → reexamine s = t)) ∧
    (s.Running →
      (s.modes.freeze = true → exec .autoCommitAgeExpiry s = .next s) ∧
      (∀ (o : LiveEpoch) (time : Nat), s.modes.freeze = false → s.epochs.table.opened = some o →
        o.firstTime = some time → o.ageLimit ≠ 0#16 →
        exec .autoCommitAgeExpiry s =
          .next (updateSpace (fireTrigger false (elapseTo (time + o.ageLimit.toNat * 1000) s)))))

/-- The two indications of the ring manager. Low space holds while the free space of a journal is at most the
watermark, and JOURNAL-LOW is raised as it begins (R36). Ring blocked holds in ACTIVE while an eligible entry and an
IDLE capture slot are held back only by free space of at most 2; JOURNAL-FULL is raised as it begins, and full policy
COMMIT then fires the full trigger; while it does not hold there is no full request (R37, R84). Low space is recomputed
for what the step did, then ring blocked, and low space again for what its full trigger did (log entry 21). -/
def Obligations.SpaceIndications : Prop :=
  ∀ (s : State) (low blocked : Bool),
    let free := s.anchor.working.slots.toNat - s.ring.used - s.ring.promised
    (low = true ↔
      16 ≤ s.anchor.working.slots.toNat ∧ s.anchor.working.slots.toNat ≤ 1048576 ∧
        free ≤ s.anchor.working.watermark.toNat) →
    (blocked = true ↔
      s.modes.mode = .active ∧ free ≤ 2 ∧ (∃ i : Fin 4, s.capture.slots[i] = none) ∧
        ∃ (older younger : List HoldEntry) (e : HoldEntry),
          s.hold.entries = older ++ e :: younger ∧ e.cls ≠ .pass ∧ e.state = .needsCapture ∧ e.capture = none ∧
          ∀ x ∈ older, x.line ≠ e.line) →
    let lowRaised := fun x : State => if low && !s.ring.lowSpace then raise .journalLow x else x
    (updateLow s = lowRaised { s with ring := { s.ring with lowSpace := low } }) ∧
    (blocked = false →
      updateSpace s =
        lowRaised
          { s with
            ring := { s.ring with lowSpace := low, blocked := false }
            epochs := { s.epochs with fullRequest := false } }) ∧
    (blocked = true → s.ring.blocked = true →
      updateSpace s = lowRaised { s with ring := { s.ring with lowSpace := low } }) ∧
    (blocked = true → s.ring.blocked = false → s.anchor.working.fullPolicy ≠ 1#2 →
      updateSpace s = raise .journalFull (lowRaised { s with ring := { s.ring with lowSpace := low, blocked := true } })) ∧
    (blocked = true → s.ring.blocked = false → s.anchor.working.fullPolicy = 1#2 →
      updateSpace s =
        updateLow (fireTrigger true (raise .journalFull
          (lowRaised { s with ring := { s.ring with lowSpace := low, blocked := true } }))))

/-! ### Anchors -/

/-- An anchor update is built at once, with no anchor write in flight, and else becomes pending (R79, R140). It carries
the working configuration, the next generation, closed-through, and a tail: the first record slot of the oldest live
epoch that has one, or the head (R31); the update that ends a recovery carries the head with the head sequence +
journal size, and the recovered closed-through (R34, R103). It goes to the copy that is not current (R140). -/
def Obligations.AnchorUpdatesBuilt : Prop :=
  ∀ s : State,
    let size := s.anchor.working.slots.toNat
    let target : Copy := if s.anchor.current = some .a then .b else .a
    let built := fun (tail : Nat) (sequence closed : Word) (ends : Bool) =>
      { s with
        anchor :=
          { s.anchor with
            pendingUpdate := false
            write := some
              { kind := .update tail sequence ends, target := target, generation := s.anchor.generation + 1#32,
                bytes := anchorBytes
                  { configuration := s.anchor.working, generation := s.anchor.generation + 1#32,
                    ringId := s.ring.ringId, tail := tail, tailSequence := sequence, closedThrough := closed }
                granted := 0, first := none } } }
    (s.anchor.write ≠ none → requestUpdate s = { s with anchor := { s.anchor with pendingUpdate := true } }) ∧
    (s.anchor.write = none → s.replay.recovery = none →
      ((∀ x ∈ s.epochs.table.epochs, x.firstSlot = none) →
        requestUpdate s = built s.ring.head s.ring.headSequence s.epochs.closedThrough false) ∧
      (∀ (e : LiveEpoch) (slot : Nat), e ∈ s.epochs.table.epochs → e.firstSlot = some slot →
        (∀ x ∈ s.epochs.table.epochs, x.firstSlot ≠ none → x = e ∨ after x.number e.number = true) →
        requestUpdate s =
          built slot (s.ring.tailSequence + BitVec.ofNat 32 ((slot + size - s.ring.tail) % size))
            s.epochs.closedThrough false)) ∧
    (∀ (q : Recovery) (closed : Word), s.anchor.write = none → s.replay.recovery = some q → q.phase = .anchoring →
      q.recoveredThrough = some closed →
      requestUpdate s = built s.ring.head (s.ring.headSequence + BitVec.ofNat 32 size) closed true)

/-- The answer to an anchor line. The first line's is kept. The second has an update judged: both DONE make the target
current, clear the stale flag and have the ring take the carried tail (R32, R34, R141); else the stale flag is set,
ANCHOR-STALE raised, and one entry logged with the line address of the first line answered FAULT (R141; log entry 11
for a line that a timeout ended). A pending update is then built (R79), a recovery that waited completes (R103, R147),
and so does a quiesce, when no other update was pending (R82, R149; log entry 16). -/
def Obligations.AnchorUpdateAnswers : Prop :=
  ∀ (s : State) (e : MemoryEntry) (rest : List MemoryEntry) (c : Copy) (w : AnchorWrite),
    s.Running → s.Awaits e rest → s.anchor.write = some w →
    let a := s.answered rest
    (e.source = .anchorWrite c false →
      exec (.anchorLineAnswer .done) s =
        .next { a with anchor := { s.anchor with write := some { w with first := some .done } } } ∧
      exec (.anchorLineAnswer .fault) s =
        .next { a with anchor := { s.anchor with write := some { w with first := some .fault } } }) ∧
    (∀ (tail : Nat) (sequence : Word) (ends : Bool) (first : LineAnswer) (answer : WriteAnswer) (t : State),
      e.source = .anchorWrite c true → w.kind = .update tail sequence ends → w.first = some first →
      (let stale := { a with anchor := { s.anchor with write := none, stale := true } }
       let logged := fun second : Bool =>
         raise .anchorStale (logError .anchorWriteFault none
           (some (s.anchorBase + (if w.target = .b then 128#32 else 0#32) + if second then 64#32 else 0#32)) none stale)
       (first = .done ∧ answer = .done ∧
         t = { a with
               anchor :=
                 { s.anchor with
                   write := none, stale := false, current := some w.target, generation := w.generation }
               ring :=
                 if ends then
                   { s.ring with
                     tail := s.ring.head, tailSequence := sequence, headSequence := sequence, used := 0 }
                 else
                   { s.ring with
                     tail := tail, tailSequence := sequence,
                     used := s.ring.used - (sequence - s.ring.tailSequence).toNat } }) ∨
       (first = .fault ∧ t = logged false) ∨
       (first ≠ .fault ∧ answer = .fault ∧ t = logged true) ∨
       (first = .timedOut ∧ answer = .done ∧ t = raise .anchorStale stale)) →
      let row := exec (.anchorUpdateAnswer answer) s
      (s.replay.recovery = none → s.anchor.pendingUpdate = true → row = .next (updateSpace (requestUpdate t))) ∧
      (s.replay.recovery = none → s.anchor.pendingUpdate = false →
        (∀ q, s.epochs.commit = some q → q.phase ≠ .anchorWait) → row = .next (updateSpace t)) ∧
      (∀ q, s.replay.recovery = none → s.anchor.pendingUpdate = false → s.epochs.commit = some q →
        q.phase = .anchorWait →
        row =
          .next (updateSpace (raise .quiesced (rejudge
            { t with
              epochs := { s.epochs with commit := none }
              modes := { s.modes with mode := .quiesced } })))) ∧
      (∀ (q : Recovery) (closed : Word), s.replay.recovery = some q → q.phase = .anchoring →
        q.recoveredThrough = some closed → s.anchor.pendingUpdate = false → s.epochs.commit = none →
        let ended :=
          raise .recoveryDone
            { t with
              epochs := { s.epochs with closedThrough := closed }
              replay := { s.replay with recovery := none } }
        (s.anchor.working.startMode = 1#2 →
          row =
            .next (updateSpace (rejudge
              { openEpoch (closed + 1#32) ended with modes := { s.modes with mode := .active } }))) ∧
        (s.anchor.working.startMode ≠ 1#2 →
          row = .next (updateSpace (rejudge { ended with modes := { s.modes with mode := .quiesced } })))))

/-- The answer to the second line of a STORE. Both lines DONE replace the working configuration and reset the ring
under a new ring id, the target becomes current, STORE-DONE is raised, hold entries in the new journal area and
deferred entries the new guard refuses are discarded, and the request in hand is classified afresh (R35, R52, R128,
R132, R144). Else STORE-FAILED is raised and one entry logged (R145; log entry 11). In HALTED nothing is replaced but
the current copy and its generation, and no event is raised (R145); the stale flag and the ring stay as they were (log
entry 17), and a line answered FAULT is logged (log entry 12). -/
def Obligations.StoreAnswers : Prop :=
  ∀ (s : State) (e : MemoryEntry) (rest : List MemoryEntry) (copy : Copy) (w : AnchorWrite) (c : Configuration),
    s.Running → s.Awaits e rest → e.source = .anchorWrite copy true → s.anchor.write = some w →
    w.kind = .store c → s.anchor.pendingUpdate = false →
    let a := s.answered rest
    let current := { s.anchor with write := none, current := some w.target, generation := w.generation }
    let failed := { a with anchor := { s.anchor with write := none } }
    let logged := fun second : Bool =>
      logError .anchorWriteFault none
        (some (s.anchorBase + (if w.target = .b then 128#32 else 0#32) + if second then 64#32 else 0#32)) none failed
    (w.first = some .done → s.modes.mode ≠ .halted →
      let v :=
        raise .storeDone
          { a with
            anchor := { current with working := c, stale := false }
            ring :=
              { s.ring with
                head := 0, headSequence := 0#32, tail := 0, tailSequence := 0#32, ringId := w.generation, used := 0 }
            hold :=
              { s.hold with
                entries := s.hold.entries.filter fun x =>
                  !(decide (16 ≤ c.slots.toNat ∧ c.slots.toNat ≤ 1048576 ∧ c.basePage.toNat * 4096 ≤ x.line.toNat ∧
                    x.line.toNat < c.basePage.toNat * 4096 + c.slots.toNat * 128)) } }
      exec (.storeAnswer .done) s =
        .next (updateSpace (reclassify (discardDeferred (fun d => v.guarded d.line) v)))) ∧
    (w.first = some .done → s.modes.mode = .halted →
      exec (.storeAnswer .done) s = .next (updateSpace { a with anchor := current })) ∧
    (∀ answer : WriteAnswer, w.first = some .fault →
      (s.modes.mode ≠ .halted →
        exec (.storeAnswer answer) s = .next (updateSpace (raise .storeFailed (logged false)))) ∧
      (s.modes.mode = .halted → exec (.storeAnswer answer) s = .next (updateSpace (logged false)))) ∧
    ((w.first = some .done ∨ w.first = some .timedOut) →
      (s.modes.mode ≠ .halted →
        exec (.storeAnswer .fault) s = .next (updateSpace (raise .storeFailed (logged true)))) ∧
      (s.modes.mode = .halted → exec (.storeAnswer .fault) s = .next (updateSpace (logged true)))) ∧
    (w.first = some .timedOut →
      (s.modes.mode ≠ .halted → exec (.storeAnswer .done) s = .next (updateSpace (raise .storeFailed failed))) ∧
      (s.modes.mode = .halted → exec (.storeAnswer .done) s = .next (updateSpace failed)))

/-- The reads at LOADING. The first three answers are kept (R138). The fourth has the copies judged: copy B is current
when both are valid and its generation is after copy A's, else copy A, else the one that is valid (R139). The current
copy gives configuration, generation, ring and closed-through, and RECOVERING begins with the scan of the tail slot
(R2, R34, R98, R99, R142, R147); with no valid copy the bridge enters BYPASS with cause NO-ANCHOR and the no-anchor
defaults (R139, R142, R147). -/
def Obligations.LoadingReads : Prop :=
  (∀ (base : Word) (x y : List Byte) (z : Option (List Byte)),
    judgeLines base (some x) (some y) = judgeCopy base (x ++ y) ∧
    judgeLines base none z = none ∧ judgeLines base z none = none) ∧
  ∀ (s : State) (e : MemoryEntry) (rest : List MemoryEntry) (c : Copy) (second : Bool) (l : Loading)
    (answer : ReadAnswer) (taken : Option (List Byte)),
    s.Running → s.Awaits e rest → e.source = .anchorRead c second → s.anchor.loading = some l →
    ((∃ data, answer = .done data ∧ taken = some data) ∨ (answer = .fault ∧ taken = none)) →
    let a := s.answered rest
    (l.answers.length < 3 →
      exec (.anchorReadAnswer answer) s =
        .next (updateSpace
          { a with anchor := { s.anchor with loading := some { l with answers := l.answers ++ [taken] } } })) ∧
    (∀ a1 a2 b1 : Option (List Byte), l.answers = [a1, a2, b1] →
      let copyA := judgeLines s.anchorBase a1 a2
      let copyB := judgeLines s.anchorBase b1 taken
      (copyA = none → copyB = none →
        exec (.anchorReadAnswer answer) s =
          .next (updateSpace (raise .noAnchor (rejudge
            { a with
              anchor :=
                { s.anchor with
                  working := .noAnchor, current := none, generation := 0#32, stale := false, loading := none }
              management := { s.management with pending := .noAnchor }
              modes := { s.modes with mode := .bypass, cause := .noAnchor } })))) ∧
      (∀ (copy : Copy) (f : AnchorFields),
        (copy = .a ∧ copyA = some f ∧ ∀ g, copyB = some g → after g.generation f.generation = false) ∨
          (copy = .b ∧ copyB = some f ∧ ∀ g, copyA = some g → after f.generation g.generation = true) →
        exec (.anchorReadAnswer answer) s =
          .next (updateSpace (rejudge
            { a with
              anchor :=
                { s.anchor with
                  working := f.configuration, current := some copy, generation := f.generation, stale := false,
                  loading := none }
              ring :=
                { s.ring with
                  head := f.tail, headSequence := f.tailSequence, tail := f.tail, tailSequence := f.tailSequence,
                  ringId := f.ringId, used := 0, promised := 0 }
              epochs := { s.epochs with closedThrough := f.closedThrough }
              management := { s.management with pending := f.configuration }
              modes := { s.modes with mode := .recovering }
              replay :=
                { s.replay with
                  recovery := some
                    { phase := .scanning 0, ringId := f.ringId, runLength := none, lastMarker := none, cutoff := none,
                      highest := none, recoveredThrough := none }
                  requests := [.readHead f.tail, .readBody f.tail]
                  headLine := none } }))))

/-! ### Replay -/

/-- The replay engine's reads and the walk of a rollback. A head line is kept until its body is read (R92). A FAULT is
logged and halts with REPLAY-FAULT, a record that fails its tests with REPLAY-CHECK (R96); in a recovery's scan the FAULT
leaves the ring as LOADING set it (R99; log entry 28). With no sequence running answers act on nothing (R97). A LINE record whose epoch is after closed-through is restored, before the reads of the
slot below (R92, R93). With no slots left and no restore write outstanding the CLOSE record is requested (R94). -/
def Obligations.RollbackWalk : Prop :=
  ∀ (s : State) (e : MemoryEntry) (rest : List MemoryEntry), s.Running → s.Awaits e rest →
    let a := s.answered rest
    let size := s.anchor.working.slots.toNat
    let running : Prop := s.replay.rollback.isSome = true ∨ s.replay.recovery.isSome = true
    (∀ slot : Nat, e.source = .replayRead slot true →
      (¬ running → ∀ answer, exec (.replayHeadReadAnswer answer) s = .next (updateSpace a)) ∧
      (running →
        (∀ data, exec (.replayHeadReadAnswer (.done data)) s =
          .next (updateSpace { a with replay := { s.replay with headLine := some data } })) ∧
        exec (.replayHeadReadAnswer .fault) s =
          .next (updateSpace (halt .replayFault (logError .replayFault none none (some slot) a))))) ∧
    (∀ slot : Nat, e.source = .replayRead slot false →
      (¬ running → ∀ answer, exec (.replayReadAnswer answer) s = .next (updateSpace a)) ∧
      (running → exec (.replayReadAnswer .fault) s =
        .next (updateSpace (halt .replayFault (logError .replayFault none none (some slot) a))))) ∧
    (∀ (slot : Nat) (epoch : Word), e.source = .restoreWrite slot epoch →
      (¬ running → ∀ answer, exec (.restoreWriteAnswer answer) s = .next (updateSpace a)) ∧
      (running → exec (.restoreWriteAnswer .fault) s =
        .next (updateSpace (halt .replayFault
          (logError .replayFault (some epoch) (some e.line) (some slot) a))))) ∧
    (∀ (w : Walk) (highest : Word), s.replay.rollback = some { phase := .walking w, highest := highest } →
      (∀ (slot : Nat) (epoch : Word), e.source = .restoreWrite slot epoch →
        let t :=
          { a with
            replay :=
              { s.replay with
                rollback := some
                  { phase := .walking { w with outstanding := w.outstanding - 1 }, highest := highest } } }
        (w.left ≠ 0 ∨ 1 < w.outstanding → exec (.restoreWriteAnswer .done) s = .next (updateSpace t)) ∧
        (w.left = 0 → w.outstanding ≤ 1 →
          exec (.restoreWriteAnswer .done) s = .next (updateSpace (queueClose highest t)))) ∧
      (∀ (slot : Nat) (head body : List Byte), e.source = .replayRead slot false → s.replay.headLine = some head →
        let verified := verifyRecord s.ring.ringId w.sequence w.cursor head body
        (verified = none →
          exec (.replayReadAnswer (.done body)) s =
            .next (updateSpace (halt .replayCheck (logError .replayCheck none none (some w.cursor) a)))) ∧
        (∀ (info : RecordInfo) (restore : List ReplayRequest), verified = some info →
          (∃ line, info.kind = .line ∧ info.line = some line ∧ after info.epoch s.epochs.closedThrough = true ∧
              restore = [.restore info.slot info.epoch line body]) ∨
            ((info.kind ≠ .line ∨ after info.epoch s.epochs.closedThrough = false) ∧ restore = []) →
          let next : Walk :=
            { cursor := (w.cursor + size - 1) % size, sequence := w.sequence - 1#32, left := w.left - 1,
              outstanding := w.outstanding + restore.length }
          let t :=
            { a with
              replay :=
                { s.replay with
                  rollback := some { phase := .walking next, highest := highest }
                  requests :=
                    restore ++ if next.left = 0 then [] else [.readHead next.cursor, .readBody next.cursor]
                  headLine := none } }
          (next.left ≠ 0 ∨ next.outstanding ≠ 0 →
            exec (.replayReadAnswer (.done body)) s = .next (updateSpace t)) ∧
          (next.left = 0 → next.outstanding = 0 →
            exec (.replayReadAnswer (.done body)) s = .next (updateSpace (queueClose highest t))))))

/-- The scan of a recovery: a record that passes its tests extends the run, and its epoch is kept when it is a marker;
the first that fails, or a full ring, ends the run (R33, R99). The cutoff is then the later of the last marker's epoch
and closed-through, the head follows the run, and the walk begins below the head, or, with an empty run, the anchor
update is asked for (R34, R100, R101). -/
def Obligations.RecoveryScan : Prop :=
  ∀ (s : State) (e : MemoryEntry) (rest : List MemoryEntry) (slot k : Nat) (q : Recovery) (head body : List Byte),
    s.Running → s.Awaits e rest → e.source = .replayRead slot false → s.replay.rollback = none →
    s.replay.recovery = some q → q.phase = .scanning k → s.replay.headLine = some head →
    let a := s.answered rest
    let size := s.anchor.working.slots.toNat
    let row := exec (.replayReadAnswer (.done body)) s
    let verified :=
      verifyRecord q.ringId (s.ring.tailSequence + BitVec.ofNat 32 k) ((s.ring.tail + k) % size) head body
    let marker := fun info : RecordInfo => if info.kind = .line then q.lastMarker else some info.epoch
    (∀ info, verified = some info → k + 1 ≠ size →
      let slot' := (s.ring.tail + (k + 1)) % size
      row =
        .next (updateSpace
          { a with
            replay :=
              { s.replay with
                recovery := some { q with phase := .scanning (k + 1), lastMarker := marker info }
                requests := [.readHead slot', .readBody slot']
                headLine := none } })) ∧
    (∀ (run : Nat) (last : Option Word),
      (verified = none ∧ run = k ∧ last = q.lastMarker) ∨
        (∃ info, verified = some info ∧ k + 1 = size ∧ run = k + 1 ∧ last = marker info) →
      let cutoff := match last with | some m => later m s.epochs.closedThrough | none => s.epochs.closedThrough
      let top := (s.ring.tail + run) % size
      let below := (top + size - 1) % size
      let sequence := s.ring.tailSequence + BitVec.ofNat 32 run
      let ended := fun (phase : RecoveryPhase) (requests : List ReplayRequest) =>
        { a with
          ring := { s.ring with head := top, headSequence := sequence, used := run }
          replay :=
            { s.replay with
              recovery := some
                { q with
                  phase := phase, runLength := some run, lastMarker := last, cutoff := some cutoff,
                  recoveredThrough := some cutoff }
              requests := requests
              headLine := none } }
      (run ≠ 0 →
        row =
          .next (updateSpace (ended
            (.restoring { cursor := below, sequence := sequence - 1#32, left := run, outstanding := 0 })
            [.readHead below, .readBody below]))) ∧
      (run = 0 → row = .next (updateSpace (requestUpdate (ended .anchoring s.replay.requests)))))

/-- The walk of a recovery: each record must pass its tests, or the bridge halts with REPLAY-CHECK (R101); a LINE
record whose epoch is after the cutoff is restored and raises the highest rolled-back epoch (R93, R101). The walk
complete, nothing restored goes on to the anchor update, and else a CLOSE record is requested for the highest
rolled-back epoch, or the bridge halts for want of a slot (R28, R102). -/
def Obligations.RecoveryWalk : Prop :=
  ∀ (s : State) (e : MemoryEntry) (rest : List MemoryEntry) (q : Recovery) (w : Walk) (cutoff through : Word),
    s.Running → s.Awaits e rest → s.replay.rollback = none → s.replay.recovery = some q → q.phase = .restoring w →
    q.cutoff = some cutoff → q.recoveredThrough = some through →
    let a := s.answered rest
    let size := s.anchor.working.slots.toNat
    let walked := fun (next : Walk) (highest : Option Word) (replay : ReplayEngine) =>
      { a with replay := { replay with recovery := some { q with phase := .restoring next, highest := highest } } }
    let goesOn := fun (row : Host.Outcome State Fault Refusal) (next : Walk) (highest : Option Word) (t : State) =>
      (next.left ≠ 0 ∨ next.outstanding ≠ 0 → row = .next (updateSpace t)) ∧
      (next.left = 0 → next.outstanding = 0 →
        (highest = none →
          row =
            .next (updateSpace (requestUpdate
              { t with replay := { t.replay with recovery := some { q with phase := .anchoring, highest := none } } }))) ∧
        (∀ n, highest = some n → 1 ≤ size - s.ring.used - s.ring.promised →
          row =
            .next (updateSpace
              { t with
                ring :=
                  { s.ring with
                    head := (s.ring.head + 1) % size, headSequence := s.ring.headSequence + 1#32,
                    used := s.ring.used + 1,
                    writes := s.ring.writes ++
                      [{ info :=
                           { kind := .close, epoch := n, line := none, slot := s.ring.head,
                             sequence := s.ring.headSequence }
                         isHead := true
                         address := BitVec.ofNat 32 (s.anchor.working.basePage.toNat * 4096 + 128 * s.ring.head)
                         data :=
                           recordHead
                             { kind := .close, epoch := n, line := none, slot := s.ring.head,
                               sequence := s.ring.headSequence } 0#8 s.ring.ringId [] }] }
                replay :=
                  { t.replay with recovery := some { q with phase := .closing, highest := some n } } })) ∧
        (∀ n, highest = some n → size - s.ring.used - s.ring.promised = 0 →
          row =
            .next (updateSpace
              (halt .ringExhausted (logError .ringExhausted (some n) none (some s.ring.head) t)))))
    (∀ (slot : Nat) (epoch : Word), e.source = .restoreWrite slot epoch →
      let next := { w with outstanding := w.outstanding - 1 }
      goesOn (exec (.restoreWriteAnswer .done) s) next q.highest (walked next q.highest s.replay)) ∧
    (∀ (slot : Nat) (head body : List Byte), e.source = .replayRead slot false → s.replay.headLine = some head →
      let row := exec (.replayReadAnswer (.done body)) s
      let verified := verifyRecord q.ringId w.sequence w.cursor head body
      (verified = none →
        row = .next (updateSpace (halt .replayCheck (logError .replayCheck none none (some w.cursor) a)))) ∧
      (∀ (info : RecordInfo) (restore : List ReplayRequest) (highest : Option Word), verified = some info →
        (∃ line, info.kind = .line ∧ info.line = some line ∧ after info.epoch cutoff = true ∧
            restore = [.restore info.slot info.epoch line body] ∧
            highest = some (match q.highest with | none => info.epoch | some h => later info.epoch h)) ∨
          ((info.kind ≠ .line ∨ after info.epoch cutoff = false) ∧ restore = [] ∧ highest = q.highest) →
        let next : Walk :=
          { cursor := (w.cursor + size - 1) % size, sequence := w.sequence - 1#32, left := w.left - 1,
            outstanding := w.outstanding + restore.length }
        goesOn row next highest
          (walked next highest
            { s.replay with
              requests := restore ++ if next.left = 0 then [] else [.readHead next.cursor, .readBody next.cursor]
              headLine := none })))

/-! ### The management port -/

/-- A READ of 1 to 32 items of the item map is answered OK with their words, taken at that moment, and with the
clear-on-read flag set zeroes the counters it covers; any other is answered BAD-ITEM and does nothing (R163, R170). The
row for a READ of counters acts as the READ of its item address, whatever the address (log entry 20). The items are
those of the item map, the counters in the order of their table (R169, R175): the ring items are 0 without a valid
configuration, and the OPEN epoch items report, while a rollback runs, the highest aborted epoch, and the other live
epoch items the other one (R19). -/
def Obligations.ItemReads : Prop :=
  ∀ s : State,
    let known := fun n : Nat =>
      n ≤ 0x0011 ∨ (0x0018 ≤ n ∧ n ≤ 0x001A) ∨ (0x0020 ≤ n ∧ n ≤ 0x002C) ∨ (0x0100 ≤ n ∧ n ≤ 0x0116) ∨
        (0x0200 ≤ n ∧ n ≤ 0x0216)
    let responded := fun (status : Status) (words : List Word) =>
      { s with management := { s.management with response := some { status := status, words := words } } }
    (∀ n : Nat, (s.readItem n).isSome = true ↔ known n) ∧
    (s.TakesFrames → ∀ (item : BitVec 16) (count : Byte) (row : BitVec 16 → Byte → Instr),
      (row = .read ∨ row = .counterSnapshot) →
      (count.toNat = 0 ∨ 32 < count.toNat ∨ (∃ k, k < count.toNat ∧ ¬ known (item.toNat + k)) →
        exec (row item count) s = .next (responded .badItem [])) ∧
      (1 ≤ count.toNat → count.toNat ≤ 32 → (∀ k, k < count.toNat → known (item.toNat + k)) →
        ∃ (words : List Word) (counters : Vector Word 13),
          words.length = count.toNat ∧ (∀ k, k < count.toNat → words[k]? = s.readItem (item.toNat + k)) ∧
          (∀ c : Fin 13, counters[c] =
            if s.management.clearOnRead = true ∧ item.toNat ≤ 0x0020 + c.val ∧
                0x0020 + c.val < item.toNat + count.toNat then 0#32
            else s.management.counters[c]) ∧
          exec (row item count) s =
            .next
              { responded .ok words with
                management :=
                  { s.management with
                    counters := counters, response := some { status := .ok, words := words } } })) ∧
    (∀ m : Fin 7,
      let modes : Vector Mode 7 := #v[.loading, .recovering, .bypass, .active, .quiescing, .quiesced, .halted]
      s.modes.mode = modes[m] → s.readItem 0x0000 = some (BitVec.ofNat 32 m.val)) ∧
    (∀ m : Fin 7,
      let causes : Vector Cause 7 :=
        #v[.none, .noAnchor, .recordWriteFault, .replayFault, .replayCheck, .memoryTimeout, .ringExhausted]
      s.modes.cause = causes[m] → s.readItem 0x0001 = some (BitVec.ofNat 32 m.val)) ∧
    s.readItem 0x0002 = some (if s.modes.freeze then 1#32 else 0#32) ∧
    (s.replay.rollback = none →
      (∀ o, s.epochs.table.opened = some o →
        s.readItem 0x0003 = some (if o.damaged then 0x80000100#32 else 0x80000000#32) ∧
        s.readItem 0x0004 = some o.number) ∧
      (s.epochs.table.opened = none → s.readItem 0x0003 = some 0#32 ∧ s.readItem 0x0004 = some 0#32)) ∧
    (let descriptor := fun x : LiveEpoch =>
       (match x.state with
         | .opened => 0x80000000#32
         | .committing => 0x80000001#32
         | .failed => 0x80000002#32
         | .rollingBack => 0x80000003#32) + if x.damaged then 0x100#32 else 0#32
     let reads := fun (n : Nat) (x : Option LiveEpoch) =>
       match x with
       | some e => s.readItem n = some (descriptor e) ∧ s.readItem (n + 1) = some e.number
       | none => s.readItem n = some 0#32 ∧ s.readItem (n + 1) = some 0#32
     let reported := fun x : Option LiveEpoch =>
       (s.replay.rollback = none ∧ x = s.epochs.table.opened) ∨
         ∃ q, s.replay.rollback = some q ∧ x = s.epochs.table.find q.highest
     (∀ x : Option LiveEpoch, reported x → reads 0x0003 x) ∧
     (∀ x y : LiveEpoch, s.epochs.table.epochs = [x, y] → x.number ≠ y.number →
       (reported (some x) → reads 0x0005 (some y)) ∧ (reported (some y) → reads 0x0005 (some x))) ∧
     (∀ x : LiveEpoch, s.epochs.table.epochs = [x] →
       (reported (some x) → reads 0x0005 none) ∧ (reported none → reads 0x0005 (some x))) ∧
     (s.epochs.table.epochs = [] → reads 0x0005 none)) ∧
    s.readItem 0x0007 = some s.epochs.closedThrough ∧
    (16 ≤ s.anchor.working.slots.toNat → s.anchor.working.slots.toNat ≤ 1048576 →
      s.readItem 0x0008 = some (BitVec.ofNat 32 s.ring.head) ∧ s.readItem 0x0009 = some (BitVec.ofNat 32 s.ring.tail) ∧
      s.readItem 0x000A =
        some (BitVec.ofNat 32 (s.anchor.working.slots.toNat - s.ring.used - s.ring.promised)) ∧
      s.readItem 0x000B = some (BitVec.ofNat 32 s.ring.promised)) ∧
    (¬ (16 ≤ s.anchor.working.slots.toNat ∧ s.anchor.working.slots.toNat ≤ 1048576) →
      s.readItem 0x0008 = some 0#32 ∧ s.readItem 0x0009 = some 0#32 ∧ s.readItem 0x000A = some 0#32 ∧
      s.readItem 0x000B = some 0#32) ∧
    s.readItem 0x000C = some (BitVec.ofNat 32 s.hold.entries.length) ∧
    s.readItem 0x000D = some (BitVec.ofNat 32 s.capture.tags.length) ∧
    s.readItem 0x000E = some s.anchor.generation ∧
    s.readItem 0x000F =
      some (match s.anchor.current with | none => 0#32 | some .a => 1#32 | some .b => 2#32) ∧
    s.readItem 0x0010 = some (if s.anchor.stale then 1#32 else 0#32) ∧
    (s.management.log.length ≤ 8 →
      s.readItem 0x0011 =
        some (BitVec.ofNat 32 (s.management.log.length + if s.management.overflow then 256 else 0))) ∧
    s.readItem 0x0018 = some (s.management.flags.setWidth 32) ∧
    s.readItem 0x0019 = some (s.management.enables.setWidth 32) ∧
    s.readItem 0x001A = some (if s.management.clearOnRead then 1#32 else 0#32) ∧
    (∀ c : Fin 13, s.readItem (0x0020 + c.val) = some s.management.counters[c]) ∧
    (s.readItem 0x0020 = some (s.counter .hostReads) ∧ s.readItem 0x0021 = some (s.counter .hostWrites) ∧
      s.readItem 0x0022 = some (s.counter .retries) ∧ s.readItem 0x0023 = some (s.counter .faults) ∧
      s.readItem 0x0024 = some (s.counter .captures) ∧ s.readItem 0x0025 = some (s.counter .tagHits) ∧
      s.readItem 0x0026 = some (s.counter .tagFullMisses) ∧ s.readItem 0x0027 = some (s.counter .records) ∧
      s.readItem 0x0028 = some (s.counter .commits) ∧ s.readItem 0x0029 = some (s.counter .rollbacks) ∧
      s.readItem 0x002A = some (s.counter .deferredServed) ∧ s.readItem 0x002B = some (s.counter .deferredDiscarded) ∧
      s.readItem 0x002C = some (s.counter .holdFullWaits)) ∧
    (∀ o : Nat, o < 23 →
      s.readItem (0x0100 + o) = s.management.pending.item o ∧ s.readItem (0x0200 + o) = s.anchor.working.item o)

/-- A WRITE is judged in order: a count outside 1 to 32 or an address outside the item map is BAD-ITEM, a read-only
item is LOCKED, a pending configuration item while a STORE is in flight is BUSY; then nothing is written (R164). Else
it is OK, and its words are written one after another: event flags are cleared where a 1 is written (R165), enables
take the value (R166), clear-on-read its bit 0 (R170), and a pending configuration item its value, in range or not
(R142). The row for a WRITE of pending configuration items acts as the WRITE of its item address, whatever the address
(log entry 20). -/
def Obligations.ItemWrites : Prop :=
  ∀ s : State,
    let locked := fun n : Nat => n ≤ 0x0011 ∨ (0x0020 ≤ n ∧ n ≤ 0x002C) ∨ (0x0200 ≤ n ∧ n ≤ 0x0216)
    let pending := fun n : Nat => 0x0100 ≤ n ∧ n ≤ 0x0116
    let writable := fun n : Nat => (0x0018 ≤ n ∧ n ≤ 0x001A) ∨ pending n
    let storing : Prop := ∃ w c, s.anchor.write = some w ∧ w.kind = .store c
    let pins := fun flags enables : BitVec 14 =>
      { s with
        management :=
          { s.management with flags := flags, enables := enables, irq := decide (flags &&& enables ≠ 0#14) } }
    (s.TakesFrames →
      (∀ (item : BitVec 16) (words : List Word) (row : BitVec 16 → List Word → Instr),
        (row = .write ∨ row = .pendingConfigWrite) →
        let touches := fun p : Nat → Prop => ∃ k, k < words.length ∧ p (item.toNat + k)
        (words.length = 0 ∨ 32 < words.length ∨ touches (fun n => ¬ (locked n ∨ writable n)) →
          exec (row item words) s = .next (respond .badItem [] s)) ∧
        (1 ≤ words.length → words.length ≤ 32 → ¬ touches (fun n => ¬ (locked n ∨ writable n)) →
          (touches locked → exec (row item words) s = .next (respond .locked [] s)) ∧
          (¬ touches locked → touches pending → storing → exec (row item words) s = .next (respond .busy [] s)) ∧
          (¬ touches locked → ¬ (touches pending ∧ storing) →
            exec (row item words) s = .next (respond .ok [] (writeItems item.toNat words s))))) ∧
      (∀ v : Word,
        exec (.eventFlagsWrite v) s =
          .next (respond .ok [] (pins (s.management.flags &&& ~~~(v.extractLsb' 0 14)) s.management.enables)) ∧
        exec (.eventEnablesWrite v) s = .next (respond .ok [] (pins s.management.flags (v.extractLsb' 0 14))))) ∧
    (∀ (n : Nat) (v : Word) (words : List Word),
      writeItems n [] s = s ∧ writeItems n (v :: words) s = writeItems (n + 1) words (writeItems n [v] s)) ∧
    (∀ v : Word,
      writeItems 0x0018 [v] s = pins (s.management.flags &&& ~~~(v.extractLsb' 0 14)) s.management.enables ∧
      writeItems 0x0019 [v] s = pins s.management.flags (v.extractLsb' 0 14) ∧
      writeItems 0x001A [v] s = { s with management := { s.management with clearOnRead := v.getLsbD 0 } } ∧
      (∀ o : Nat, o < 23 →
        writeItems (0x0100 + o) [v] s =
          { s with management := { s.management with pending := s.management.pending.writeItem o v } }))

/-- The ERROR-POP command (R168), with its code and the layout of its four words (R174). A word count other than 0 is
answered BAD-ITEM. On an empty log it returns kind NONE and changes nothing. Else it removes the oldest entry and
returns its kind, mode, presence indications, epoch, line address and slot, absent fields reading 0, in every mode; a
pop that leaves the log empty clears the overflow indication, and another keeps it. With a full log, a pop taken before
a new error makes room for it, and one taken after it finds it lost and the overflow indication set. -/
def Obligations.ErrorPop : Prop :=
  ∀ (s : State) (item : BitVec 16) (count : Byte), s.TakesFrames →
    let kinds : Vector ErrorKind 9 :=
      #v[.captureReadFault, .dataWriteFault, .passWriteFault, .recordWriteFault, .anchorWriteFault, .replayFault,
        .replayCheck, .memoryTimeout, .ringExhausted]
    let modes : Vector Mode 7 := #v[.loading, .recovering, .bypass, .active, .quiescing, .quiesced, .halted]
    (∃ crc : Byte, requestBytes (.errorPop item count) =
      some [0x30#8, item.extractLsb' 8 8, item.extractLsb' 0 8, count, crc]) ∧
    (count ≠ 0#8 → exec (.errorPop item count) s = .next (respond .badItem [] s)) ∧
    (count = 0#8 → s.management.log = [] →
      exec (.errorPop item count) s = .next (respond .ok [0#32, 0#32, 0#32, 0#32] s)) ∧
    (∀ (e : ErrorEntry) (rest : List ErrorEntry), count = 0#8 → s.management.log = e :: rest →
      ∃ (w : Word) (t : State),
        t =
          { s with
            management :=
              { s.management with
                log := rest, overflow := if rest = [] then false else s.management.overflow } } ∧
        exec (.errorPop item count) s =
          .next (respond .ok [w, e.epoch.getD 0#32, e.line.getD 0#32, BitVec.ofNat 32 (e.slot.getD 0)] t) ∧
        (∀ k : Fin 9, e.kind = kinds[k] → w.extractLsb' 0 8 = BitVec.ofNat 8 (k.val + 1)) ∧
        (∀ m : Fin 7, e.mode = modes[m] → w.extractLsb' 8 8 = BitVec.ofNat 8 m.val) ∧
        w.getLsbD 16 = e.epoch.isSome ∧ w.getLsbD 17 = e.line.isSome ∧ w.getLsbD 18 = e.slot.isSome ∧
        w.extractLsb' 19 13 = 0#13 ∧
        (rest.length = 7 → ∀ (kind : ErrorKind) (epoch line : Option Word) (slot : Option Nat),
          let x : ErrorEntry := { kind := kind, epoch := epoch, line := line, slot := slot, mode := s.modes.mode }
          (logError kind epoch line slot t).management.log = rest ++ [x] ∧
          (logError kind epoch line slot t).management.overflow = s.management.overflow ∧
          ∃ u : State, exec (.errorPop item count) (logError kind epoch line slot s) = .next u ∧
            u.management.log = rest ∧ u.management.overflow = true))

/-- A TAG-PROBE of one word reports what the tag table holds for its line, for the OPEN epoch and for the other live
epoch (while a rollback runs, for the highest aborted epoch and the other), and changes nothing; any other word count
is answered BAD-ITEM (R19, R71, R174). A bad frame is answered BAD-FRAME and a discarded one not at all, and nothing is
done; a frame that follows a reset with CS# low is ignored (R160; log entry 10). -/
def Obligations.ProbesAndIdleFrames : Prop :=
  ∀ s : State,
    (s.TakesFrames →
      (∀ (item : BitVec 16) (words : List Word), words.length ≠ 1 →
        exec (.tagProbe item words) s = .next (respond .badItem [] s)) ∧
      (∀ (item : BitVec 16) (w : Word),
        exec (.tagProbe item [w]) s =
          .next (respond .ok
            [s.probeWord (w &&& 0xFFFFFFC0#32) s.openItem, s.probeWord (w &&& 0xFFFFFFC0#32) s.otherItem] s)) ∧
      exec .badFrame s = .next (respond .badFrame [] s) ∧
      exec .frameDiscarded s = .next { s with management := { s.management with response := none } }) ∧
    (s.replay.rollback = none → s.openItem = s.epochs.table.opened) ∧
    (∀ r, s.replay.rollback = some r → s.openItem = s.epochs.table.find r.highest) ∧
    (∀ x y : LiveEpoch, s.epochs.table.epochs = [x, y] → x.number ≠ y.number →
      (s.openItem = some x → s.otherItem = some y) ∧ (s.openItem = some y → s.otherItem = some x)) ∧
    (∀ x : LiveEpoch, s.epochs.table.epochs = [x] →
      (s.openItem = some x → s.otherItem = none) ∧ (s.openItem = none → s.otherItem = some x)) ∧
    (∀ (line : Word) (e : LiveEpoch),
      let tag := s.capture.tagState ⟨line, e.number⟩
      s.probeWord line none = 0#32 ∧
      (tag = none → s.probeWord line (some e) = 0x80000000#32) ∧
      (tag = some .saved → s.probeWord line (some e) = 0xC0000001#32) ∧
      (∀ owner, tag = some (.capturing owner none) → s.probeWord line (some e) = 0xC0000000#32) ∧
      (∀ owner (i : Fin 4), tag = some (.capturing owner (some i)) →
        s.probeWord line (some e) = 0xC0000100#32 + BitVec.ofNat 32 (16 * i.val))) ∧
    (s.Running → s.management.awaitsDeselect = true →
      ∀ c : Instr, (c = .badFrame ∨ c = .frameDiscarded ∨ (requestBytes c).isSome = true) →
        exec c s =
          .next { s with management := { s.management with awaitsDeselect := false, response := none } })

/-- COMMIT and QUIESCE are judged by the same rows: MODE outside ACTIVE, BUSY during a rollback or with a COMMITTING or
FAILED epoch, DAMAGED with a damaged OPEN epoch, and else OK (R72, R148). An empty OPEN epoch closes without a record
(R8, R73), and one that is not empty becomes COMMITTING, its SAVED tags freed and the commit sequence in DRAINING (R57,
R74, R75, R76). After a COMMIT the next epoch opens with its latched limits (R3, R5, R6); a QUIESCE goes on in QUIESCED
or QUIESCING (R148, R149). A word count other than 0 is answered BAD-ITEM. -/
def Obligations.CommitAndQuiesce : Prop :=
  ∀ (s : State) (item : BitVec 16),
    let failedOrCommitting : Prop := ∃ x ∈ s.epochs.table.epochs, x.state = .committing ∨ x.state = .failed
    let opening := fun n : Word =>
      ({ number := n, state := .opened, damaged := false, lines := 0, firstSlot := none, firstTime := none, held := 0,
         out := 0, threshold := s.anchor.working.threshold, ageLimit := s.anchor.working.ageLimit } : LiveEpoch)
    let closed := fun n : Word =>
      bump .commits (raise .commitDone
        { s with
          epochs :=
            { closedThrough := n, table := s.epochs.table.remove n, commit := s.epochs.commit, heldTrigger := false,
              fullRequest := false } })
    let started := fun (purpose : CommitPurpose) (n : Word) =>
      { s with
        epochs :=
          { closedThrough := s.epochs.closedThrough
            table := s.epochs.table.map fun x => if x.number = n then { x with state := .committing } else x
            commit := some { epoch := n, purpose := purpose, phase := .draining }
            heldTrigger := false, fullRequest := false }
        capture :=
          { s.capture with
            tags := s.capture.tags.filter fun x => decide ¬ (x.key.epoch = n ∧ x.state = .saved) } }
    (s.epochs.table.entry0 = none → ∀ n : Word,
      openEpoch n s =
        { s with epochs := { s.epochs with table := ⟨some (opening n), s.epochs.table.entry1⟩ } }) ∧
    (s.epochs.table.entry0 ≠ none → s.epochs.table.entry1 = none → ∀ n : Word,
      openEpoch n s =
        { s with epochs := { s.epochs with table := ⟨s.epochs.table.entry0, some (opening n)⟩ } }) ∧
    (∀ n : Word,
      commitEmpty n s = openEpoch (n + 1#32) (closed n) ∧
      commitOpen n s = drainNotice (openEpoch (n + 1#32) (started .commit n))) ∧
    (s.TakesFrames →
      (∀ count : Byte, count ≠ 0#8 →
        exec (.commit item count) s = .next (respond .badItem [] s) ∧
        exec (.quiesce item count) s = .next (respond .badItem [] s)) ∧
      (s.modes.mode ≠ .active →
        exec (.commit item 0#8) s = .next (respond .mode [] s) ∧
        exec (.quiesce item 0#8) s = .next (respond .mode [] s)) ∧
      (s.modes.mode = .active → (s.replay.rollback ≠ none ∨ failedOrCommitting) →
        exec (.commit item 0#8) s = .next (respond .busy [] s) ∧
        exec (.quiesce item 0#8) s = .next (respond .busy [] s)) ∧
      (∀ o : LiveEpoch, s.modes.mode = .active → s.replay.rollback = none → ¬ failedOrCommitting →
        s.epochs.table.opened = some o →
        (o.damaged = true →
          exec (.commit item 0#8) s = .next (respond .damaged [] s) ∧
          exec (.quiesce item 0#8) s = .next (respond .damaged [] s)) ∧
        (o.damaged = false → o.lines = 0 → o.held = 0 → o.out = 0 →
          exec (.commit item 0#8) s = .next (respond .ok [] (updateSpace (commitEmpty o.number s))) ∧
          exec (.quiesce item 0#8) s =
            .next (respond .ok [] (updateSpace (raise .quiesced (rejudge
              { closed o.number with modes := { s.modes with mode := .quiesced } }))))) ∧
        (o.damaged = false → (0 < o.lines ∨ 0 < o.held ∨ 0 < o.out) →
          exec (.commit item 0#8) s = .next (respond .ok [] (updateSpace (commitOpen o.number s))) ∧
          exec (.quiesce item 0#8) s =
            .next (respond .ok [] (updateSpace (drainNotice (rejudge
              { started .quiesce o.number with modes := { s.modes with mode := .quiescing } })))))))

/-- ABORT is answered MODE outside ACTIVE, and BUSY during a rollback or with a COMMITTING epoch (R87). Else every live
epoch rolls back: JOURNAL entries are discarded and held entries are 0; SAVED tags and those whose capture has not
started are freed; a READING capture is cancelled and a WRITING one goes on, without owners; deferred reads of JOURNAL
lines are discarded, a line being a JOURNAL one by the window that gives its class (log entry 13); the request in hand
is judged afresh; and the rollback enters SETTLING with the latest live epoch as the highest, with the notices that can
be given at once (R11, R51, R58, R67, R68, R84, R85, R88, R91, R128, R132). -/
def Obligations.AbortRollsBack : Prop :=
  ∀ (s : State) (item : BitVec 16), s.TakesFrames →
    (∀ count : Byte, count ≠ 0#8 → exec (.abort item count) s = .next (respond .badItem [] s)) ∧
    (s.modes.mode ≠ .active → exec (.abort item 0#8) s = .next (respond .mode [] s)) ∧
    (s.modes.mode = .active →
      (s.replay.rollback ≠ none ∨ ∃ x ∈ s.epochs.table.epochs, x.state = .committing) →
      exec (.abort item 0#8) s = .next (respond .busy [] s)) ∧
    (∀ highest : Word, s.modes.mode = .active → s.replay.rollback = none → s.epochs.commit = none →
      (∀ x ∈ s.epochs.table.epochs, x.state ≠ .committing) →
      (∃ x, s.epochs.table.epochs = [x] ∧ highest = x.number) ∨
        (∃ x y, s.epochs.table.epochs = [x, y] ∧ highest = later x.number y.number) →
      let live := fun n : Word => ∃ x ∈ s.epochs.table.epochs, x.number = n
      ∀ (tags : List TagEntry) (slots : Vector (Option Capture) 4),
        (tags = s.capture.tags.filterMap fun x =>
          if x.key.epoch ∈ s.epochs.table.epochs.map (·.number) then
            match x.state with
            | .capturing _ (some i) => some { x with state := .capturing none (some i) }
            | _ => none
          else some x) →
        (∀ (i : Fin 4), s.capture.slots[i] = none → slots[i] = none) →
        (∀ (i : Fin 4) (c : Capture), s.capture.slots[i] = some c →
          (∀ cancelled, c.phase = .reading cancelled →
            slots[i] = some { c with hold := none, phase := .reading true }) ∧
          (∀ contents slot sequence, c.phase = .writing contents slot sequence →
            slots[i] = some { c with hold := none })) →
        (∀ x ∈ tags, live x.key.epoch → x.state ≠ .saved) ∧
        exec (.abort item 0#8) s =
          .next (respond .ok [] (updateSpace (drainNotice (noteCapturesSettled (rejudge
            (discardDeferred (fun d => (s.anchor.working.classify d.line).1 == .journal)
              { s with
                epochs :=
                  { s.epochs with
                    table := s.epochs.table.map fun x => { x with state := .rollingBack, held := 0 }
                    heldTrigger := false, fullRequest := false }
                hold := { s.hold with entries := s.hold.entries.filter fun x => decide (x.cls = .pass) }
                capture := { tags := tags, slots := slots, reads := s.capture.reads }
                replay :=
                  { s.replay with
                    rollback := some { phase := .settling false false, highest := highest } } })))))))

/-- The BYPASS command (R153), with its code. A word count other than 0 is answered BAD-ITEM, a mode other than
QUIESCED MODE, and a STORE in flight BUSY, each without effect; else the mode becomes BYPASS, with the ring state, the
anchor and the event flags unchanged, so an anchor update in flight goes on, and a JOURNAL write, answered RETRY
before, is forwarded as PASS after. -/
def Obligations.BypassCommand : Prop :=
  ∀ (s : State) (item : BitVec 16) (count : Byte), s.TakesFrames →
    let storing : Prop := ∃ w c, s.anchor.write = some w ∧ w.kind = .store c
    (∃ crc : Byte, requestBytes (.bypass item count) =
      some [0x24#8, item.extractLsb' 8 8, item.extractLsb' 0 8, count, crc]) ∧
    (count ≠ 0#8 → exec (.bypass item count) s = .next (respond .badItem [] s)) ∧
    (count = 0#8 → s.modes.mode ≠ .quiesced → exec (.bypass item count) s = .next (respond .mode [] s)) ∧
    (count = 0#8 → s.modes.mode = .quiesced → storing →
      exec (.bypass item count) s = .next (respond .busy [] s)) ∧
    (count = 0#8 → s.modes.mode = .quiesced → ¬ storing →
      s.judge .write .journal = .retry ∧
      ∃ t : State,
        exec (.bypass item count) s = .next (respond .ok [] t) ∧
        t = rejudge { s with modes := { s.modes with mode := .bypass } } ∧
        t.modes = { s.modes with mode := .bypass } ∧ t.ring = s.ring ∧ t.anchor = s.anchor ∧
        t.management.flags = s.management.flags ∧ t.judge .write .journal = .forward)

/-- RESUME is answered MODE outside QUIESCED and BYPASS, BUSY while a STORE is in flight, and BAD-CONFIG in BYPASS
without a valid working configuration; else epoch closed-through + 1 opens, the mode becomes ACTIVE, and the cause NONE
when it leaves BYPASS (R146, R151). STORE is answered MODE in the same modes, BUSY while an anchor write is in flight
or pending, and BAD-CONFIG with a pending configuration that fails validation; else the anchor write of the pending
configuration starts, under a ring id equal to the new generation, with tail 0 and tail sequence 0 (R143, R144). -/
def Obligations.ResumeAndStore : Prop :=
  ∀ (s : State) (item : BitVec 16), s.TakesFrames →
    let outside : Prop := s.modes.mode ≠ .quiesced ∧ s.modes.mode ≠ .bypass
    let storing : Prop := ∃ w c, s.anchor.write = some w ∧ w.kind = .store c
    let hasJournal : Prop := 16 ≤ s.anchor.working.slots.toNat ∧ s.anchor.working.slots.toNat ≤ 1048576
    let c := s.management.pending
    let start := c.basePage.toNat * 4096
    let stop := start + c.slots.toNat * 128
    let valid : Prop :=
      16 ≤ c.slots.toNat ∧ c.slots.toNat ≤ 1048576 ∧ stop ≤ 4294967296 ∧
      (stop ≤ s.anchorBase.toNat ∨ s.anchorBase.toNat + 256 ≤ start) ∧
      (∀ i : Fin 8, c.windows[i].mode ≠ 3#2 ∧
        (c.windows[i].enable = true → c.windows[i].base.toNat + c.windows[i].countLessOne.toNat + 1 ≤ 1048576)) ∧
      (c.startMode = 0#2 ∨ c.startMode = 1#2) ∧ (c.defaultMode = 0#2 ∨ c.defaultMode = 1#2) ∧
      (c.fullPolicy = 0#2 ∨ c.fullPolicy = 1#2) ∧
      8 ≤ c.discardLimit.toNat ∧ c.discardLimit.toNat ≤ 2040 ∧ c.discardLimit.toNat % 8 = 0 ∧
      c.watermark.toNat ≤ 1048576
    (∀ count : Byte, count ≠ 0#8 →
      exec (.resume item count) s = .next (respond .badItem [] s) ∧
      exec (.store item count) s = .next (respond .badItem [] s)) ∧
    (outside →
      exec (.resume item 0#8) s = .next (respond .mode [] s) ∧
      exec (.store item 0#8) s = .next (respond .mode [] s)) ∧
    (¬ outside → storing → exec (.resume item 0#8) s = .next (respond .busy [] s)) ∧
    (s.modes.mode = .bypass → ¬ storing → ¬ hasJournal →
      exec (.resume item 0#8) s = .next (respond .badConfig [] s)) ∧
    (¬ outside → ¬ storing → (s.modes.mode = .bypass → hasJournal) →
      exec (.resume item 0#8) s =
        .next (respond .ok [] (updateSpace (rejudge
          { openEpoch (s.epochs.closedThrough + 1#32) s with
            modes :=
              { s.modes with
                mode := .active, cause := if s.modes.mode = .bypass then .none else s.modes.cause } })))) ∧
    (¬ outside → (s.anchor.write ≠ none ∨ s.anchor.pendingUpdate = true) →
      exec (.store item 0#8) s = .next (respond .busy [] s)) ∧
    (¬ outside → s.anchor.write = none → s.anchor.pendingUpdate = false →
      (¬ valid → exec (.store item 0#8) s = .next (respond .badConfig [] s)) ∧
      (valid →
        exec (.store item 0#8) s =
          .next (respond .ok []
            { s with
              anchor :=
                { s.anchor with
                  write := some
                    { kind := .store c
                      target := if s.anchor.current = some .a then .b else .a
                      generation := s.anchor.generation + 1#32
                      bytes := anchorBytes
                        { configuration := c, generation := s.anchor.generation + 1#32,
                          ringId := s.anchor.generation + 1#32, tail := 0, tailSequence := 0#32,
                          closedThrough := s.epochs.closedThrough }
                      granted := 0, first := none } } })))

/-! ### The input lines -/

/-- PFI# asserted sets the freeze flag, and the request in hand is answered RETRY (R128, R156). PFI# deasserted clears
the flag, and in ACTIVE with an OPEN epoch its trigger is re-examined once (R86, R157). -/
def Obligations.PowerFailInput : Prop :=
  ∀ s : State, s.Running →
    exec .pfiAssert s =
      .next (rejudge { s with pins := { s.pins with pfi := true }, modes := { s.modes with freeze := true } }) ∧
    (∀ r, s.host.current = some r → ∃ t, exec .pfiAssert s = .next t ∧ t.host.current = none ∧
      t.host.answer = some .retry ∧ t.modes.freeze = true) ∧
    (s.modes.freeze = false → exec .pfiDeassert s = .next { s with pins := { s.pins with pfi := false } }) ∧
    (s.modes.freeze = true →
      let t := { s with pins := { s.pins with pfi := false }, modes := { s.modes with freeze := false } }
      let acts : Prop := s.modes.mode = .active ∧ ∃ o, s.epochs.table.opened = some o
      (acts → exec .pfiDeassert s = .next (updateSpace (reexamine t))) ∧ (¬ acts → exec .pfiDeassert s = .next t))

/-! ### What every step keeps -/

/-- IRQ# is driven low exactly while a flag is set with its enable set, before and after every step; the flags are set,
read and cleared whatever the enables, and at reset every enable is clear and IRQ# is released (R166). -/
def Obligations.IrqFollowsFlags : Prop :=
  (∀ s t : State, s.IrqRight → step s = .next t → t.IrqRight) ∧
  (∀ s : State, s.IrqRight ↔
    (s.management.irq = true ↔
      ∃ b : Fin 14, s.management.flags.getLsbD b.val = true ∧ s.management.enables.getLsbD b.val = true)) ∧
  (∀ s : State, s.readItem 0x0018 = some (s.management.flags.setWidth 32)) ∧
  (∀ (s : State) (v : Event) (value : Word), s.TakesFrames →
    (raise v s).IrqRight ∧ (raise v s).management.enables = s.management.enables ∧
    (∃ t, exec (.eventFlagsWrite value) s = .next t ∧ t.IrqRight ∧ t.management.enables = s.management.enables ∧
      t.management.flags = s.management.flags &&& ~~~(value.extractLsb' 0 14)) ∧
    (∃ t, exec (.eventEnablesWrite value) s = .next t ∧ t.IrqRight ∧ t.management.flags = s.management.flags ∧
      t.management.enables = value.extractLsb' 0 14)) ∧
  (∀ (pfi : Bool) (straps : BitVec 2) (csLow : Bool) (queue : List Instr),
    let s := State.afterReset pfi straps csLow queue
    s.management.enables = 0#14 ∧ s.management.irq = false)

/-- Every step keeps the hold queue to 16 entries, the tag table to 256, the memory queue to 16, the error log to 8 and
the outstanding requests to 4, and keeps the ISSUED entries the oldest of the memory queue (R38, R54, R107, R108,
R167). -/
def Obligations.SizesKept : Prop :=
  (∀ s t : State, s.Bounded → step s = .next t → t.Bounded) ∧
  (∀ s t : State, s.IssueOrdered → step s = .next t → t.IssueOrdered)

/-- Every step keeps the counts of the journal right: the held entries and data writes outstanding of each live epoch
are the JOURNAL entries of the hold queue and the data writes of the memory queue that are its own, none of either
belongs to an epoch that is not live, each capture keeps the hold entry it serves until it ends or an ABORT takes the
entry, and what has drained stays drained while its marker is written (R10, R11, R12, R14, R44, R61, R67, R68, R77,
R91). The shape of the epoch table, the quiet of HALTED and the bounds of the journal are taken as `EpochShapeKept`,
`HaltedUntilReset` and `JournalBoundsKept` keep them: a marker is written only for a sequence that waits for it. -/
def Obligations.CountsKept : Prop :=
  ∀ s t : State, s.EpochShape → s.HaltQuiet → s.CountsRight → s.JournalBounds → step s = .next t → t.CountsRight

/-- Every step keeps used and promised slots within the journal size (R24), and what bounds the lists of the ring
manager and the capture unit: each promise is that of a READING capture (R25, R26), each read on the read list or in
the memory queue that of one such capture (R62), and the record writes those of the WRITING captures and of one marker
(R29). So promised is at most 4, the record write list holds at most 9 writes, and the read list at most 4 reads. The
shape of the epoch table, the quiet of HALTED and the counts are taken as `EpochShapeKept`, `HaltedUntilReset` and
`CountsKept` keep them. -/
def Obligations.JournalBoundsKept : Prop :=
  (∀ s t : State, s.EpochShape → s.HaltQuiet → s.CountsRight → s.JournalBounds → step s = .next t → t.JournalBounds) ∧
  ∀ s : State, s.HaltQuiet → s.JournalBounds →
    s.ring.used + s.ring.promised ≤ s.anchor.working.slots.toNat ∧ s.ring.promised ≤ 4 ∧ s.ring.writes.length ≤ 9 ∧
      s.capture.reads.length ≤ 4

/-- In HALTED no journal work is left or begun, in any block, and every step keeps it so; only a reset leaves HALTED,
and until then the cause stands (R154, R155). -/
def Obligations.HaltedUntilReset : Prop :=
  (∀ s t : State, s.HaltQuiet → step s = .next t → t.HaltQuiet) ∧
  (∀ s t : State, s.HaltQuiet → s.modes.mode = .halted → step s = .next t →
    (t.modes.mode = .halted ∧ t.modes.cause = s.modes.cause) ∨
      ∃ straps csLow rest, s.pending = .resetRelease straps csLow :: rest)

/-- Every step keeps the shape of the live epoch table that goes with the mode, and the sequences that go with it (R4,
R75, R82, R88, R98, R138). -/
def Obligations.EpochShapeKept : Prop :=
  ∀ s t : State, s.EpochShape → step s = .next t → t.EpochShape
end

