-- ==== Sys2Proof/Laws/Bits.lean ====
section
/-! SUPPORT. The bytes of a field, put together again, are the field (R171): what the statements about frames, records and
anchor copies rest on. -/

namespace Sys2Proof.Machine

/-- The four bytes of a word, most significant first, are the word. -/
theorem word_of_bytes (w : Word) :
    ((w.extractLsb' 24 8 ++ w.extractLsb' 16 8) ++ (w.extractLsb' 8 8 ++ w.extractLsb' 0 8) : BitVec 32) = w := by
  apply BitVec.eq_of_getLsbD_eq
  intro i hi
  simp only [BitVec.getLsbD_append, BitVec.getLsbD_extractLsb']
  interval_cases i <;> simp

/-- The two bytes of a 16-bit field, most significant first, are the field. -/
theorem half_of_bytes (w : BitVec 16) : (w.extractLsb' 8 8 ++ w.extractLsb' 0 8 : BitVec 16) = w := by
  apply BitVec.eq_of_getLsbD_eq
  intro i hi
  simp only [BitVec.getLsbD_append, BitVec.getLsbD_extractLsb']
  interval_cases i <;> simp

/-- The three bytes of a 24-bit field, most significant first, are the field. -/
theorem triple_of_bytes (w : BitVec 24) :
    ((w.extractLsb' 16 8 ++ w.extractLsb' 8 8) ++ w.extractLsb' 0 8 : BitVec 24) = w := by
  apply BitVec.eq_of_getLsbD_eq
  intro i hi
  simp only [BitVec.getLsbD_append, BitVec.getLsbD_extractLsb']
  interval_cases i <;> simp

/-- The data words of a frame are read back from their bytes. -/
theorem wordsOf_flatMap_be32 (ws : List Word) : wordsOf (ws.flatMap be32) = ws := by
  induction ws with
  | nil => rfl
  | cons w ws ih =>
    simp only [List.flatMap_cons, be32, List.cons_append, List.nil_append, wordsOf]
    rw [word_of_bytes w]
    exact congrArg (w :: ·) ih

/-- A data word takes four bytes of a frame. -/
theorem flatMap_be32_length (ws : List Word) : (ws.flatMap be32).length = 4 * ws.length := by
  induction ws with
  | nil => rfl
  | cons w ws ih => simp [be32, ih]; omega

/-- The kind byte of a record names its kind. -/
@[simp] theorem RecordKind.ofCode_code (k : RecordKind) : RecordKind.ofCode k.code = some k := by cases k <;> rfl

/-- A head prefix has 60 bytes. -/
@[simp] theorem recordPrefix_length (info : RecordInfo) (window : Byte) (ringId : Word) :
    (recordPrefix info window ringId).length = 60 := by
  simp [recordPrefix, le16, le32]

@[simp] theorem le16_length (w : BitVec 16) : (le16 w).length = 2 := rfl
@[simp] theorem le24_length (w : BitVec 24) : (le24 w).length = 3 := rfl
@[simp] theorem le32_length (w : Word) : (le32 w).length = 4 := rfl

/-- A window entry has 8 bytes. -/
@[simp] theorem Window.bytes_length (w : Window) : w.bytes.length = 8 := rfl

/-- The part of an anchor copy that its check covers has 124 bytes. -/
@[simp] theorem anchorPrefix_length (f : AnchorFields) : (anchorPrefix f).length = 124 := by
  unfold anchorPrefix
  simp only [List.length_append, Window.bytes_length, List.length_replicate, le16_length, le32_length, List.length_cons,
    List.length_nil]

end Sys2Proof.Machine
end

