-- ==== Sys2Proof/Laws/State.lean ====
section
/-! SUPPORT. One lemma per field per setter of State, true by unfolding the setter once. -/

namespace Sys2Proof.Machine

@[simp] theorem State.setPins_pending (s : State) (x : Pins) : (s.setPins x).pending = s.pending := rfl
@[simp] theorem State.setPins_pins (s : State) (x : Pins) : (s.setPins x).pins = x := rfl
@[simp] theorem State.setPins_modes (s : State) (x : Pins) : (s.setPins x).modes = s.modes := rfl
@[simp] theorem State.setPins_epochs (s : State) (x : Pins) : (s.setPins x).epochs = s.epochs := rfl
@[simp] theorem State.setPins_ring (s : State) (x : Pins) : (s.setPins x).ring = s.ring := rfl
@[simp] theorem State.setPins_hold (s : State) (x : Pins) : (s.setPins x).hold = s.hold := rfl
@[simp] theorem State.setPins_capture (s : State) (x : Pins) : (s.setPins x).capture = s.capture := rfl
@[simp] theorem State.setPins_replay (s : State) (x : Pins) : (s.setPins x).replay = s.replay := rfl
@[simp] theorem State.setPins_memory (s : State) (x : Pins) : (s.setPins x).memory = s.memory := rfl
@[simp] theorem State.setPins_host (s : State) (x : Pins) : (s.setPins x).host = s.host := rfl
@[simp] theorem State.setPins_anchor (s : State) (x : Pins) : (s.setPins x).anchor = s.anchor := rfl
@[simp] theorem State.setPins_management (s : State) (x : Pins) : (s.setPins x).management = s.management := rfl

@[simp] theorem State.setModes_pending (s : State) (x : ModeController) : (s.setModes x).pending = s.pending := rfl
@[simp] theorem State.setModes_pins (s : State) (x : ModeController) : (s.setModes x).pins = s.pins := rfl
@[simp] theorem State.setModes_modes (s : State) (x : ModeController) : (s.setModes x).modes = x := rfl
@[simp] theorem State.setModes_epochs (s : State) (x : ModeController) : (s.setModes x).epochs = s.epochs := rfl
@[simp] theorem State.setModes_ring (s : State) (x : ModeController) : (s.setModes x).ring = s.ring := rfl
@[simp] theorem State.setModes_hold (s : State) (x : ModeController) : (s.setModes x).hold = s.hold := rfl
@[simp] theorem State.setModes_capture (s : State) (x : ModeController) : (s.setModes x).capture = s.capture := rfl
@[simp] theorem State.setModes_replay (s : State) (x : ModeController) : (s.setModes x).replay = s.replay := rfl
@[simp] theorem State.setModes_memory (s : State) (x : ModeController) : (s.setModes x).memory = s.memory := rfl
@[simp] theorem State.setModes_host (s : State) (x : ModeController) : (s.setModes x).host = s.host := rfl
@[simp] theorem State.setModes_anchor (s : State) (x : ModeController) : (s.setModes x).anchor = s.anchor := rfl
@[simp] theorem State.setModes_management (s : State) (x : ModeController) : (s.setModes x).management = s.management := rfl

@[simp] theorem State.setEpochs_pending (s : State) (x : EpochController) : (s.setEpochs x).pending = s.pending := rfl
@[simp] theorem State.setEpochs_pins (s : State) (x : EpochController) : (s.setEpochs x).pins = s.pins := rfl
@[simp] theorem State.setEpochs_modes (s : State) (x : EpochController) : (s.setEpochs x).modes = s.modes := rfl
@[simp] theorem State.setEpochs_epochs (s : State) (x : EpochController) : (s.setEpochs x).epochs = x := rfl
@[simp] theorem State.setEpochs_ring (s : State) (x : EpochController) : (s.setEpochs x).ring = s.ring := rfl
@[simp] theorem State.setEpochs_hold (s : State) (x : EpochController) : (s.setEpochs x).hold = s.hold := rfl
@[simp] theorem State.setEpochs_capture (s : State) (x : EpochController) : (s.setEpochs x).capture = s.capture := rfl
@[simp] theorem State.setEpochs_replay (s : State) (x : EpochController) : (s.setEpochs x).replay = s.replay := rfl
@[simp] theorem State.setEpochs_memory (s : State) (x : EpochController) : (s.setEpochs x).memory = s.memory := rfl
@[simp] theorem State.setEpochs_host (s : State) (x : EpochController) : (s.setEpochs x).host = s.host := rfl
@[simp] theorem State.setEpochs_anchor (s : State) (x : EpochController) : (s.setEpochs x).anchor = s.anchor := rfl
@[simp] theorem State.setEpochs_management (s : State) (x : EpochController) : (s.setEpochs x).management = s.management := rfl

@[simp] theorem State.setRing_pending (s : State) (x : RingManager) : (s.setRing x).pending = s.pending := rfl
@[simp] theorem State.setRing_pins (s : State) (x : RingManager) : (s.setRing x).pins = s.pins := rfl
@[simp] theorem State.setRing_modes (s : State) (x : RingManager) : (s.setRing x).modes = s.modes := rfl
@[simp] theorem State.setRing_epochs (s : State) (x : RingManager) : (s.setRing x).epochs = s.epochs := rfl
@[simp] theorem State.setRing_ring (s : State) (x : RingManager) : (s.setRing x).ring = x := rfl
@[simp] theorem State.setRing_hold (s : State) (x : RingManager) : (s.setRing x).hold = s.hold := rfl
@[simp] theorem State.setRing_capture (s : State) (x : RingManager) : (s.setRing x).capture = s.capture := rfl
@[simp] theorem State.setRing_replay (s : State) (x : RingManager) : (s.setRing x).replay = s.replay := rfl
@[simp] theorem State.setRing_memory (s : State) (x : RingManager) : (s.setRing x).memory = s.memory := rfl
@[simp] theorem State.setRing_host (s : State) (x : RingManager) : (s.setRing x).host = s.host := rfl
@[simp] theorem State.setRing_anchor (s : State) (x : RingManager) : (s.setRing x).anchor = s.anchor := rfl
@[simp] theorem State.setRing_management (s : State) (x : RingManager) : (s.setRing x).management = s.management := rfl

@[simp] theorem State.setHold_pending (s : State) (x : HoldQueue) : (s.setHold x).pending = s.pending := rfl
@[simp] theorem State.setHold_pins (s : State) (x : HoldQueue) : (s.setHold x).pins = s.pins := rfl
@[simp] theorem State.setHold_modes (s : State) (x : HoldQueue) : (s.setHold x).modes = s.modes := rfl
@[simp] theorem State.setHold_epochs (s : State) (x : HoldQueue) : (s.setHold x).epochs = s.epochs := rfl
@[simp] theorem State.setHold_ring (s : State) (x : HoldQueue) : (s.setHold x).ring = s.ring := rfl
@[simp] theorem State.setHold_hold (s : State) (x : HoldQueue) : (s.setHold x).hold = x := rfl
@[simp] theorem State.setHold_capture (s : State) (x : HoldQueue) : (s.setHold x).capture = s.capture := rfl
@[simp] theorem State.setHold_replay (s : State) (x : HoldQueue) : (s.setHold x).replay = s.replay := rfl
@[simp] theorem State.setHold_memory (s : State) (x : HoldQueue) : (s.setHold x).memory = s.memory := rfl
@[simp] theorem State.setHold_host (s : State) (x : HoldQueue) : (s.setHold x).host = s.host := rfl
@[simp] theorem State.setHold_anchor (s : State) (x : HoldQueue) : (s.setHold x).anchor = s.anchor := rfl
@[simp] theorem State.setHold_management (s : State) (x : HoldQueue) : (s.setHold x).management = s.management := rfl

@[simp] theorem State.setCapture_pending (s : State) (x : CaptureUnit) : (s.setCapture x).pending = s.pending := rfl
@[simp] theorem State.setCapture_pins (s : State) (x : CaptureUnit) : (s.setCapture x).pins = s.pins := rfl
@[simp] theorem State.setCapture_modes (s : State) (x : CaptureUnit) : (s.setCapture x).modes = s.modes := rfl
@[simp] theorem State.setCapture_epochs (s : State) (x : CaptureUnit) : (s.setCapture x).epochs = s.epochs := rfl
@[simp] theorem State.setCapture_ring (s : State) (x : CaptureUnit) : (s.setCapture x).ring = s.ring := rfl
@[simp] theorem State.setCapture_hold (s : State) (x : CaptureUnit) : (s.setCapture x).hold = s.hold := rfl
@[simp] theorem State.setCapture_capture (s : State) (x : CaptureUnit) : (s.setCapture x).capture = x := rfl
@[simp] theorem State.setCapture_replay (s : State) (x : CaptureUnit) : (s.setCapture x).replay = s.replay := rfl
@[simp] theorem State.setCapture_memory (s : State) (x : CaptureUnit) : (s.setCapture x).memory = s.memory := rfl
@[simp] theorem State.setCapture_host (s : State) (x : CaptureUnit) : (s.setCapture x).host = s.host := rfl
@[simp] theorem State.setCapture_anchor (s : State) (x : CaptureUnit) : (s.setCapture x).anchor = s.anchor := rfl
@[simp] theorem State.setCapture_management (s : State) (x : CaptureUnit) : (s.setCapture x).management = s.management := rfl

@[simp] theorem State.setReplay_pending (s : State) (x : ReplayEngine) : (s.setReplay x).pending = s.pending := rfl
@[simp] theorem State.setReplay_pins (s : State) (x : ReplayEngine) : (s.setReplay x).pins = s.pins := rfl
@[simp] theorem State.setReplay_modes (s : State) (x : ReplayEngine) : (s.setReplay x).modes = s.modes := rfl
@[simp] theorem State.setReplay_epochs (s : State) (x : ReplayEngine) : (s.setReplay x).epochs = s.epochs := rfl
@[simp] theorem State.setReplay_ring (s : State) (x : ReplayEngine) : (s.setReplay x).ring = s.ring := rfl
@[simp] theorem State.setReplay_hold (s : State) (x : ReplayEngine) : (s.setReplay x).hold = s.hold := rfl
@[simp] theorem State.setReplay_capture (s : State) (x : ReplayEngine) : (s.setReplay x).capture = s.capture := rfl
@[simp] theorem State.setReplay_replay (s : State) (x : ReplayEngine) : (s.setReplay x).replay = x := rfl
@[simp] theorem State.setReplay_memory (s : State) (x : ReplayEngine) : (s.setReplay x).memory = s.memory := rfl
@[simp] theorem State.setReplay_host (s : State) (x : ReplayEngine) : (s.setReplay x).host = s.host := rfl
@[simp] theorem State.setReplay_anchor (s : State) (x : ReplayEngine) : (s.setReplay x).anchor = s.anchor := rfl
@[simp] theorem State.setReplay_management (s : State) (x : ReplayEngine) : (s.setReplay x).management = s.management := rfl

@[simp] theorem State.setMemory_pending (s : State) (x : MemoryPort) : (s.setMemory x).pending = s.pending := rfl
@[simp] theorem State.setMemory_pins (s : State) (x : MemoryPort) : (s.setMemory x).pins = s.pins := rfl
@[simp] theorem State.setMemory_modes (s : State) (x : MemoryPort) : (s.setMemory x).modes = s.modes := rfl
@[simp] theorem State.setMemory_epochs (s : State) (x : MemoryPort) : (s.setMemory x).epochs = s.epochs := rfl
@[simp] theorem State.setMemory_ring (s : State) (x : MemoryPort) : (s.setMemory x).ring = s.ring := rfl
@[simp] theorem State.setMemory_hold (s : State) (x : MemoryPort) : (s.setMemory x).hold = s.hold := rfl
@[simp] theorem State.setMemory_capture (s : State) (x : MemoryPort) : (s.setMemory x).capture = s.capture := rfl
@[simp] theorem State.setMemory_replay (s : State) (x : MemoryPort) : (s.setMemory x).replay = s.replay := rfl
@[simp] theorem State.setMemory_memory (s : State) (x : MemoryPort) : (s.setMemory x).memory = x := rfl
@[simp] theorem State.setMemory_host (s : State) (x : MemoryPort) : (s.setMemory x).host = s.host := rfl
@[simp] theorem State.setMemory_anchor (s : State) (x : MemoryPort) : (s.setMemory x).anchor = s.anchor := rfl
@[simp] theorem State.setMemory_management (s : State) (x : MemoryPort) : (s.setMemory x).management = s.management := rfl

@[simp] theorem State.setHost_pending (s : State) (x : HostPort) : (s.setHost x).pending = s.pending := rfl
@[simp] theorem State.setHost_pins (s : State) (x : HostPort) : (s.setHost x).pins = s.pins := rfl
@[simp] theorem State.setHost_modes (s : State) (x : HostPort) : (s.setHost x).modes = s.modes := rfl
@[simp] theorem State.setHost_epochs (s : State) (x : HostPort) : (s.setHost x).epochs = s.epochs := rfl
@[simp] theorem State.setHost_ring (s : State) (x : HostPort) : (s.setHost x).ring = s.ring := rfl
@[simp] theorem State.setHost_hold (s : State) (x : HostPort) : (s.setHost x).hold = s.hold := rfl
@[simp] theorem State.setHost_capture (s : State) (x : HostPort) : (s.setHost x).capture = s.capture := rfl
@[simp] theorem State.setHost_replay (s : State) (x : HostPort) : (s.setHost x).replay = s.replay := rfl
@[simp] theorem State.setHost_memory (s : State) (x : HostPort) : (s.setHost x).memory = s.memory := rfl
@[simp] theorem State.setHost_host (s : State) (x : HostPort) : (s.setHost x).host = x := rfl
@[simp] theorem State.setHost_anchor (s : State) (x : HostPort) : (s.setHost x).anchor = s.anchor := rfl
@[simp] theorem State.setHost_management (s : State) (x : HostPort) : (s.setHost x).management = s.management := rfl

@[simp] theorem State.setAnchor_pending (s : State) (x : AnchorUnit) : (s.setAnchor x).pending = s.pending := rfl
@[simp] theorem State.setAnchor_pins (s : State) (x : AnchorUnit) : (s.setAnchor x).pins = s.pins := rfl
@[simp] theorem State.setAnchor_modes (s : State) (x : AnchorUnit) : (s.setAnchor x).modes = s.modes := rfl
@[simp] theorem State.setAnchor_epochs (s : State) (x : AnchorUnit) : (s.setAnchor x).epochs = s.epochs := rfl
@[simp] theorem State.setAnchor_ring (s : State) (x : AnchorUnit) : (s.setAnchor x).ring = s.ring := rfl
@[simp] theorem State.setAnchor_hold (s : State) (x : AnchorUnit) : (s.setAnchor x).hold = s.hold := rfl
@[simp] theorem State.setAnchor_capture (s : State) (x : AnchorUnit) : (s.setAnchor x).capture = s.capture := rfl
@[simp] theorem State.setAnchor_replay (s : State) (x : AnchorUnit) : (s.setAnchor x).replay = s.replay := rfl
@[simp] theorem State.setAnchor_memory (s : State) (x : AnchorUnit) : (s.setAnchor x).memory = s.memory := rfl
@[simp] theorem State.setAnchor_host (s : State) (x : AnchorUnit) : (s.setAnchor x).host = s.host := rfl
@[simp] theorem State.setAnchor_anchor (s : State) (x : AnchorUnit) : (s.setAnchor x).anchor = x := rfl
@[simp] theorem State.setAnchor_management (s : State) (x : AnchorUnit) : (s.setAnchor x).management = s.management := rfl

@[simp] theorem State.setManagement_pending (s : State) (x : ManagementPort) : (s.setManagement x).pending = s.pending := rfl
@[simp] theorem State.setManagement_pins (s : State) (x : ManagementPort) : (s.setManagement x).pins = s.pins := rfl
@[simp] theorem State.setManagement_modes (s : State) (x : ManagementPort) : (s.setManagement x).modes = s.modes := rfl
@[simp] theorem State.setManagement_epochs (s : State) (x : ManagementPort) : (s.setManagement x).epochs = s.epochs := rfl
@[simp] theorem State.setManagement_ring (s : State) (x : ManagementPort) : (s.setManagement x).ring = s.ring := rfl
@[simp] theorem State.setManagement_hold (s : State) (x : ManagementPort) : (s.setManagement x).hold = s.hold := rfl
@[simp] theorem State.setManagement_capture (s : State) (x : ManagementPort) : (s.setManagement x).capture = s.capture := rfl
@[simp] theorem State.setManagement_replay (s : State) (x : ManagementPort) : (s.setManagement x).replay = s.replay := rfl
@[simp] theorem State.setManagement_memory (s : State) (x : ManagementPort) : (s.setManagement x).memory = s.memory := rfl
@[simp] theorem State.setManagement_host (s : State) (x : ManagementPort) : (s.setManagement x).host = s.host := rfl
@[simp] theorem State.setManagement_anchor (s : State) (x : ManagementPort) : (s.setManagement x).anchor = s.anchor := rfl
@[simp] theorem State.setManagement_management (s : State) (x : ManagementPort) : (s.setManagement x).management = x := rfl

@[simp] theorem State.setTable_pending (s : State) (x : EpochTable) : (s.setTable x).pending = s.pending := rfl
@[simp] theorem State.setTable_pins (s : State) (x : EpochTable) : (s.setTable x).pins = s.pins := rfl
@[simp] theorem State.setTable_modes (s : State) (x : EpochTable) : (s.setTable x).modes = s.modes := rfl
@[simp] theorem State.setTable_epochs (s : State) (x : EpochTable) : (s.setTable x).epochs = { s.epochs with table := x } := rfl
@[simp] theorem State.setTable_ring (s : State) (x : EpochTable) : (s.setTable x).ring = s.ring := rfl
@[simp] theorem State.setTable_hold (s : State) (x : EpochTable) : (s.setTable x).hold = s.hold := rfl
@[simp] theorem State.setTable_capture (s : State) (x : EpochTable) : (s.setTable x).capture = s.capture := rfl
@[simp] theorem State.setTable_replay (s : State) (x : EpochTable) : (s.setTable x).replay = s.replay := rfl
@[simp] theorem State.setTable_memory (s : State) (x : EpochTable) : (s.setTable x).memory = s.memory := rfl
@[simp] theorem State.setTable_host (s : State) (x : EpochTable) : (s.setTable x).host = s.host := rfl
@[simp] theorem State.setTable_anchor (s : State) (x : EpochTable) : (s.setTable x).anchor = s.anchor := rfl
@[simp] theorem State.setTable_management (s : State) (x : EpochTable) : (s.setTable x).management = s.management := rfl

@[simp] theorem State.setRollback_pending (s : State) (x : Option Rollback) : (s.setRollback x).pending = s.pending := rfl
@[simp] theorem State.setRollback_pins (s : State) (x : Option Rollback) : (s.setRollback x).pins = s.pins := rfl
@[simp] theorem State.setRollback_modes (s : State) (x : Option Rollback) : (s.setRollback x).modes = s.modes := rfl
@[simp] theorem State.setRollback_epochs (s : State) (x : Option Rollback) : (s.setRollback x).epochs = s.epochs := rfl
@[simp] theorem State.setRollback_ring (s : State) (x : Option Rollback) : (s.setRollback x).ring = s.ring := rfl
@[simp] theorem State.setRollback_hold (s : State) (x : Option Rollback) : (s.setRollback x).hold = s.hold := rfl
@[simp] theorem State.setRollback_capture (s : State) (x : Option Rollback) : (s.setRollback x).capture = s.capture := rfl
@[simp] theorem State.setRollback_replay (s : State) (x : Option Rollback) : (s.setRollback x).replay = { s.replay with rollback := x } := rfl
@[simp] theorem State.setRollback_memory (s : State) (x : Option Rollback) : (s.setRollback x).memory = s.memory := rfl
@[simp] theorem State.setRollback_host (s : State) (x : Option Rollback) : (s.setRollback x).host = s.host := rfl
@[simp] theorem State.setRollback_anchor (s : State) (x : Option Rollback) : (s.setRollback x).anchor = s.anchor := rfl
@[simp] theorem State.setRollback_management (s : State) (x : Option Rollback) : (s.setRollback x).management = s.management := rfl

end Sys2Proof.Machine
end

