-- ==== Sys2Proof/Laws/Untouched.lean ====
section
/-! SUPPORT. For each shared operation, the blocks of State it never touches; simp reads each conjunct as a rewrite. -/

namespace Sys2Proof.Machine

@[simp] theorem raise_untouched (e : Event) (s : State) :
    (raise e s).pending = s.pending ∧ (raise e s).pins = s.pins ∧ (raise e s).modes = s.modes ∧
    (raise e s).epochs = s.epochs ∧ (raise e s).ring = s.ring ∧ (raise e s).hold = s.hold ∧
    (raise e s).capture = s.capture ∧ (raise e s).replay = s.replay ∧ (raise e s).memory = s.memory ∧
    (raise e s).host = s.host ∧ (raise e s).anchor = s.anchor := by
  simp [raise]

@[simp] theorem bump_untouched (c : Counter) (s : State) :
    (bump c s).pending = s.pending ∧ (bump c s).pins = s.pins ∧ (bump c s).modes = s.modes ∧
    (bump c s).epochs = s.epochs ∧ (bump c s).ring = s.ring ∧ (bump c s).hold = s.hold ∧
    (bump c s).capture = s.capture ∧ (bump c s).replay = s.replay ∧ (bump c s).memory = s.memory ∧
    (bump c s).host = s.host ∧ (bump c s).anchor = s.anchor := by
  simp [bump]

@[simp] theorem logError_untouched (k : ErrorKind) (e l : Option Word) (n : Option Nat) (s : State) :
    (logError k e l n s).pending = s.pending ∧ (logError k e l n s).pins = s.pins ∧
    (logError k e l n s).modes = s.modes ∧ (logError k e l n s).epochs = s.epochs ∧
    (logError k e l n s).ring = s.ring ∧ (logError k e l n s).hold = s.hold ∧
    (logError k e l n s).capture = s.capture ∧ (logError k e l n s).replay = s.replay ∧
    (logError k e l n s).memory = s.memory ∧ (logError k e l n s).host = s.host ∧
    (logError k e l n s).anchor = s.anchor := by
  simp [logError]

@[simp] theorem enqueue_untouched (e : MemoryEntry) (s : State) :
    (enqueue e s).pending = s.pending ∧ (enqueue e s).pins = s.pins ∧ (enqueue e s).modes = s.modes ∧
    (enqueue e s).epochs = s.epochs ∧ (enqueue e s).ring = s.ring ∧ (enqueue e s).hold = s.hold ∧
    (enqueue e s).capture = s.capture ∧ (enqueue e s).replay = s.replay ∧ (enqueue e s).host = s.host ∧
    (enqueue e s).anchor = s.anchor ∧ (enqueue e s).management = s.management := by
  simp [enqueue]

@[simp] theorem dropOldest_untouched (s : State) :
    (dropOldest s).pending = s.pending ∧ (dropOldest s).pins = s.pins ∧ (dropOldest s).modes = s.modes ∧
    (dropOldest s).epochs = s.epochs ∧ (dropOldest s).ring = s.ring ∧ (dropOldest s).hold = s.hold ∧
    (dropOldest s).capture = s.capture ∧ (dropOldest s).replay = s.replay ∧ (dropOldest s).host = s.host ∧
    (dropOldest s).anchor = s.anchor ∧ (dropOldest s).management = s.management := by
  simp [dropOldest]

@[simp] theorem openEpoch_untouched (n : Word) (s : State) :
    (openEpoch n s).pending = s.pending ∧ (openEpoch n s).pins = s.pins ∧ (openEpoch n s).modes = s.modes ∧
    (openEpoch n s).ring = s.ring ∧ (openEpoch n s).hold = s.hold ∧ (openEpoch n s).capture = s.capture ∧
    (openEpoch n s).replay = s.replay ∧ (openEpoch n s).memory = s.memory ∧ (openEpoch n s).host = s.host ∧
    (openEpoch n s).anchor = s.anchor ∧ (openEpoch n s).management = s.management := by
  simp [openEpoch]

@[simp] theorem elapse_untouched (d : Nat) (s : State) :
    (elapse d s).pending = s.pending ∧ (elapse d s).modes = s.modes ∧ (elapse d s).ring = s.ring ∧
    (elapse d s).hold = s.hold ∧ (elapse d s).capture = s.capture ∧ (elapse d s).replay = s.replay ∧
    (elapse d s).memory = s.memory ∧ (elapse d s).anchor = s.anchor ∧
    (elapse d s).management = s.management := by
  unfold elapse; (repeat' split) <;> simp

@[simp] theorem elapseTo_untouched (d : Nat) (s : State) :
    (elapseTo d s).pending = s.pending ∧ (elapseTo d s).modes = s.modes ∧ (elapseTo d s).ring = s.ring ∧
    (elapseTo d s).hold = s.hold ∧ (elapseTo d s).capture = s.capture ∧ (elapseTo d s).replay = s.replay ∧
    (elapseTo d s).memory = s.memory ∧ (elapseTo d s).anchor = s.anchor ∧
    (elapseTo d s).management = s.management := by
  simp [elapseTo]

@[simp] theorem answerHost_untouched (a : HostAnswer) (s : State) :
    (answerHost a s).pending = s.pending ∧ (answerHost a s).pins = s.pins ∧ (answerHost a s).modes = s.modes ∧
    (answerHost a s).epochs = s.epochs ∧ (answerHost a s).ring = s.ring ∧ (answerHost a s).hold = s.hold ∧
    (answerHost a s).capture = s.capture ∧ (answerHost a s).replay = s.replay ∧
    (answerHost a s).memory = s.memory ∧ (answerHost a s).anchor = s.anchor := by
  unfold answerHost; (repeat' split) <;> simp

@[simp] theorem answerRead_untouched (d : List Byte) (s : State) :
    (answerRead d s).pending = s.pending ∧ (answerRead d s).pins = s.pins ∧ (answerRead d s).modes = s.modes ∧
    (answerRead d s).epochs = s.epochs ∧ (answerRead d s).ring = s.ring ∧ (answerRead d s).hold = s.hold ∧
    (answerRead d s).capture = s.capture ∧ (answerRead d s).replay = s.replay ∧
    (answerRead d s).memory = s.memory ∧ (answerRead d s).anchor = s.anchor := by
  simp [answerRead]

@[simp] theorem ownCurrentRead_untouched (o : ReadOwner) (s : State) :
    (ownCurrentRead o s).pending = s.pending ∧ (ownCurrentRead o s).pins = s.pins ∧
    (ownCurrentRead o s).modes = s.modes ∧ (ownCurrentRead o s).epochs = s.epochs ∧
    (ownCurrentRead o s).ring = s.ring ∧ (ownCurrentRead o s).hold = s.hold ∧
    (ownCurrentRead o s).capture = s.capture ∧ (ownCurrentRead o s).replay = s.replay ∧
    (ownCurrentRead o s).host = s.host ∧ (ownCurrentRead o s).anchor = s.anchor ∧
    (ownCurrentRead o s).management = s.management := by
  simp [ownCurrentRead]

@[simp] theorem answerWaiting_untouched (a : HostAnswer) (s : State) :
    (answerWaiting a s).pending = s.pending ∧ (answerWaiting a s).pins = s.pins ∧
    (answerWaiting a s).modes = s.modes ∧ (answerWaiting a s).epochs = s.epochs ∧
    (answerWaiting a s).ring = s.ring ∧ (answerWaiting a s).hold = s.hold ∧
    (answerWaiting a s).capture = s.capture ∧ (answerWaiting a s).replay = s.replay ∧
    (answerWaiting a s).anchor = s.anchor := by
  simp [answerWaiting]

@[simp] theorem abandonFetch_untouched (i : Fin 4) (s : State) :
    (abandonFetch i s).pending = s.pending ∧ (abandonFetch i s).pins = s.pins ∧
    (abandonFetch i s).modes = s.modes ∧ (abandonFetch i s).epochs = s.epochs ∧
    (abandonFetch i s).ring = s.ring ∧ (abandonFetch i s).hold = s.hold ∧
    (abandonFetch i s).capture = s.capture ∧ (abandonFetch i s).replay = s.replay ∧
    (abandonFetch i s).host = s.host ∧ (abandonFetch i s).anchor = s.anchor ∧
    (abandonFetch i s).management = s.management := by
  simp [abandonFetch]

@[simp] theorem discardSlot_untouched (i : Fin 4) (s : State) :
    (discardSlot i s).pending = s.pending ∧ (discardSlot i s).pins = s.pins ∧
    (discardSlot i s).modes = s.modes ∧ (discardSlot i s).epochs = s.epochs ∧ (discardSlot i s).ring = s.ring ∧
    (discardSlot i s).hold = s.hold ∧ (discardSlot i s).capture = s.capture ∧
    (discardSlot i s).replay = s.replay ∧ (discardSlot i s).anchor = s.anchor := by
  unfold discardSlot; (repeat' split) <;> simp

@[simp] theorem discardIf_untouched (p : Deferred → Bool) (i : Fin 4) (s : State) :
    (discardIf p i s).pending = s.pending ∧ (discardIf p i s).pins = s.pins ∧
    (discardIf p i s).modes = s.modes ∧ (discardIf p i s).epochs = s.epochs ∧ (discardIf p i s).ring = s.ring ∧
    (discardIf p i s).hold = s.hold ∧ (discardIf p i s).capture = s.capture ∧
    (discardIf p i s).replay = s.replay ∧ (discardIf p i s).anchor = s.anchor := by
  unfold discardIf; (repeat' split) <;> simp

@[simp] theorem discardDeferred_untouched (p : Deferred → Bool) (s : State) :
    (discardDeferred p s).pending = s.pending ∧ (discardDeferred p s).pins = s.pins ∧
    (discardDeferred p s).modes = s.modes ∧ (discardDeferred p s).epochs = s.epochs ∧
    (discardDeferred p s).ring = s.ring ∧ (discardDeferred p s).hold = s.hold ∧
    (discardDeferred p s).capture = s.capture ∧ (discardDeferred p s).replay = s.replay ∧
    (discardDeferred p s).anchor = s.anchor := by
  simp [discardDeferred]

@[simp] theorem serveDeferred_untouched (i : Fin 4) (d : List Byte) (s : State) :
    (serveDeferred i d s).pending = s.pending ∧ (serveDeferred i d s).pins = s.pins ∧
    (serveDeferred i d s).modes = s.modes ∧ (serveDeferred i d s).epochs = s.epochs ∧
    (serveDeferred i d s).ring = s.ring ∧ (serveDeferred i d s).hold = s.hold ∧
    (serveDeferred i d s).capture = s.capture ∧ (serveDeferred i d s).replay = s.replay ∧
    (serveDeferred i d s).memory = s.memory ∧ (serveDeferred i d s).anchor = s.anchor := by
  simp [serveDeferred]

@[simp] theorem fetchDone_untouched (i : Fin 4) (d : List Byte) (s : State) :
    (fetchDone i d s).pending = s.pending ∧ (fetchDone i d s).pins = s.pins ∧
    (fetchDone i d s).modes = s.modes ∧ (fetchDone i d s).epochs = s.epochs ∧ (fetchDone i d s).ring = s.ring ∧
    (fetchDone i d s).hold = s.hold ∧ (fetchDone i d s).capture = s.capture ∧
    (fetchDone i d s).replay = s.replay ∧ (fetchDone i d s).memory = s.memory ∧
    (fetchDone i d s).anchor = s.anchor := by
  unfold fetchDone; (repeat' split) <;> simp

@[simp] theorem fetchFaulted_untouched (i : Fin 4) (s : State) :
    (fetchFaulted i s).pending = s.pending ∧ (fetchFaulted i s).pins = s.pins ∧
    (fetchFaulted i s).modes = s.modes ∧ (fetchFaulted i s).epochs = s.epochs ∧
    (fetchFaulted i s).ring = s.ring ∧ (fetchFaulted i s).hold = s.hold ∧
    (fetchFaulted i s).capture = s.capture ∧ (fetchFaulted i s).replay = s.replay ∧
    (fetchFaulted i s).anchor = s.anchor := by
  unfold fetchFaulted; (repeat' split) <;> simp

@[simp] theorem fetchAnswered_untouched (i : Fin 4) (a : ReadAnswer) (s : State) :
    (fetchAnswered i a s).pending = s.pending ∧ (fetchAnswered i a s).pins = s.pins ∧
    (fetchAnswered i a s).modes = s.modes ∧ (fetchAnswered i a s).epochs = s.epochs ∧
    (fetchAnswered i a s).ring = s.ring ∧ (fetchAnswered i a s).hold = s.hold ∧
    (fetchAnswered i a s).capture = s.capture ∧ (fetchAnswered i a s).replay = s.replay ∧
    (fetchAnswered i a s).anchor = s.anchor := by
  unfold fetchAnswered; (repeat' split) <;> simp

@[simp] theorem currentReadAnswered_untouched (a : ReadAnswer) (s : State) :
    (currentReadAnswered a s).pending = s.pending ∧ (currentReadAnswered a s).pins = s.pins ∧
    (currentReadAnswered a s).modes = s.modes ∧ (currentReadAnswered a s).epochs = s.epochs ∧
    (currentReadAnswered a s).ring = s.ring ∧ (currentReadAnswered a s).hold = s.hold ∧
    (currentReadAnswered a s).capture = s.capture ∧ (currentReadAnswered a s).replay = s.replay ∧
    (currentReadAnswered a s).memory = s.memory ∧ (currentReadAnswered a s).anchor = s.anchor := by
  unfold currentReadAnswered; (repeat' split) <;> simp

@[simp] theorem hostReadAnswered_untouched (o : ReadOwner) (a : ReadAnswer) (s : State) :
    (hostReadAnswered o a s).pending = s.pending ∧ (hostReadAnswered o a s).pins = s.pins ∧
    (hostReadAnswered o a s).modes = s.modes ∧ (hostReadAnswered o a s).epochs = s.epochs ∧
    (hostReadAnswered o a s).ring = s.ring ∧ (hostReadAnswered o a s).hold = s.hold ∧
    (hostReadAnswered o a s).capture = s.capture ∧ (hostReadAnswered o a s).replay = s.replay ∧
    (hostReadAnswered o a s).anchor = s.anchor := by
  unfold hostReadAnswered; (repeat' split) <;> simp

@[simp] theorem keepRead_untouched (r : HostRequest) (g : FetchStage) (s : State) :
    (keepRead r g s).pending = s.pending ∧ (keepRead r g s).pins = s.pins ∧ (keepRead r g s).modes = s.modes ∧
    (keepRead r g s).epochs = s.epochs ∧ (keepRead r g s).ring = s.ring ∧ (keepRead r g s).hold = s.hold ∧
    (keepRead r g s).capture = s.capture ∧ (keepRead r g s).replay = s.replay ∧
    (keepRead r g s).anchor = s.anchor ∧ (keepRead r g s).management = s.management := by
  unfold keepRead; (repeat' split) <;> simp

@[simp] theorem expireRequest_untouched (r : HostRequest) (s : State) :
    (expireRequest r s).pending = s.pending ∧ (expireRequest r s).pins = s.pins ∧
    (expireRequest r s).modes = s.modes ∧ (expireRequest r s).epochs = s.epochs ∧
    (expireRequest r s).ring = s.ring ∧ (expireRequest r s).hold = s.hold ∧
    (expireRequest r s).capture = s.capture ∧ (expireRequest r s).replay = s.replay ∧
    (expireRequest r s).anchor = s.anchor := by
  unfold expireRequest; (repeat' split) <;> simp

@[simp] theorem beginWait_untouched (r : HostRequest) (s : State) :
    (beginWait r s).pending = s.pending ∧ (beginWait r s).pins = s.pins ∧ (beginWait r s).modes = s.modes ∧
    (beginWait r s).epochs = s.epochs ∧ (beginWait r s).ring = s.ring ∧ (beginWait r s).hold = s.hold ∧
    (beginWait r s).capture = s.capture ∧ (beginWait r s).replay = s.replay ∧
    (beginWait r s).anchor = s.anchor := by
  unfold beginWait; (repeat' split) <;> simp

@[simp] theorem appendHold_untouched (e : HoldEntry) (s : State) :
    (appendHold e s).pending = s.pending ∧ (appendHold e s).pins = s.pins ∧ (appendHold e s).modes = s.modes ∧
    (appendHold e s).epochs = s.epochs ∧ (appendHold e s).ring = s.ring ∧ (appendHold e s).capture = s.capture ∧
    (appendHold e s).replay = s.replay ∧ (appendHold e s).memory = s.memory ∧ (appendHold e s).host = s.host ∧
    (appendHold e s).anchor = s.anchor ∧ (appendHold e s).management = s.management := by
  simp [appendHold]

@[simp] theorem takePass_untouched (r : HostRequest) (s : State) :
    (takePass r s).pending = s.pending ∧ (takePass r s).pins = s.pins ∧ (takePass r s).modes = s.modes ∧
    (takePass r s).epochs = s.epochs ∧ (takePass r s).ring = s.ring ∧ (takePass r s).capture = s.capture ∧
    (takePass r s).replay = s.replay ∧ (takePass r s).memory = s.memory ∧ (takePass r s).host = s.host ∧
    (takePass r s).anchor = s.anchor ∧ (takePass r s).management = s.management := by
  simp [takePass]

@[simp] theorem takeJournal_untouched (r : HostRequest) (w : Fin 8) (n : Word) (s : State) :
    (takeJournal r w n s).pending = s.pending ∧ (takeJournal r w n s).pins = s.pins ∧
    (takeJournal r w n s).modes = s.modes ∧ (takeJournal r w n s).ring = s.ring ∧
    (takeJournal r w n s).replay = s.replay ∧ (takeJournal r w n s).memory = s.memory ∧
    (takeJournal r w n s).host = s.host ∧ (takeJournal r w n s).anchor = s.anchor := by
  dsimp only [takeJournal]; (repeat' split) <;> simp

@[simp] theorem takeWrite_untouched (r : HostRequest) (j : Bool) (s : State) :
    (takeWrite r j s).pending = s.pending ∧ (takeWrite r j s).pins = s.pins ∧
    (takeWrite r j s).modes = s.modes ∧ (takeWrite r j s).ring = s.ring ∧ (takeWrite r j s).replay = s.replay ∧
    (takeWrite r j s).anchor = s.anchor := by
  dsimp only [takeWrite]; (repeat' split) <;> simp

@[simp] theorem offerWrite_untouched (r : HostRequest) (j : Bool) (s : State) :
    (offerWrite r j s).pending = s.pending ∧ (offerWrite r j s).pins = s.pins ∧
    (offerWrite r j s).modes = s.modes ∧ (offerWrite r j s).ring = s.ring ∧
    (offerWrite r j s).replay = s.replay ∧ (offerWrite r j s).anchor = s.anchor := by
  unfold offerWrite; (repeat' split) <;> simp

@[simp] theorem startRead_untouched (r : HostRequest) (s : State) :
    (startRead r s).pending = s.pending ∧ (startRead r s).pins = s.pins ∧ (startRead r s).modes = s.modes ∧
    (startRead r s).epochs = s.epochs ∧ (startRead r s).ring = s.ring ∧ (startRead r s).hold = s.hold ∧
    (startRead r s).capture = s.capture ∧ (startRead r s).replay = s.replay ∧
    (startRead r s).anchor = s.anchor := by
  unfold startRead; (repeat' split) <;> simp

@[simp] theorem rejudge_untouched (s : State) :
    (rejudge s).pending = s.pending ∧ (rejudge s).pins = s.pins ∧ (rejudge s).modes = s.modes ∧
    (rejudge s).epochs = s.epochs ∧ (rejudge s).ring = s.ring ∧ (rejudge s).hold = s.hold ∧
    (rejudge s).capture = s.capture ∧ (rejudge s).replay = s.replay ∧ (rejudge s).anchor = s.anchor := by
  unfold rejudge; (repeat' split) <;> simp

@[simp] theorem reclassify_untouched (s : State) :
    (reclassify s).pending = s.pending ∧ (reclassify s).pins = s.pins ∧ (reclassify s).modes = s.modes ∧
    (reclassify s).epochs = s.epochs ∧ (reclassify s).ring = s.ring ∧ (reclassify s).hold = s.hold ∧
    (reclassify s).capture = s.capture ∧ (reclassify s).replay = s.replay ∧
    (reclassify s).anchor = s.anchor := by
  unfold reclassify; (repeat' split) <;> simp

@[simp] theorem startAnchorWrite_untouched (k : AnchorWriteKind) (f : AnchorFields) (s : State) :
    (startAnchorWrite k f s).pending = s.pending ∧ (startAnchorWrite k f s).pins = s.pins ∧
    (startAnchorWrite k f s).modes = s.modes ∧ (startAnchorWrite k f s).epochs = s.epochs ∧
    (startAnchorWrite k f s).ring = s.ring ∧ (startAnchorWrite k f s).hold = s.hold ∧
    (startAnchorWrite k f s).capture = s.capture ∧ (startAnchorWrite k f s).replay = s.replay ∧
    (startAnchorWrite k f s).memory = s.memory ∧ (startAnchorWrite k f s).host = s.host ∧
    (startAnchorWrite k f s).management = s.management := by
  simp [startAnchorWrite]

@[simp] theorem buildUpdate_untouched (s : State) :
    (buildUpdate s).pending = s.pending ∧ (buildUpdate s).pins = s.pins ∧ (buildUpdate s).modes = s.modes ∧
    (buildUpdate s).epochs = s.epochs ∧ (buildUpdate s).ring = s.ring ∧ (buildUpdate s).hold = s.hold ∧
    (buildUpdate s).capture = s.capture ∧ (buildUpdate s).replay = s.replay ∧
    (buildUpdate s).memory = s.memory ∧ (buildUpdate s).host = s.host ∧
    (buildUpdate s).management = s.management := by
  unfold buildUpdate; (repeat' split) <;> simp

@[simp] theorem requestUpdate_untouched (s : State) :
    (requestUpdate s).pending = s.pending ∧ (requestUpdate s).pins = s.pins ∧
    (requestUpdate s).modes = s.modes ∧ (requestUpdate s).epochs = s.epochs ∧ (requestUpdate s).ring = s.ring ∧
    (requestUpdate s).hold = s.hold ∧ (requestUpdate s).capture = s.capture ∧
    (requestUpdate s).replay = s.replay ∧ (requestUpdate s).memory = s.memory ∧
    (requestUpdate s).host = s.host ∧ (requestUpdate s).management = s.management := by
  unfold requestUpdate; (repeat' split) <;> simp

@[simp] theorem buildPending_untouched (s : State) :
    (buildPending s).pending = s.pending ∧ (buildPending s).pins = s.pins ∧ (buildPending s).modes = s.modes ∧
    (buildPending s).epochs = s.epochs ∧ (buildPending s).ring = s.ring ∧ (buildPending s).hold = s.hold ∧
    (buildPending s).capture = s.capture ∧ (buildPending s).replay = s.replay ∧
    (buildPending s).memory = s.memory ∧ (buildPending s).host = s.host ∧
    (buildPending s).management = s.management := by
  unfold buildPending; (repeat' split) <;> simp

@[simp] theorem startStore_untouched (s : State) :
    (startStore s).pending = s.pending ∧ (startStore s).pins = s.pins ∧ (startStore s).modes = s.modes ∧
    (startStore s).epochs = s.epochs ∧ (startStore s).ring = s.ring ∧ (startStore s).hold = s.hold ∧
    (startStore s).capture = s.capture ∧ (startStore s).replay = s.replay ∧ (startStore s).memory = s.memory ∧
    (startStore s).host = s.host ∧ (startStore s).management = s.management := by
  simp [startStore]

@[simp] theorem setMode_untouched (m : Mode) (s : State) :
    (setMode m s).pending = s.pending ∧ (setMode m s).pins = s.pins ∧ (setMode m s).epochs = s.epochs ∧
    (setMode m s).ring = s.ring ∧ (setMode m s).hold = s.hold ∧ (setMode m s).capture = s.capture ∧
    (setMode m s).replay = s.replay ∧ (setMode m s).anchor = s.anchor := by
  simp [setMode]

@[simp] theorem haltBlocks_untouched (s : State) :
    (haltBlocks s).pending = s.pending ∧ (haltBlocks s).pins = s.pins ∧ (haltBlocks s).modes = s.modes ∧
    (haltBlocks s).memory = s.memory ∧ (haltBlocks s).host = s.host ∧
    (haltBlocks s).management = s.management := by
  simp [haltBlocks]

@[simp] theorem halt_untouched (c : Cause) (s : State) :
    (halt c s).pending = s.pending ∧ (halt c s).pins = s.pins := by
  unfold halt; (repeat' split) <;> simp

@[simp] theorem assignMarker_untouched (k : RecordKind) (e : Word) (s : State) :
    (assignMarker k e s).pending = s.pending ∧ (assignMarker k e s).pins = s.pins ∧
    (assignMarker k e s).modes = s.modes ∧ (assignMarker k e s).epochs = s.epochs ∧
    (assignMarker k e s).hold = s.hold ∧ (assignMarker k e s).capture = s.capture ∧
    (assignMarker k e s).replay = s.replay ∧ (assignMarker k e s).memory = s.memory ∧
    (assignMarker k e s).host = s.host ∧ (assignMarker k e s).anchor = s.anchor ∧
    (assignMarker k e s).management = s.management := by
  simp [assignMarker]

@[simp] theorem queueCommitRecord_untouched (q : CommitSequence) (s : State) :
    (queueCommitRecord q s).pending = s.pending ∧ (queueCommitRecord q s).pins = s.pins := by
  unfold queueCommitRecord requestMarker; split <;> simp

@[simp] theorem queueClose_untouched (h : Word) (s : State) :
    (queueClose h s).pending = s.pending ∧ (queueClose h s).pins = s.pins := by
  unfold queueClose requestMarker; split <;> simp

@[simp] theorem startWalk_untouched (h : Word) (s : State) :
    (startWalk h s).pending = s.pending ∧ (startWalk h s).pins = s.pins := by
  unfold startWalk; (repeat' split) <;> simp

@[simp] theorem settle_untouched (a b : Bool) (h : Word) (s : State) :
    (settle a b h s).pending = s.pending ∧ (settle a b h s).pins = s.pins := by
  unfold settle; (repeat' split) <;> simp

@[simp] theorem noteCapturesSettled_untouched (s : State) :
    (noteCapturesSettled s).pending = s.pending ∧ (noteCapturesSettled s).pins = s.pins := by
  unfold noteCapturesSettled; (repeat' split) <;> simp

@[simp] theorem noteEpochsDrained_untouched (s : State) :
    (noteEpochsDrained s).pending = s.pending ∧ (noteEpochsDrained s).pins = s.pins := by
  unfold noteEpochsDrained; (repeat' split) <;> simp

@[simp] theorem drainNotice_untouched (s : State) :
    (drainNotice s).pending = s.pending ∧ (drainNotice s).pins = s.pins := by
  unfold drainNotice; (repeat' split) <;> simp

@[simp] theorem failCommit_untouched (n : Word) (s : State) :
    (failCommit n s).pending = s.pending ∧ (failCommit n s).pins = s.pins ∧ (failCommit n s).ring = s.ring ∧
    (failCommit n s).hold = s.hold ∧ (failCommit n s).capture = s.capture ∧ (failCommit n s).replay = s.replay ∧
    (failCommit n s).anchor = s.anchor := by
  unfold failCommit; (repeat' split) <;> simp

@[simp] theorem markDamaged_untouched (e : LiveEpoch) (s : State) :
    (markDamaged e s).pending = s.pending ∧ (markDamaged e s).pins = s.pins ∧ (markDamaged e s).ring = s.ring ∧
    (markDamaged e s).hold = s.hold ∧ (markDamaged e s).capture = s.capture ∧
    (markDamaged e s).replay = s.replay ∧ (markDamaged e s).anchor = s.anchor := by
  unfold markDamaged; (repeat' split) <;> simp

@[simp] theorem reportDamage_untouched (k : ErrorKind) (e l : Word) (s : State) :
    (reportDamage k e l s).pending = s.pending ∧ (reportDamage k e l s).pins = s.pins ∧
    (reportDamage k e l s).ring = s.ring ∧ (reportDamage k e l s).hold = s.hold ∧
    (reportDamage k e l s).capture = s.capture ∧ (reportDamage k e l s).replay = s.replay ∧
    (reportDamage k e l s).anchor = s.anchor := by
  dsimp only [reportDamage]; (repeat' split) <;> simp

@[simp] theorem closeEmpty_untouched (n : Word) (s : State) :
    (closeEmpty n s).pending = s.pending ∧ (closeEmpty n s).pins = s.pins ∧ (closeEmpty n s).modes = s.modes ∧
    (closeEmpty n s).ring = s.ring ∧ (closeEmpty n s).hold = s.hold ∧ (closeEmpty n s).capture = s.capture ∧
    (closeEmpty n s).replay = s.replay ∧ (closeEmpty n s).memory = s.memory ∧ (closeEmpty n s).host = s.host ∧
    (closeEmpty n s).anchor = s.anchor := by
  simp [closeEmpty]

@[simp] theorem startCommit_untouched (p : CommitPurpose) (n : Word) (s : State) :
    (startCommit p n s).pending = s.pending ∧ (startCommit p n s).pins = s.pins ∧
    (startCommit p n s).modes = s.modes ∧ (startCommit p n s).ring = s.ring ∧
    (startCommit p n s).hold = s.hold ∧ (startCommit p n s).replay = s.replay ∧
    (startCommit p n s).memory = s.memory ∧ (startCommit p n s).host = s.host ∧
    (startCommit p n s).anchor = s.anchor ∧ (startCommit p n s).management = s.management := by
  simp [startCommit]

@[simp] theorem commitEmpty_untouched (n : Word) (s : State) :
    (commitEmpty n s).pending = s.pending ∧ (commitEmpty n s).pins = s.pins ∧
    (commitEmpty n s).modes = s.modes ∧ (commitEmpty n s).ring = s.ring ∧ (commitEmpty n s).hold = s.hold ∧
    (commitEmpty n s).capture = s.capture ∧ (commitEmpty n s).replay = s.replay ∧
    (commitEmpty n s).memory = s.memory ∧ (commitEmpty n s).host = s.host ∧
    (commitEmpty n s).anchor = s.anchor := by
  simp [commitEmpty]

@[simp] theorem commitOpen_untouched (n : Word) (s : State) :
    (commitOpen n s).pending = s.pending ∧ (commitOpen n s).pins = s.pins := by
  simp [commitOpen]

@[simp] theorem fireTrigger_untouched (f : Bool) (s : State) :
    (fireTrigger f s).pending = s.pending ∧ (fireTrigger f s).pins = s.pins := by
  unfold fireTrigger; (repeat' split) <;> simp

@[simp] theorem reexamine_untouched (s : State) :
    (reexamine s).pending = s.pending ∧ (reexamine s).pins = s.pins := by
  dsimp only [reexamine]; (repeat' split) <;> simp

@[simp] theorem updateLow_untouched (s : State) :
    (updateLow s).pending = s.pending ∧ (updateLow s).pins = s.pins ∧ (updateLow s).modes = s.modes ∧
    (updateLow s).epochs = s.epochs ∧ (updateLow s).hold = s.hold ∧ (updateLow s).capture = s.capture ∧
    (updateLow s).replay = s.replay ∧ (updateLow s).memory = s.memory ∧ (updateLow s).host = s.host ∧
    (updateLow s).anchor = s.anchor := by
  unfold updateLow; (repeat' split) <;> simp

@[simp] theorem updateBlocked_untouched (s : State) :
    (updateBlocked s).pending = s.pending ∧ (updateBlocked s).pins = s.pins := by
  unfold updateBlocked; (repeat' split) <;> simp

@[simp] theorem updateSpace_untouched (s : State) :
    (updateSpace s).pending = s.pending ∧ (updateSpace s).pins = s.pins := by
  simp [updateSpace]

end Sys2Proof.Machine
end

