-- ==== Sys2Proof/Laws/Operations.lean ====
section
/-! SUPPORT. What each shared operation can do, said once: when a command acts, whose answer an answer is, what the Bool
conditions mean, how the lists of the blocks are searched, and what the sequences and the space indications do. -/

namespace Sys2Proof.Machine

/-! ### When a command acts -/

theorem whileRunning_of_running {s : State} (h : s.Running) (f : State → State) : whileRunning f s = .next (f s) := by
  have h' : s.pins.inReset = false := h
  simp [whileRunning, h']

theorem whileRunning_of_inReset {s : State} (h : s.pins.inReset = true) (f : State → State) :
    whileRunning f s = .next s := by
  simp [whileRunning, h]

theorem onFrame_of_takesFrames {s : State} (h : s.TakesFrames) (f : State → State) : onFrame f s = .next (f s) := by
  simp [onFrame, whileRunning, h.1, h.2]

theorem withoutWords_zero (f : State → State) (s : State) : withoutWords 0#8 f s = f s := by simp [withoutWords]

theorem withoutWords_of_ne {count : Byte} (h : count ≠ 0#8) (f : State → State) (s : State) :
    withoutWords count f s = respond .badItem [] s := by
  simp [withoutWords, h]

/-! ### Answers -/

theorem oldestIssued_of_awaits {s : State} {e : MemoryEntry} {rest : List MemoryEntry} (h : s.Awaits e rest) :
    s.oldestIssued = some e := by
  simp [State.oldestIssued, h.1, h.2]

theorem dropOldest_of_awaits {s : State} {e : MemoryEntry} {rest : List MemoryEntry} (h : s.Awaits e rest) :
    dropOldest s = s.answered rest := by
  simp [dropOldest, h.1, State.answered, State.setMemory]

/-- An answer row that fits the awaited entry removes it and acts. -/
theorem onAnswer_of_awaits {α : Type} {s : State} {e : MemoryEntry} {rest : List MemoryEntry} (h : s.Awaits e rest)
    {select : Source → Option α} {a : α} (ha : select e.source = some a) (act : α → MemoryEntry → State → State) :
    onAnswer select act s = act a e (s.answered rest) := by
  simp [onAnswer, oldestIssued_of_awaits h, dropOldest_of_awaits h, ha]

/-- An answer row that does not fit the awaited entry changes nothing. -/
theorem onAnswer_of_other {α : Type} {s : State} {e : MemoryEntry} {rest : List MemoryEntry} (h : s.Awaits e rest)
    {select : Source → Option α} (ha : select e.source = none) (act : α → MemoryEntry → State → State) :
    onAnswer select act s = s := by
  simp [onAnswer, oldestIssued_of_awaits h, ha]

/-- Issue passes over the ISSUED entries and takes the first WAITING one. -/
theorem issueOldest_append {now : Nat} {issued waiting : List MemoryEntry} {e : MemoryEntry}
    (h : ∀ x ∈ issued, x.issued.isSome = true) (he : e.issued = none) :
    issueOldest now (issued ++ e :: waiting) = issued ++ { e with issued := some now } :: waiting := by
  induction issued with
  | nil => simp [issueOldest, he]
  | cons x xs ih => simp [issueOldest, h x (by simp), ih fun y hy => h y (by simp [hy])]

/-! ### What the conditions mean -/

theorem Configuration.hasJournal_iff (c : Configuration) :
    c.hasJournal = true ↔ 16 ≤ c.slots.toNat ∧ c.slots.toNat ≤ 1048576 := by
  rw [Configuration.hasJournal, decide_eq_true_iff]
  rfl

theorem Configuration.inArea_iff (c : Configuration) (address : Word) :
    c.inArea address = true ↔
      (16 ≤ c.slots.toNat ∧ c.slots.toNat ≤ 1048576) ∧
      (c.basePage.toNat * 4096 ≤ address.toNat ∧
        address.toNat < c.basePage.toNat * 4096 + c.slots.toNat * 128) := by
  rw [Configuration.inArea, Bool.and_eq_true, Configuration.hasJournal_iff, decide_eq_true_iff]
  rfl

theorem inAnchorRegion_iff (base address : Word) :
    inAnchorRegion base address = true ↔ base.toNat ≤ address.toNat ∧ address.toNat < base.toNat + 256 := by
  rw [inAnchorRegion, decide_eq_true_iff]
  rfl

theorem Window.contains_iff (w : Window) (address : Word) :
    w.contains address = true ↔
      w.enable = true ∧ w.base.toNat ≤ address.toNat / 4096 ∧
        address.toNat / 4096 ≤ w.base.toNat + w.countLessOne.toNat := by
  rw [Window.contains, Bool.and_eq_true, decide_eq_true_iff]
  rfl

theorem Window.valid_iff (w : Window) :
    w.valid = true ↔
      w.mode.toNat ≤ 2 ∧ (w.enable = false ∨ w.base.toNat + (w.countLessOne.toNat + 1) ≤ 1048576) := by
  rw [Window.valid, Bool.and_eq_true, Bool.or_eq_true, decide_eq_true_iff, decide_eq_true_iff, Bool.not_eq_true']
  rfl

theorem State.free_le_iff (s : State) (n : Nat) :
    decide (s.free ≤ n) = true ↔ s.anchor.working.slots.toNat - s.ring.used - s.ring.promised ≤ n := by
  rw [decide_eq_true_iff]
  rfl

theorem State.lowNow_iff (s : State) :
    s.lowNow = true ↔
      (16 ≤ s.anchor.working.slots.toNat ∧ s.anchor.working.slots.toNat ≤ 1048576) ∧
        s.anchor.working.slots.toNat - s.ring.used - s.ring.promised ≤ s.anchor.working.watermark.toNat := by
  rw [State.lowNow, Bool.and_eq_true, Configuration.hasJournal_iff, State.free_le_iff]

theorem HoldEntry.wantsCapture_iff (x : HoldEntry) :
    x.wantsCapture = true ↔ x.cls ≠ .pass ∧ x.state = .needsCapture ∧ x.capture = none := by
  rcases x with ⟨id, cls, l, o, d, st, tag, cap⟩
  cases cls <;> cases st <;> cases cap <;> simp [HoldEntry.wantsCapture, HoldEntry.isJournal, HoldClass.epoch]

theorem HoldEntry.isJournal_iff (x : HoldEntry) : x.isJournal = true ↔ x.cls ≠ .pass := by
  rcases x with ⟨id, cls, l, o, d, st, tag, cap⟩
  cases cls <;> simp [HoldEntry.isJournal, HoldClass.epoch]

theorem HoldEntry.servedBy_iff (x : HoldEntry) (c : Capture) :
    x.servedBy c = true ↔
      c.hold = some x.id ∨ (x.state = .waitCapture ∧ x.tag.isSome = true ∧ x.tag = c.tag) := by
  simp [HoldEntry.servedBy, and_assoc]

theorem State.lineHeld_iff (s : State) (line : Word) :
    s.lineHeld line = true ↔ ∃ e ∈ s.hold.entries, e.line = line := by
  simp [State.lineHeld]

theorem State.storeInFlight_iff (s : State) :
    s.storeInFlight = true ↔ ∃ w c, s.anchor.write = some w ∧ w.kind = .store c := by
  simp only [State.storeInFlight]
  cases hw : s.anchor.write with
  | none => simp
  | some w => cases hk : w.kind <;> simp [hk]

theorem EpochTable.has_iff (t : EpochTable) (st : EpochState) :
    t.has st = true ↔ ∃ x ∈ t.epochs, x.state = st := by
  simp [EpochTable.has]

theorem State.triggersAct_iff (s : State) :
    s.triggersAct = true ↔
      s.modes.mode = .active ∧ (∃ o, s.epochs.table.opened = some o) ∧ s.modes.freeze = false := by
  simp [State.triggersAct, and_assoc, Option.isSome_iff_exists]

theorem LiveEpoch.empty_iff (e : LiveEpoch) : e.empty = true ↔ e.lines = 0 ∧ e.held = 0 ∧ e.out = 0 := by
  simp [LiveEpoch.empty, and_assoc]

theorem LiveEpoch.drained_iff (e : LiveEpoch) : e.drained = true ↔ e.held = 0 ∧ e.out = 0 := by
  simp [LiveEpoch.drained]

theorem Walk.complete_iff (w : Walk) : w.complete = true ↔ w.left = 0 ∧ w.outstanding = 0 := by
  simp [Walk.complete]

theorem ReplayEngine.running_iff (r : ReplayEngine) :
    r.running = true ↔ r.rollback.isSome = true ∨ r.recovery.isSome = true := by
  simp [ReplayEngine.running]

theorem AnchorUnit.target_eq (a : AnchorUnit) : a.target = if a.current = some .a then .b else .a := by
  unfold AnchorUnit.target
  cases a.current with
  | none => rfl
  | some c => cases c <;> simp [Copy.other]

/-! ### Searches -/

/-- The IDLE capture slot of lowest number. -/
theorem idleSlot_eq_some {c : CaptureUnit} {i : Fin 4} (hi : c.slots[i] = none)
    (hj : ∀ j : Fin 4, j < i → c.slots[j] ≠ none) : c.idleSlot = some i := by
  have busy : ∀ j : Fin 4, j < i → c.slots[j].isNone = false := by
    intro j hji
    cases h : c.slots[j] with
    | none => exact absurd h (hj j hji)
    | some x => rfl
  have idle : c.slots[i].isNone = true := by rw [hi]; rfl
  unfold CaptureUnit.idleSlot slotOrder
  match i, busy, idle with
  | 0, _, idle => simp only [List.find?, idle]
  | 1, busy, idle => simp only [List.find?, busy 0 (by decide), idle]
  | 2, busy, idle => simp only [List.find?, busy 0 (by decide), busy 1 (by decide), idle]
  | 3, busy, idle => simp only [List.find?, busy 0 (by decide), busy 1 (by decide), busy 2 (by decide), idle]

theorem idleSlot_isSome_iff (c : CaptureUnit) : c.idleSlot.isSome = true ↔ ∃ i : Fin 4, c.slots[i] = none := by
  simp [CaptureUnit.idleSlot, slotOrder, List.find?_isSome, Fin.exists_fin_succ]

/-- An eligible entry is there exactly when some entry wants a capture behind no older entry of its line. -/
theorem firstEligible_isSome_iff (entries : List HoldEntry) (older : List Word) :
    (firstEligible older entries).isSome = true ↔
      ∃ (pre post : List HoldEntry) (e : HoldEntry),
        entries = pre ++ e :: post ∧ e.wantsCapture = true ∧ e.line ∉ older ∧ ∀ x ∈ pre, x.line ≠ e.line := by
  induction entries generalizing older with
  | nil => simp [firstEligible]
  | cons a l ih =>
    rw [firstEligible]
    split
    · rename_i h
      simp only [Bool.and_eq_true, Bool.not_eq_true', List.contains_eq_mem, decide_eq_false_iff_not] at h
      simp only [Option.isSome_some, true_iff]
      exact ⟨[], l, a, rfl, h.1, h.2, by simp⟩
    · rename_i h
      rw [ih]
      constructor
      · rintro ⟨o, y, e, rfl, hw, hn, hx⟩
        simp only [List.mem_cons, not_or] at hn
        exact ⟨a :: o, y, e, rfl, hw, hn.2, by simpa using ⟨fun h => hn.1 h.symm, hx⟩⟩
      · rintro ⟨o, y, e, he, hw, hn, hx⟩
        cases o with
        | nil =>
          simp only [List.nil_append, List.cons.injEq] at he
          rcases he with ⟨rfl, rfl⟩
          simp [hw, hn] at h
        | cons b o =>
          simp only [List.cons_append, List.cons.injEq] at he
          rcases he with ⟨rfl, rfl⟩
          exact ⟨o, y, e, rfl, hw, by simpa using ⟨fun h => hx a (by simp) h.symm, hn⟩,
            fun x hx' => hx x (by simp [hx'])⟩

/-- Two changes of the epoch `n`, one after the other, are one change, when the first keeps the number. -/
theorem EpochTable.modify_modify (t : EpochTable) (f g : LiveEpoch → LiveEpoch) (n : Word)
    (h : ∀ x, (f x).number = x.number) :
    (t.modify n f).modify n g = t.map fun x => if x.number = n then g (f x) else x := by
  have key : ∀ x : LiveEpoch,
      (if (if x.number = n then f x else x).number = n then g (if x.number = n then f x else x)
        else if x.number = n then f x else x) = if x.number = n then g (f x) else x := by
    intro x
    by_cases hx : x.number = n <;> simp [hx, h]
  rcases t with ⟨a, b⟩
  cases a <;> cases b <;> simp [EpochTable.modify, EpochTable.map, key]

/-! ### Sequences -/

theorem requestMarker_of_room {s : State} (h : 1 ≤ s.free) (kind : RecordKind) (n : Word)
    (next : Nat → Word → State → State) :
    requestMarker kind n next s = next s.ring.head s.ring.headSequence (assignMarker kind n s) := by
  simp [requestMarker, h]

theorem requestMarker_of_full {s : State} (h : s.free = 0) (kind : RecordKind) (n : Word)
    (next : Nat → Word → State → State) :
    requestMarker kind n next s = halt .ringExhausted (logError .ringExhausted (some n) none (some s.ring.head) s) := by
  simp [requestMarker, h]

theorem requestUpdate_of_none {s : State} (h : s.anchor.write = none) : requestUpdate s = buildUpdate s := by
  simp [requestUpdate, h]

theorem requestUpdate_of_some {s : State} {w : AnchorWrite} (h : s.anchor.write = some w) :
    requestUpdate s = s.setAnchor { s.anchor with pendingUpdate := true } := by
  simp [requestUpdate, h]

theorem halt_of_halted {s : State} (h : s.modes.mode = .halted) (cause : Cause) : halt cause s = s := by
  simp [halt, h]

/-! ### Low space -/

theorem updateLow_ring (s : State) : (updateLow s).ring = { s.ring with lowSpace := s.lowNow } := by
  unfold updateLow; split <;> rfl

theorem updateLow_of_settled {s : State} (h : s.ring.lowSpace = s.lowNow) : updateLow s = s := by
  unfold updateLow; rw [← h]; simp [State.setRing]

theorem lowNow_updateLow (s : State) : (updateLow s).lowNow = s.lowNow := by
  unfold updateLow; split <;> rfl

/-- Recomputing low space again with no change of free space between raises nothing more (R36). -/
@[simp] theorem updateLow_updateLow (s : State) : updateLow (updateLow s) = updateLow s :=
  updateLow_of_settled (by rw [lowNow_updateLow, updateLow_ring])

/-! ### The bytes on MISO -/

@[simp] theorem misoBytes_length (mosi : List Byte) (response : Option Response) :
    (misoBytes mosi response).length = mosi.length := by simp [misoBytes]

theorem misoBytes_getElem? {mosi : List Byte} {k : Nat} (h : k < mosi.length) (response : Option Response) :
    (misoBytes mosi response)[k]? = some (misoByte (requestLength mosi) response k) := by simp [misoBytes, h]

theorem State.miso_of_inReset {s : State} (h : s.pins.inReset = true) (mosi : List Byte) (k : Nat) :
    s.miso mosi k = none := by simp [State.miso, h]

theorem State.miso_of_running {s : State} (h : s.Running) {mosi : List Byte} {k : Nat} (hk : k < mosi.length) :
    s.miso mosi k = some (misoByte (requestLength mosi) s.management.response k) := by
  have h' : s.pins.inReset = false := h
  simp [State.miso, h', misoBytes_getElem? hk]

theorem State.miso_of_length_le (s : State) {mosi : List Byte} {k : Nat} (h : mosi.length ≤ k) :
    s.miso mosi k = none := by simp [State.miso, h]

end Sys2Proof.Machine
end

