-- ==== Sys2Proof/Tests/Slice0.lean ====
section
/-! SUPPORT. Tests of single steps on small states, each with its source in the manual, and for every statement with
hypotheses a state that meets them. -/

namespace Sys2Proof.Tests

-- One theorem at a time: the kernel evaluations below would otherwise wait for one another in many threads.
set_option Elab.async false

open Sys2Proof.Machine

/-! ### Small states -/

/-- The next state of a command. -/
def run1 (c : Instr) (s : State) : State :=
  match exec c s with
  | .next t => t
  | .fault _ => s
  | .refused _ => s

/-- 16 journal slots at page 16, window 0 JOURNAL on page 1, window 1 READONLY on page 9, default mode PASS. -/
def setup : Configuration :=
  { Configuration.noAnchor with
    basePage := 16#32, slots := 16#32
    windows :=
      #v[⟨true, 1#20, 0#20, 1#2⟩, ⟨true, 9#20, 0#20, 2#2⟩, .disabled, .disabled, .disabled, .disabled, .disabled,
        .disabled] }

/-- A calm part with `setup` in force, in the given mode; 16 slots free are low space under the watermark of 64. -/
def calm (mode : Mode) : State :=
  { State.reset with
    modes := { mode := mode, cause := .none, freeze := false }
    ring := { State.reset.ring with ringId := 5#32, lowSpace := true }
    anchor :=
      { working := setup, current := some .a, generation := 5#32, stale := false, pendingUpdate := false, write := none,
        loading := none }
    management := { State.reset.management with pending := setup } }

/-- An epoch with nothing in it yet. -/
def fresh (number : Word) (state : EpochState) : LiveEpoch :=
  { number := number, state := state, damaged := false, lines := 0, firstSlot := none, firstTime := none, held := 0,
    out := 0, threshold := 0#16, ageLimit := 0#16 }

/-- `s` with these live epochs and this commit sequence. -/
def withEpochs (s : State) (x y : Option LiveEpoch) (commit : Option CommitSequence := none) : State :=
  { s with epochs := { s.epochs with table := ⟨x, y⟩, commit := commit } }

/-- ACTIVE with epoch 8 OPEN. -/
def active : State := withEpochs (calm .active) (some (fresh 8#32 .opened)) none

/-- ACTIVE with epoch 9 OPEN beside epoch 8 COMMITTING in DRAINING, which has drained. -/
def committing : State :=
  withEpochs (calm .active) (some (fresh 9#32 .opened)) (some (fresh 8#32 .committing))
    (some { epoch := 8#32, purpose := .commit, phase := .draining })

/-- ACTIVE with epoch 8 rolling back, in the given phase. -/
def rolling (phase : RollbackPhase) : State :=
  { withEpochs (calm .active) (some (fresh 8#32 .rollingBack)) none with
    replay := { rollback := some { phase := phase, highest := 8#32 }, recovery := none, requests := [], headLine := none } }

/-- RECOVERING in the given phase. -/
def recovering (phase : RecoveryPhase) : State :=
  { calm .recovering with
    replay :=
      { rollback := none
        recovery := some
          { phase := phase, ringId := 5#32, runLength := none, lastMarker := none, cutoff := some 7#32, highest := none,
            recoveredThrough := some 7#32 }
        requests := [], headLine := none } }

/-- The request of `source` for line 0x1000, ISSUED at tick 0. -/
def issued (source : Source) : MemoryEntry :=
  { source := source, line := 0x1000#32, offset := 0, length := 64, data := [], issued := some 0 }

/-- `s` with the request of `source` outstanding. -/
def asking (s : State) (source : Source) : State := { s with memory := { s.memory with queue := [issued source] } }

/-- A hold entry for line 0x1000. -/
def held (cls : HoldClass) (state : HoldState) : HoldEntry :=
  { id := 0, cls := cls, line := 0x1000#32, offset := 4, data := [0xAA#8, 0xBB#8], state := state, tag := none,
    capture := none }

/-- `s` with these hold entries. -/
def holding (s : State) (entries : List HoldEntry) : State :=
  { s with hold := { entries := entries, nextId := entries.length } }

/-- A read of 8 bytes at 0x1004 by requester 3, in the given wait state. -/
def reading (wait : WaitState) : HostRequest :=
  { kind := .read, requester := 3#4, address := 0x1004#32, line := 0x1000#32, offset := 4, length := 8, data := [],
    cls := .journal, window := some 0, arrival := 0, wait := wait }

/-- A write of 2 bytes at 0x1004 by requester 3, waiting for a place. -/
def writing : HostRequest :=
  { reading .placeWait with kind := .write, length := 2, data := [0xAA#8, 0xBB#8] }

/-- `s` with a current host request. -/
def current (s : State) (r : HostRequest) : State := { s with host := { s.host with current := some r } }

/-- The deferred entry of that read. -/
def deferred (state : DeferredState) : Deferred :=
  { requester := 3#4, line := 0x1000#32, offset := 4, length := 8, state := state }

/-- `s` with a deferred entry in slot 2. -/
def deferring (s : State) (state : DeferredState) : State :=
  { s with host := { s.host with deferred := s.host.deferred.set 2 (some (deferred state)) } }

/-- A capture of line 0x1000 for epoch 8. -/
def capture (phase : CapturePhase) : Capture :=
  { line := 0x1000#32, epoch := 8#32, window := 0, hold := some 0, tag := some ⟨0x1000#32, 8#32⟩, phase := phase }

/-- `s` with a capture in slot 1. -/
def capturing (s : State) (phase : CapturePhase) : State :=
  { s with
    capture :=
      { tags := [{ key := ⟨0x1000#32, 8#32⟩, state := .capturing (some 0) (some 1) }]
        slots := #v[none, some (capture phase), none, none], reads := [] }
    ring := { s.ring with promised := 1 } }

/-- The anchor write of an update that carries tail 2, sequence 2. -/
def update (first : Option LineAnswer) : AnchorWrite :=
  { kind := .update 2 2#32 false, target := .b, generation := 6#32, bytes := [], granted := 2, first := first }

/-- The anchor write of a STORE of `setup`. -/
def store (first : Option LineAnswer) : AnchorWrite := { update first with kind := .store setup }

/-- `s` with an anchor write in flight. -/
def anchoring (s : State) (w : AnchorWrite) : State := { s with anchor := { s.anchor with write := some w } }

/-- The record of the commit marker of epoch 8 in slot 3. -/
def marker (kind : RecordKind) : RecordInfo := { kind := kind, epoch := 8#32, line := none, slot := 3, sequence := 9#32 }

/-- ACTIVE with the write of a marker on the record write list. -/
def recording : State :=
  { active with
    ring :=
      { active.ring with
        writes := [{ info := marker .commit, isHead := true, address := 0x10180#32, data := [] }] } }

/-- A walk with one slot left. -/
def walk : Walk := { cursor := 3, sequence := 9#32, left := 1, outstanding := 0 }

/-- LOADING with these answers taken. -/
def loading (answers : List (Option (List Byte))) : State :=
  { State.reset with anchor := { State.reset.anchor with loading := some { granted := 4, answers := answers } } }

/-- The LINE record of line 0x1000 and epoch 8 in slot 3. -/
def lineInfo : RecordInfo := { marker .line with line := some 0x1000#32 }

/-- A line of zeros. -/
def zeros : List Byte := List.replicate 64 0#8

/-! ### Well-formed commands: an ill-formed term for each check -/

theorem test_wellFormed_readLength0 : (Instr.hostReadRequest 0#4 0#32 0).wellFormed = false := by decide
theorem test_wellFormed_readLength65 : (Instr.hostReadRequest 0#4 0#32 65).wellFormed = false := by decide
theorem test_wellFormed_readLength64 : (Instr.hostReadRequest 0#4 0#32 64).wellFormed = true := by decide
theorem test_wellFormed_writeLength0 : (Instr.hostWriteRequest 0#4 0#32 []).wellFormed = false := by decide
theorem test_wellFormed_writeLength65 :
    (Instr.hostWriteRequest 0#4 0#32 (List.replicate 65 0#8)).wellFormed = false := by decide
theorem test_wellFormed_line : (Instr.lineWaitCleared 0x1004#32).wellFormed = false := by decide
theorem test_wellFormed_answers :
    ∀ c ∈ [Instr.hostReadAnswer (.done []), .deferredFetchAnswer (.done []), .captureReadDone [],
        .cancelledReadAnswer (.done []), .anchorReadAnswer (.done []), .replayReadAnswer (.done []),
        .replayHeadReadAnswer (.done [])], c.wellFormed = false := by decide
theorem test_wellFormed_words (words : List Word) (h : words.length = 256) :
    (Instr.write 0#16 words).wellFormed = false ∧ (Instr.pendingConfigWrite 0#16 words).wellFormed = false ∧
    (Instr.tagProbe 0#16 words).wellFormed = false := by simp [Instr.wellFormed, h]

/-! ### Formats (Chapter 12) -/

/-- The check values of R171 over the ASCII bytes "123456789". -/
theorem test_crc32 :
    crc32 [0x31#8, 0x32#8, 0x33#8, 0x34#8, 0x35#8, 0x36#8, 0x37#8, 0x38#8, 0x39#8] = 0xCBF43926#32 := by decide +kernel
theorem test_crc8 :
    crc8 [0x31#8, 0x32#8, 0x33#8, 0x34#8, 0x35#8, 0x36#8, 0x37#8, 0x38#8, 0x39#8] = 0xF4#8 := by decide +kernel

/-- The example of R174: a READ of closed-through. -/
theorem test_frame_read :
    (requestBytes (.read 0x0007#16 1#8)).map (·.take 4) = some [0x01#8, 0x00#8, 0x07#8, 0x01#8] := by decide
/-- The response of that READ with closed-through = 120 (R174). -/
theorem test_frame_response :
    (Response.bytes { status := .ok, words := [120#32] }).take 5 = [0x00#8, 0x00#8, 0x00#8, 0x00#8, 0x78#8] := by decide
/-- MISO in that frame: 0x00 through request and turnaround, the response, and 0x00 after its CRC-8 (R159). -/
theorem test_frame_miso :
    let mosi := [0x01#8, 0x00#8, 0x07#8, 0x01#8, crc8 [0x01#8, 0x00#8, 0x07#8, 0x01#8]] ++ List.replicate 9 0xFF#8
    misoBytes mosi (some { status := .ok, words := [120#32] }) =
      List.replicate 6 0x00#8 ++ [0x00#8, 0x00#8, 0x00#8, 0x00#8, 0x78#8, crc8 [0x00#8, 0x00#8, 0x00#8, 0x00#8, 0x78#8]] ++
        [0x00#8, 0x00#8] ∧
    misoBytes [0x01#8, 0x00#8, 0x07#8] none = [0x00#8, 0x00#8, 0x00#8] := by decide +kernel
/-- A wrong check, an unknown code and a frame cut short (R160). -/
theorem test_frame_bad :
    frameCommand [0x01#8, 0x00#8, 0x07#8, 0x01#8, crc8 [0x01#8, 0x00#8, 0x07#8, 0x01#8] ^^^ 1#8] = .badFrame ∧
    frameCommand [0x7F#8, 0x00#8, 0x00#8, 0x00#8, crc8 [0x7F#8, 0x00#8, 0x00#8, 0x00#8]] = .badFrame ∧
    frameCommand [0x01#8, 0x00#8, 0x07#8, 0x01#8] = .frameDiscarded := by decide +kernel
/-- The example of R175: the two words of window 2, and the window entry they make (R173). -/
theorem test_window_bytes :
    ((setup.writeItem 0x0B 0x81000300#32).writeItem 0x0C 0x0000000F#32).windows[2].bytes =
      [0x00#8, 0x03#8, 0x00#8, 0x0F#8, 0x00#8, 0x00#8, 0x01#8, 0x01#8] := by decide
/-- Serial order at the wrap (R1). -/
theorem test_serial_order : after 5#32 4294967290#32 = true ∧ after 2147483690#32 42#32 = false := by decide
/-- The record signature and kind bytes of a head line (R172). -/
theorem test_record_head :
    (recordHead lineInfo 0#8 5#32 zeros).take 12 =
      [0x4C#8, 0x7A#8, 0x01#8, 0x00#8, 0x05#8, 0x00#8, 0x00#8, 0x00#8, 0x09#8, 0x00#8, 0x00#8, 0x00#8] := by decide

/-! ### One step of each row

The expected value is the one the cited rule gives for the small state. -/

/-- R121, R127: a forwarded read to a JOURNAL window with no hold entry on its line waits for its grant. -/
theorem test_hostReadRequest :
    (run1 (.hostReadRequest 3#4 0x1004#32 8) active).host.current.map (·.wait) = some .grantWait := by decide
/-- R121: 2 bytes at offset 63 cross the line. -/
theorem test_hostReadRequest_boundary :
    (run1 (.hostReadRequest 3#4 0x103F#32 2) active).host.answer = some (.fault .boundary) := by decide
/-- R40, R41, R42: a JOURNAL write that misses the tag table is taken, stamped, and needs a capture. -/
theorem test_hostWriteRequest :
    (run1 (.hostWriteRequest 3#4 0x1004#32 [0xAA#8]) active).hold.entries.map (fun e => (e.cls, e.state)) =
      [(.journal 8#32 0, .needsCapture)] := by decide
/-- R122: the journal area is guarded. -/
theorem test_hostWriteRequest_guarded :
    (run1 (.hostWriteRequest 3#4 0x10000#32 [0xAA#8]) active).host.answer = some (.fault .guarded) := by decide
/-- R43. -/
theorem test_waitingWriteTaken :
    let t := run1 .waitingWriteTaken (current active writing)
    t.host.answer = some (.done []) ∧ t.hold.entries.length = 1 := by decide
/-- R49. -/
theorem test_lineWaitCleared :
    (run1 (.lineWaitCleared 0x1000#32) (current active (reading .lineWait))).host.current.map (·.wait) =
      some .grantWait := by decide
/-- R126, R130: the read becomes a deferred entry in the lowest free slot. -/
theorem test_hostWaitLimitExpiry :
    let t := run1 .hostWaitLimitExpiry (current active (reading .grantWait))
    t.host.answer = some .retry ∧ t.host.deferred[0] = some (deferred (.fetching .grantWait)) := by decide
/-- R133, and the counter of R169. -/
theorem test_deferredDiscardLimitExpiry :
    let t := run1 (.deferredDiscardLimitExpiry 2) (deferring active (.ready [] 256))
    t.host.deferred[2] = none ∧ t.counter .deferredDiscarded = 1#32 := by decide
/-- R133: in a freeze an entry is discarded once a STORE has lowered the limit to its age, and not before. -/
theorem test_deferredDiscardLimitExpiry_freeze :
    let s := { deferring active (.ready [] 100) with modes := { active.modes with freeze := true } }
    let t := { s with anchor := { s.anchor with working := { setup with discardLimit := 96#32 } } }
    run1 (.deferredDiscardLimitExpiry 2) s = s ∧ (run1 (.deferredDiscardLimitExpiry 2) t).host.deferred[2] = none := by
  decide
/-- R61. -/
theorem test_captureStart :
    let t := run1 .captureStart (holding active [held (.journal 8#32 0) .needsCapture])
    t.capture.reads = [0] ∧ t.ring.promised = 1 := by decide
/-- R47. -/
theorem test_holdRelease :
    let t := run1 .holdRelease (holding active [held .pass .ready])
    t.hold.entries = [] ∧ t.memory.queue.map (·.source) = [.holdRelease none] := by decide
/-- R127. -/
theorem test_hostReadGrant :
    let t := run1 .hostReadGrant (current active (reading .grantWait))
    t.memory.queue.map (·.source) = [.hostRead 3#4 .current] ∧ t.memory.turn = .hold := by decide
/-- R131. -/
theorem test_deferredFetchGrant :
    (run1 .deferredFetchGrant (deferring active (.fetching .grantWait))).host.deferred[2] =
      some (deferred (.fetching .inQueue)) := by decide
/-- R62. -/
theorem test_captureReadGrant :
    (run1 .captureReadGrant (run1 .captureStart (holding active [held (.journal 8#32 0) .needsCapture]))).memory.queue.map
      (fun e => (e.source, e.line)) = [(.captureRead 0, 0x1000#32)] := by decide
/-- R29. -/
theorem test_recordWriteGrant :
    (run1 .recordWriteGrant recording).memory.queue.map (fun e => (e.source, e.line)) =
      [(.recordWrite (marker .commit) true, 0x10180#32)] := by decide
/-- R138: the first read is line 0 of copy A. -/
theorem test_anchorLineGrant :
    (run1 .anchorLineGrant State.reset).memory.queue.map (·.source) = [.anchorRead .a false] := by decide
/-- R20, R92: the head line of slot 3 of a ring at 0x10000. -/
theorem test_replayRequestGrant :
    (run1 .replayRequestGrant { active with replay := { active.replay with requests := [.readHead 3] } }).memory.queue.map
      (·.line) = [0x10180#32] := by decide
/-- R108. -/
theorem test_memoryIssue :
    (run1 .memoryIssue (run1 .holdRelease (holding active [held .pass .ready]))).memory.queue.map (·.issued) =
      [some 0] := by decide
/-- R108, R115: an answer of the wrong kind ends the request as a timeout does. -/
theorem test_unexpectedMemoryAnswer :
    (run1 (.unexpectedMemoryAnswer .write) (asking active (.captureRead 1))).modes =
      { mode := .halted, cause := .memoryTimeout, freeze := false } := by decide
/-- R127: the 8 bytes at offset 4. -/
theorem test_hostReadAnswer :
    (run1 (.hostReadAnswer (.done ((List.range 64).map (BitVec.ofNat 8))))
      (asking (current active (reading .memoryWait)) (.hostRead 3#4 .current))).host.answer =
      some (.done [4#8, 5#8, 6#8, 7#8, 8#8, 9#8, 10#8, 11#8]) := by decide
/-- R131. -/
theorem test_deferredFetchAnswer :
    (run1 (.deferredFetchAnswer .fault)
      (asking (deferring active (.fetching .inQueue)) (.deferredFetch 2 false))).host.deferred[2] = none := by decide
/-- R12, R15. -/
theorem test_dataWriteAnswer :
    let s := withEpochs (calm .active) (some { fresh 8#32 .opened with out := 1 }) none
    (run1 (.dataWriteAnswer .fault) (asking s (.holdRelease (some 8#32)))).epochs.table.entry0 =
      some { fresh 8#32 .opened with damaged := true } := by decide
/-- R114. -/
theorem test_passWriteAnswer :
    (run1 (.passWriteAnswer .fault) (asking active (.holdRelease none))).management.log =
      [{ kind := .passWriteFault, epoch := none, line := some 0x1000#32, slot := none, mode := .active }] := by decide
/-- R27, R29: the body write goes before the head write, each at its line of slot 0. -/
theorem test_captureReadDone :
    let t := run1 (.captureReadDone []) (asking (capturing active (.reading false)) (.captureRead 1))
    t.ring.writes.map (fun w => (w.isHead, w.address)) = [(false, 0x10040#32), (true, 0x10000#32)] ∧
    (t.ring.head, t.ring.used, t.ring.promised) = (1, 1, 0) := by decide
/-- R65: the owner is discarded and its epoch damaged. -/
theorem test_captureReadFault :
    let s := holding (capturing active (.reading false)) [held (.journal 8#32 0) .needsCapture]
    let t := run1 .captureReadFault (asking s (.captureRead 1))
    t.hold.entries = [] ∧ t.epochs.table.entry0.map (·.damaged) = some true := by decide
/-- R67. -/
theorem test_cancelledReadAnswer :
    let t := run1 (.cancelledReadAnswer (.done [])) (asking (capturing active (.reading true)) (.captureRead 1))
    t.capture.slots[1] = none ∧ t.capture.tags = [] ∧ t.ring.promised = 0 := by decide
/-- R24, R36: free at a watermark of 15 rises as the promise is released and falls again as the CLOSE marker is assigned, so
JOURNAL-LOW is raised a second time. -/
theorem test_cancelledReadAnswer_low :
    let s := { rolling (.settling false true) with capture := (capturing active (.reading true)).capture }
    let u := { s with
      ring := { s.ring with promised := 1 }
      anchor := { s.anchor with working := { setup with watermark := 15#32 } } }
    let t := run1 (.cancelledReadAnswer (.done [])) (asking u (.captureRead 1))
    u.lowNow = true ∧ u.ring.lowSpace = true ∧ u.management.flags.getLsbD 7 = false ∧
    t.ring.promised = 0 ∧ t.ring.used = 1 ∧ t.ring.lowSpace = true ∧ t.management.flags.getLsbD 7 = true := by decide
/-- R30, R44, R56. -/
theorem test_recordHeadAck :
    let s := holding (capturing active (.writing [] 3 9#32)) [held (.journal 8#32 0) .needsCapture]
    let t := run1 .recordHeadAck (asking s (.recordWrite lineInfo true))
    t.hold.entries.map (·.state) = [.ready] ∧ t.capture.tags.map (·.state) = [.saved] ∧
    t.counter .records = 1#32 := by decide
/-- R78: the commit point. -/
theorem test_recordHeadAck_commit :
    let s := withEpochs (calm .active) (some (fresh 9#32 .opened)) (some (fresh 8#32 .committing))
      (some { epoch := 8#32, purpose := .commit, phase := .markerWriting 3 9#32 })
    (run1 .recordHeadAck (asking s (.recordWrite (marker .commit) true))).epochs.closedThrough = 8#32 := by decide
/-- R30. -/
theorem test_recordWriteFault :
    (run1 .recordWriteFault (asking active (.recordWrite lineInfo true))).modes.cause = .recordWriteFault := by decide
/-- R83: an age limit of 2 ms over an epoch with a record. -/
theorem test_autoCommitAgeExpiry :
    let s := withEpochs (calm .active)
      (some { fresh 8#32 .opened with lines := 1, firstTime := some 0, firstSlot := some 0, ageLimit := 2#16 }) none
    let t := run1 .autoCommitAgeExpiry s
    t.pins.now = 2000 ∧ t.epochs.table.entry0.map (·.state) = some .committing := by decide
/-- R32, R141. -/
theorem test_anchorUpdateAnswer :
    let t := run1 (.anchorUpdateAnswer .done)
      (asking (anchoring active (update (some .done))) (.anchorWrite .b true))
    t.anchor.current = some .b ∧ t.ring.tail = 2 := by decide
/-- R141. -/
theorem test_anchorUpdateAnswer_fault :
    (run1 (.anchorUpdateAnswer .fault)
      (asking (anchoring active (update (some .done))) (.anchorWrite .b true))).anchor.stale = true := by decide
/-- R144: the generation is the new ring id. -/
theorem test_storeAnswer :
    let t := run1 (.storeAnswer .done)
      (asking (anchoring (calm .quiesced) (store (some .done))) (.anchorWrite .b true))
    t.ring.ringId = 6#32 ∧ t.anchor.current = some .b := by decide
/-- R145. -/
theorem test_storeAnswer_fault :
    (run1 (.storeAnswer .fault)
      (asking (anchoring (calm .quiesced) (store (some .done))) (.anchorWrite .b true))).management.flags =
      0x2040#14 := by decide
/-- R139: no valid copy. -/
theorem test_anchorReadAnswer :
    (run1 (.anchorReadAnswer .fault) (asking (loading [none, none, none]) (.anchorRead .b true))).modes =
      { mode := .bypass, cause := .noAnchor, freeze := false } := by decide
/-- R96. -/
theorem test_replayReadAnswer :
    (run1 (.replayReadAnswer .fault) (asking (rolling (.walking walk)) (.replayRead 3 false))).modes.cause =
      .replayFault := by decide
/-- R93. -/
theorem test_restoreWriteAnswer :
    (run1 (.restoreWriteAnswer .done)
      (asking (rolling (.walking { walk with outstanding := 2 })) (.restoreWrite 3 8#32))).replay.rollback =
      some { phase := .walking { walk with outstanding := 1 }, highest := 8#32 } := by decide
/-- R115: at issue + 2,048 µs. -/
theorem test_memoryTimeout :
    let t := run1 .memoryTimeout (asking active (.captureRead 1))
    t.modes.cause = .memoryTimeout ∧ t.pins.now = 2048 ∧ t.memory.queue = [] := by decide
/-- R163: READ of mode ACTIVE (code 3) and cause. -/
theorem test_read :
    (run1 (.read 0x0000#16 2#8) active).management.response = some { status := .ok, words := [3#32, 0#32] } := by decide
/-- R163. -/
theorem test_read_badItem :
    (run1 (.read 0x0012#16 1#8) active).management.response = some { status := .badItem, words := [] } := by decide
/-- R170: a covered counter is zeroed, one not covered is kept. -/
theorem test_counterSnapshot :
    let s := run1 (.write 0x001A#16 [1#32]) (bump .retries (bump .hostReads active))
    let t := run1 (.counterSnapshot 0x0020#16 1#8) s
    t.management.response = some { status := .ok, words := [1#32] } ∧
    (t.counter .hostReads, t.counter .retries) = (0#32, 1#32) := by decide
/-- R164: a read-only item. -/
theorem test_write_locked :
    (run1 (.write 0x0007#16 [1#32]) active).management.response = some { status := .locked, words := [] } := by decide
/-- R165: a flag is cleared where a 1 is written. -/
theorem test_eventFlagsWrite :
    (run1 (.eventFlagsWrite 1#32) (raise .halted (raise .commitDone active))).management.flags = 0x1000#14 := by decide
/-- R166: enabling a set flag drives IRQ# at once. -/
theorem test_eventEnablesWrite :
    (run1 (.eventEnablesWrite 1#32) (raise .commitDone active)).management.irq = true := by decide
/-- R142, R175: the host wait limit alone changes. -/
theorem test_pendingConfigWrite :
    (run1 (.pendingConfigWrite 0x0103#16 [0x1FF#32]) active).management.pending =
      { setup with waitLimit := 0xFF#8 } := by decide
/-- R8, R73. -/
theorem test_commit_empty :
    let t := run1 (.commit 0#16 0#8) active
    t.epochs.closedThrough = 8#32 ∧ t.epochs.table.opened.map (·.number) = some 9#32 := by decide
/-- R75, R77: an epoch with a record that has drained requests its marker. -/
theorem test_commit :
    (run1 (.commit 0#16 0#8) (withEpochs (calm .active) (some { fresh 8#32 .opened with lines := 1 }) none)).epochs.commit =
      some { epoch := 8#32, purpose := .commit, phase := .markerWriting 0 0#32 } := by decide
/-- R87, R88, R94: with nothing in the ring the CLOSE record is requested at once. -/
theorem test_abort :
    (run1 (.abort 0#16 0#8) active).replay.rollback = some { phase := .closing 0 0#32, highest := 8#32 } := by decide
/-- R148. -/
theorem test_quiesce : (run1 (.quiesce 0#16 0#8) active).modes.mode = .quiesced := by decide
/-- R151: from BYPASS with a valid configuration, the cause becomes NONE. -/
theorem test_resume :
    let s := { calm .bypass with modes := { mode := .bypass, cause := .noAnchor, freeze := false } }
    let t := run1 (.resume 0#16 0#8) s
    (t.modes.mode, t.modes.cause) = (.active, .none) ∧ t.epochs.table.opened.map (·.number) = some 1#32 := by decide
/-- R153. -/
theorem test_bypass :
    (run1 (.bypass 0#16 0#8) (calm .quiesced)).modes.mode = .bypass ∧
    (run1 (.bypass 0#16 0#8) active).management.response = some { status := .mode, words := [] } := by decide
/-- R143: the write goes to the copy that is not current. -/
theorem test_store :
    (run1 (.store 0#16 0#8) (calm .quiesced)).anchor.write.map (fun w => (w.target, w.generation)) =
      some (.b, 6#32) := by decide
/-- R143: 15 slots are out of range. -/
theorem test_store_badConfig :
    (run1 (.store 0#16 0#8) (run1 (.pendingConfigWrite 0x0101#16 [15#32]) (calm .quiesced))).management.response =
      some { status := .badConfig, words := [] } := by decide
/-- R168, R174: DATA-WRITE-FAULT is kind 2, ACTIVE mode 3, epoch and line present. -/
theorem test_errorPop :
    (run1 (.errorPop 0#16 0#8) (logError .dataWriteFault (some 8#32) (some 0x1000#32) none active)).management.response =
      some { status := .ok, words := [0x00030302#32, 8#32, 0x1000#32, 0#32] } := by decide
/-- R71, R174: the line is CAPTURING in slot 1. -/
theorem test_tagProbe :
    (run1 (.tagProbe 0#16 [0x1004#32]) (capturing active (.reading false))).management.response =
      some { status := .ok, words := [0xC0000110#32, 0#32] } := by decide
/-- R160. -/
theorem test_badFrame :
    (run1 .badFrame active).management.response = some { status := .badFrame, words := [] } := by decide
/-- R160. -/
theorem test_frameDiscarded : run1 .frameDiscarded active = active := by decide
/-- R128, R156. -/
theorem test_pfiAssert :
    let t := run1 .pfiAssert (current active (reading .grantWait))
    t.host.answer = some .retry ∧ t.modes.freeze = true := by decide
/-- R157. -/
theorem test_pfiDeassert : (run1 .pfiDeassert (run1 .pfiAssert active)).modes.freeze = false := by decide
/-- R158. -/
theorem test_resetAssert : (run1 .resetAssert active).pins.inReset = true := by decide
/-- R160: the response of the frame before is discarded, and MISO is no longer driven. -/
theorem test_resetAssert_frame :
    let s := run1 (.read 0x0000#16 1#8) active
    s.management.response ≠ none ∧ (run1 .resetAssert s).management.response = none ∧
    s.miso [0x01#8, 0x00#8] 1 = some 0x00#8 ∧ (run1 .resetAssert s).miso [0x01#8, 0x00#8] 1 = none := by decide
/-- R146, R158. -/
theorem test_resetRelease :
    run1 (.resetRelease 0#2 false) (run1 .resetAssert active) = State.reset := by decide
/-- R64: nothing but the queue. -/
theorem test_recordBodyAck :
    run1 .recordBodyAck (asking active (.recordWrite lineInfo false)) = active := by decide
/-- R136, R141. -/
theorem test_anchorLineAnswer :
    (run1 (.anchorLineAnswer .fault) (asking (anchoring active (update none)) (.anchorWrite .b false))).anchor.write =
      some (update (some .fault)) := by decide
/-- R92. -/
theorem test_replayHeadReadAnswer :
    (run1 (.replayHeadReadAnswer (.done [7#8]))
      (asking (rolling (.walking walk)) (.replayRead 3 true))).replay.headLine = some [7#8] := by decide
/-- Log entry 1, R133: an empty queue passes a tick. -/
theorem test_idle :
    step (deferring active (.ready [] 5)) =
      .next { deferring active (.ready [] 6) with pins := { active.pins with now := 1 } } := by rfl
/-- The front command runs on the queue's rest. -/
theorem test_step :
    step { active with pending := [.bypass 0#16 0#8, .pfiAssert] } =
      exec (.bypass 0#16 0#8) { active with pending := [.pfiAssert] } := by rfl

/-! ### States and operands that meet the hypotheses of the statements

One theorem for each statement that has hypotheses, with a value for each of its clauses. -/

/-- `s` with a host wait limit of 0. -/
def noLimit (s : State) : State :=
  { s with anchor := { s.anchor with working := { s.anchor.working with waitLimit := 0#8 } } }

/-- `s` during a freeze. -/
def frozen (s : State) : State := { s with modes := { s.modes with freeze := true } }

/-- `s` with slots 0, 1 and 3 of the deferred reads in use by requester 4, and slot 2 as given. -/
def crowded (s : State) (slot2 : Option Deferred) : State :=
  let d : Deferred := { deferred (.fetching .grantWait) with requester := 4#4 }
  { s with host := { s.host with deferred := #v[some d, some d, slot2, some d] } }

/-- `s` with 16 hold entries. -/
def crammed (s : State) : State := holding s (List.replicate 16 (held .pass .ready))

/-- `s` with commands that wait. -/
def waiting (s : State) : State := { s with pending := [.pfiAssert, .pfiDeassert] }

/-- `s` in reset. -/
def inReset (s : State) : State := { s with pins := { s.pins with inReset := true } }

theorem witness_StepRunsFrontCommand : (waiting active).pending = .pfiAssert :: [.pfiDeassert] := rfl

theorem witness_IdleStepPassesOneTick :
    ((inReset active).pending = [] ∧ (inReset active).pins.inReset = true) ∧
    (active.pending = [] ∧ active.pins.inReset = false ∧ active.modes.freeze = false) ∧
    ((frozen active).pending = [] ∧ (frozen active).pins.inReset = false ∧ (frozen active).modes.freeze = true) ∧
    (deferred (.ready zeros 7)).state = .ready zeros 7 ∧ (deferred (.fetching .inQueue)).state = .fetching .inQueue := by
  decide

/-- The last conjunct is RESET_ASSERT in reset, in a state that no run reaches: its response part goes there too. -/
theorem witness_ResetLines :
    ((inReset active).pins.inReset = true ∧ Instr.memoryIssue ≠ .pfiAssert ∧ Instr.memoryIssue ≠ .pfiDeassert ∧
      Instr.memoryIssue ≠ .resetAssert ∧ ∀ straps csLow, Instr.memoryIssue ≠ .resetRelease straps csLow) ∧
    (∀ straps : BitVec 2, { active.pins with straps := straps }.straps = straps) ∧
    (let s := inReset (run1 .badFrame active)
     s.pins.inReset = true ∧ s.management.response ≠ none ∧
      (run1 .resetAssert s).management.response = none) :=
  ⟨⟨rfl, by decide, by decide, by decide, nofun⟩, fun _ => rfl, rfl, by decide⟩

theorem witness_SerialOrder :
    after 2147483647#32 0#32 = true ∧ (2147483690#32 - 42#32).toNat = 2 ^ 31 ∧ after 0#32 4294967295#32 = true := by decide

theorem witness_FramesReadBack :
    ([] : List Word).length ≤ 255 ∧ (List.replicate 255 0#32).length ≤ 255 ∧
    -- A READ of one word, its bytes 0x01, address 0x0007, count 1, CRC-8: status at byte 6, response to byte 11.
    (let mosi : List Byte := [0x01#8, 0x00#8, 0x07#8, 0x01#8, crc8 [0x01#8, 0x00#8, 0x07#8, 0x01#8]] ++ List.replicate 8 0x00#8
     let x : Response := { status := .ok, words := [7#32] }
     requestLength mosi + 1 = 6 ∧ x.bytes.length = 6 ∧ 5 < mosi.length ∧ 5 < 6 ∧ 11 < mosi.length ∧ 11 < 6 + x.bytes.length ∧
       12 < mosi.length ∧ 6 + x.bytes.length ≤ 12) ∧
    -- RESET# asserted, the end of a frame of 2 bytes, and its last byte.
    ((inReset active).pins.inReset = true ∧ [0x01#8, 0x00#8].length ≤ 2 ∧
      active.pins.inReset = false ∧ 1 < [0x01#8, 0x00#8].length) ∧
    -- A long request with one word, a short one, an unknown code, and a frame that lacks its CRC-8.
    ([0#8, 0#8, 0#8, 0#8].length = 4 * (1#8).toNat ∧ ¬ (0x01#8 = 0x02#8 ∨ 0x01#8 = 0x2C#8) ∧
      0x01#8 ≠ crc8 [0x01#8, 0x00#8, 0x07#8, 0x01#8] ∧
      0x25#8 ∉ [0x01#8, 0x02#8, 0x20#8, 0x21#8, 0x22#8, 0x23#8, 0x24#8, 0x28#8, 0x2C#8, 0x30#8] ∧
      [0x02#8, 0x00#8, 0x18#8, 0x01#8, 0#8, 0#8, 0#8, 0#8].length <
        requestLength [0x02#8, 0x00#8, 0x18#8, 0x01#8, 0#8, 0#8, 0#8, 0#8]) := by
  refine ⟨by decide, by rw [List.length_replicate], ⟨rfl, by decide +kernel⟩, by decide,
    by decide +kernel⟩

theorem witness_RecordsReadBack :
    (lineInfo.kind = .line ↔ lineInfo.line.isSome = true) ∧
    ((marker .close).kind = .line ↔ (marker .close).line.isSome = true) ∧
    (6#32 ≠ 5#32 ∧ 10#32 ≠ lineInfo.sequence ∧ BitVec.ofNat 32 4 ≠ BitVec.ofNat 32 lineInfo.slot) := by decide

theorem witness_AnchorCopiesReadBack :
    (setup.valid 0#32 = true ∧ 15 < setup.slots.toNat) ∧
    ({ setup with slots := 1048576#32 }.valid 0#32 = true ∧ 1048575 < { setup with slots := 1048576#32 }.slots.toNat) := by
  decide

theorem witness_ConfigurationItems : 7 < 8 ∧ 22 ≠ 21 ∧ 23 ≤ 23 := by decide

theorem witness_LowestWindowClassifies :
    (setup.windows[0].contains 0x1FFF#32 = true ∧ setup.windows[0].mode = 1#2) ∧
    (setup.windows[1].contains 0x9000#32 = true ∧ (∀ j : Fin 8, j < 1 → setup.windows[j].contains 0x9000#32 = false) ∧
      setup.windows[1].mode = 2#2) ∧
    (let c := { setup with windows := setup.windows.set 7 ⟨true, 0xFFFFF#20, 0#20, 0#2⟩ }
     c.windows[7].contains 0xFFFFFFFF#32 = true ∧
      (∀ j : Fin 8, j < 7 → c.windows[j].contains 0xFFFFFFFF#32 = false) ∧ c.windows[7].mode = 0#2) ∧
    ((∀ i : Fin 8, setup.windows[i].contains 0x2000#32 = false) ∧ setup.defaultMode = 0#2) ∧
    (∀ i : Fin 8, { setup with defaultMode := 1#2 }.windows[i].contains 0x2000#32 = false) := by decide

/-- A read of 8 bytes at the given address. -/
def readAt (address : Word) (offset length : Nat) : HostRequest :=
  { reading .grantWait with address := address, offset := offset, length := length }

theorem witness_ArrivalTestsInOrder :
    (frozen active).modes.freeze = true ∧
    (active.modes.freeze = false ∧ 64 < (readAt 0x1004#32 4 61).offset + (readAt 0x1004#32 4 61).length) ∧
    ((calm .loading).modes.freeze = false ∧
      (readAt 0x1004#32 4 60).offset + (readAt 0x1004#32 4 60).length ≤ 64 ∧ (calm .loading).modes.mode = .loading) ∧
    (calm .recovering).modes.mode = .recovering ∧
    (active.modes.mode ≠ .loading ∧ active.modes.mode ≠ .recovering ∧
      active.guarded (readAt 0xFF#32 63 1).address = true ∧ active.guarded (readAt 0x10000#32 0 1).address = true ∧
      active.guarded (readAt 0x107FF#32 63 1).address = true ∧ active.guarded (readAt 0x100#32 0 1).address = false ∧
      active.guarded (readAt 0xFFFF#32 63 1).address = false ∧
      active.guarded (readAt 0x10800#32 0 1).address = false) := by decide

theorem witness_AnswerTable :
    (active.modes.mode = .active ∧ active.replay.rollback = none ∧
      ∃ e ∈ active.epochs.table.epochs, e.state = .opened) ∧
    ((rolling (.settling false false)).modes.mode = .active ∧ (rolling (.settling false false)).replay.rollback ≠ none) ∧
    (calm .quiescing).modes.mode = .quiescing ∧ (calm .quiesced).modes.mode = .quiesced ∧
    (calm .bypass).modes.mode = .bypass ∧ (calm .halted).modes.mode = .halted := by decide

theorem witness_RequestInHandJudgedAfresh :
    active.host.current = none ∧
    ((current (frozen active) writing).host.current = some writing ∧ (frozen active).modes.freeze = true) ∧
    (current (calm .quiesced) writing).judge writing.kind writing.cls = .retry ∧
    ((current (calm .halted) writing).modes.freeze = false ∧
      (current (calm .halted) writing).judge writing.kind writing.cls = .fault .halted) ∧
    (current active writing).judge writing.kind writing.cls = .journal ∧
    (current (calm .bypass) writing).judge writing.kind writing.cls = .forward ∧
    (current active (readAt 0x10000#32 0 1)).guarded (readAt 0x10000#32 0 1).address = true ∧
    (current active writing).guarded writing.address = false := by decide

theorem witness_ArrivalTestsInOrder_refused :
    (calm .quiesced).Running ∧ (calm .quiesced).host.current = none ∧
    (rolling (.settling false false)).judgeArrival
      ((rolling (.settling false false)).arrive .read 3#4 0x1004#32 1 []) = .retry ∧
    (calm .quiesced).judgeArrival ((calm .quiesced).arrive .read 3#4 0x103F#32 2 []) = .fault .boundary ∧
    (calm .quiesced).judgeArrival ((calm .quiesced).arrive .write 3#4 0x1004#32 1 [0#8]) = .retry ∧
    (calm .quiesced).judgeArrival ((calm .quiesced).arrive .write 3#4 0x9000#32 1 [0#8]) = .fault .readonly :=
  ⟨rfl, by decide⟩

theorem witness_HostReadForwarded :
    (active.Running ∧ active.host.current = none ∧
      active.judgeArrival (active.arrive .read 3#4 0x1000#32 64 []) = .forward ∧
      active.host.findSlot (fun d => d.matchesRequest (active.arrive .read 3#4 0x1000#32 64 [])) = none ∧
      active.anchor.working.waitLimit ≠ 0#8) ∧
    (let s := crowded (noLimit active) none
     s.Running ∧ s.NoCurrentRead ∧ s.host.current = none ∧
      s.judgeArrival (s.arrive .read 3#4 0x1000#32 64 []) = .forward ∧
      s.host.findSlot (fun d => d.matchesRequest (s.arrive .read 3#4 0x1000#32 64 [])) = none ∧
      s.anchor.working.waitLimit = 0#8 ∧ s.host.deferred[2] = none ∧
      ∀ j : Fin 4, j < 2 → s.host.deferred[j] ≠ none) ∧
    (let d : Deferred := { deferred (.fetching .grantWait) with requester := 4#4 }
     let s := crowded (noLimit active) (some d)
     (∀ i : Fin 4, s.host.deferred[i] ≠ none) ∧ ∀ i : Fin 4, s.host.deferred[i] = some d ∧ d.requester ≠ 3#4) ∧
    -- Requester 3 owns slot 2, the only slot it can free, for 8 bytes at offset 4, and asks for the whole line.
    (let s := crowded (noLimit active) (some (deferred (.fetching .grantWait)))
     let v := discardDeferred (fun d => d.requester == 3#4) s
     s.Running ∧ s.NoCurrentRead ∧ s.host.current = none ∧
      s.judgeArrival (s.arrive .read 3#4 0x1000#32 64 []) = .forward ∧
      s.host.findSlot (fun d => d.matchesRequest (s.arrive .read 3#4 0x1000#32 64 [])) = none ∧
      s.anchor.working.waitLimit = 0#8 ∧ s.host.deferred[2] = some (deferred (.fetching .grantWait)) ∧
      (deferred (.fetching .grantWait)).requester = 3#4 ∧ v.host.deferred[2] = none ∧
      ∀ j : Fin 4, j < 2 → v.host.deferred[j] ≠ none) :=
  ⟨⟨rfl, by decide⟩, ⟨rfl, fun _ h => (List.not_mem_nil h).elim, by decide⟩, by decide,
    ⟨rfl, fun _ h => (List.not_mem_nil h).elim, by decide⟩⟩

theorem witness_HostReadMatchesDeferred :
    (let s := deferring active (.ready zeros 7)
     s.Running ∧ s.host.current = none ∧ s.judgeArrival (s.arrive .read 3#4 0x1004#32 8 []) = .forward ∧
      s.host.findSlot (fun d => d.matchesRequest (s.arrive .read 3#4 0x1004#32 8 [])) = some 2 ∧
      s.host.deferred[2] = some (deferred (.ready zeros 7))) ∧
    (let s := deferring active (.fetching .inQueue)
     s.host.findSlot (fun d => d.matchesRequest (s.arrive .read 3#4 0x1004#32 8 [])) = some 2 ∧
      s.anchor.working.waitLimit ≠ 0#8) ∧
    (let s := deferring (noLimit active) (.fetching .lineWait)
     s.judgeArrival (s.arrive .read 3#4 0x1004#32 8 []) = .forward ∧
      s.host.findSlot (fun d => d.matchesRequest (s.arrive .read 3#4 0x1004#32 8 [])) = some 2 ∧
      s.anchor.working.waitLimit = 0#8) := ⟨⟨rfl, by decide⟩, by decide, by decide⟩

theorem witness_WritesOffered :
    (active.Running ∧ active.host.current = none ∧
      (holding active (List.replicate 15 (held .pass .ready))).hold.entries.length < 16 ∧
      active.judgeArrival (active.arrive .write 3#4 0x2000#32 1 [0#8]) = .forward ∧
      active.judgeArrival (active.arrive .write 3#4 0x1000#32 1 [0#8]) = .journal) ∧
    ((crammed active).host.current = none ∧ 16 ≤ (crammed active).hold.entries.length ∧
      (crammed active).judgeArrival ((crammed active).arrive .write 3#4 0x1000#32 1 [0#8]) = .journal ∧
      (crammed active).anchor.working.waitLimit ≠ 0#8 ∧ (noLimit (crammed active)).anchor.working.waitLimit = 0#8) ∧
    ((current active writing).host.current = some writing ∧ writing.wait = .placeWait ∧
      16 ≤ (current (crammed active) writing).hold.entries.length ∧
      (current active writing).hold.entries.length < 16 ∧
      (current active writing).judge writing.kind writing.cls = .journal ∧
      (current (calm .bypass) writing).judge writing.kind writing.cls = .forward) :=
  ⟨⟨rfl, by decide⟩, by decide, by decide⟩

/-- `s` with `n` tag table entries of another line. -/
def tagged (s : State) (n : Nat) : State :=
  { s with capture := { s.capture with tags := List.replicate n { key := ⟨0x1FC0#32, 8#32⟩, state := .saved } } }

theorem witness_TakenWrites :
    (writing.window = some 0 ∧ active.epochs.table.opened = some (fresh 8#32 .opened)) ∧
    (tagged active 1).capture.tagState ⟨0x1FC0#32, 8#32⟩ = some .saved ∧
    (capturing active (.reading false)).capture.tagState ⟨0x1000#32, 8#32⟩ = some (.capturing (some 0) (some 1)) ∧
    ((tagged active 255).capture.tagState ⟨0x1000#32, 8#32⟩ = none ∧ (tagged active 255).capture.tags.length < 256) ∧
    ((tagged active 256).capture.tagState ⟨0x1000#32, 8#32⟩ = none ∧ 256 ≤ (tagged active 256).capture.tags.length) := by
  decide +kernel

theorem witness_DeferredDiscard : Counter.holdFullWaits ≠ .deferredDiscarded := by decide

theorem witness_LineWaitCleared :
    (active.Running ∧ ∃ e ∈ (holding active [held .pass .ready]).hold.entries, e.line = 0x1000#32) ∧
    (∀ e ∈ (deferring (current active (reading .lineWait)) (.fetching .lineWait)).hold.entries, e.line ≠ 0x1000#32) ∧
    (deferring (current active (reading .lineWait)) (.fetching .lineWait)).host.current = some (reading .lineWait) ∧
    (deferring (current active (reading .lineWait)) (.fetching .lineWait)).host.deferred[2] =
      some (deferred (.fetching .lineWait)) := ⟨⟨rfl, by decide⟩, by decide⟩

theorem witness_HostPortLimits :
    (let s := deferring active (.ready zeros 0)
     s.Running ∧ s.host.deferred[2] = some (deferred (.ready zeros 0)) ∧ s.modes.freeze = false) ∧
    ((frozen (deferring active (.ready zeros 255))).modes.freeze = true ∧
      255 < (frozen (deferring active (.ready zeros 255))).anchor.working.discardLimit.toNat ∧
      (frozen (deferring active (.ready zeros 256))).anchor.working.discardLimit.toNat ≤ 256) ∧
    (writing.wait = .placeWait ∧ (reading (.slotWait 2)).wait = .slotWait 2 ∧ (reading .lineWait).wait = .lineWait ∧
      (reading .memoryWait).wait = .memoryWait) ∧
    (let s := current (crowded active none) (reading .grantWait)
     s.host.current = some (reading .grantWait) ∧
     (let v := discardDeferred (fun d => d.requester == 3#4) (elapseTo (0 + s.anchor.working.waitLimit.toNat) s)
      v.host.deferred[2] = none ∧ ∀ j : Fin 4, j < 2 → v.host.deferred[j] ≠ none)) ∧
    (let s := current (crowded active (some { deferred (.fetching .grantWait) with requester := 4#4 })) (reading .grantWait)
     let v := discardDeferred (fun d => d.requester == 3#4) (elapseTo (0 + s.anchor.working.waitLimit.toNat) s)
     ∀ i : Fin 4, v.host.deferred[i] ≠ none) := ⟨⟨rfl, by decide⟩, by decide⟩

/-- `s` with `n` slots of the ring in use. -/
def spent (s : State) (n : Nat) : State := { s with ring := { s.ring with used := n } }

/-- `s` with this queue of memory requests. -/
def queueing (s : State) (queue : List MemoryEntry) : State := { s with memory := { s.memory with queue := queue } }

/-- A WAITING request. -/
def unissued : MemoryEntry := { issued (.captureRead 0) with issued := none }

/-- A JOURNAL entry of epoch 8 that needs a capture. -/
def needy : HoldEntry := held (.journal 8#32 0) .needsCapture

theorem witness_CaptureStarts :
    (let c := some (capture (.reading false))
     ∀ j : Fin 4, ({ active with capture := { active.capture with slots := #v[c, c, c, c] } } : State).capture.slots[j] ≠
       none) ∧
    (let older : List HoldEntry := [{ held .pass .ready with id := 7, line := 0x2000#32 }]
     let s := holding { active with capture := { active.capture with slots := active.capture.slots.set 0 (some (capture (.reading false))) } }
       (older ++ needy :: [needy])
     s.Running ∧ s.hold.entries = older ++ needy :: [needy] ∧
      (needy.cls = .journal 8#32 0 ∧ needy.state = .needsCapture ∧ needy.capture = none ∧
        ∀ x ∈ older, x.line ≠ needy.line) ∧
      (∀ (pre post : List HoldEntry) (x : HoldEntry), older = pre ++ x :: post →
        x.cls = .pass ∨ x.state ≠ .needsCapture ∨ x.capture ≠ none ∨ ∃ y ∈ pre, y.line = x.line) ∧
      (s.capture.slots[1] = none ∧ ∀ j : Fin 4, j < 1 → s.capture.slots[j] ≠ none) ∧
      (spent s 14).anchor.working.slots.toNat - (spent s 14).ring.used - (spent s 14).ring.promised ≤ 2 ∧
      2 < (spent s 13).anchor.working.slots.toNat - (spent s 13).ring.used - (spent s 13).ring.promised) := by
  refine ⟨by decide, rfl, rfl, by decide, ?_, by decide, by decide⟩
  intro pre post x h
  have hx : x ∈ [({ held .pass .ready with id := 7, line := 0x2000#32 } : HoldEntry)] := by rw [h]; simp
  left
  rw [List.mem_singleton.1 hx]
  rfl

theorem witness_ArbiterOrder :
    ((frozen active).modes.freeze = true ∨ 16 ≤ (frozen active).memory.queue.length) ∧
    16 ≤ (queueing active (List.replicate 16 unissued)).memory.queue.length ∧
    (¬ (active.modes.freeze = true ∨ 16 ≤ (queueing active (List.replicate 15 unissued)).memory.queue.length)) ∧
    ({ active with replay := { active.replay with requests := [.readHead 3] } } : State).replay.requests ≠ [] ∧
    (State.reset.replay.requests = [] ∧ State.reset.anchorRequest ≠ none) ∧
    (recording.replay.requests = [] ∧ recording.anchorRequest = none ∧ recording.ring.writes ≠ []) ∧
    (active.replay.requests = [] ∧ active.anchorRequest = none ∧ active.ring.writes = [] ∧ active.capture.reads = []) ∧
    (let s := current active (reading .grantWait)
     (∃ r : HostRequest, s.host.current = some r ∧ r.wait = .grantWait ∧ ¬ ∃ e ∈ s.hold.entries, e.line = r.line) ∧
     s.memory.turn = .host) ∧
    (let s := deferring active (.fetching .grantWait)
     ¬ (∃ r : HostRequest, s.host.current = some r ∧ r.wait = .grantWait ∧ ¬ ∃ e ∈ s.hold.entries, e.line = r.line) ∧
     (∃ d : Deferred, s.host.deferred[2] = some d ∧ d.state = .fetching .grantWait ∧
       ¬ ∃ e ∈ s.hold.entries, e.line = d.line) ∧
     (∀ j : Fin 4, j < 2 → s.host.deferred[j] = none) ∧
     ¬ ∃ (e : HoldEntry) (rest : List HoldEntry), s.hold.entries = e :: rest ∧ e.state = .ready) ∧
    (∃ (e : HoldEntry) (rest : List HoldEntry),
      (holding active [held .pass .ready]).hold.entries = e :: rest ∧ e.state = .ready) ∧
    active.Running ∧ active.arbiter = none := by
  refine ⟨by decide, by decide, by decide, by decide, by decide, by decide, by decide, ⟨⟨_, rfl, rfl, by decide⟩, rfl⟩, ?_,
    ⟨_, _, rfl, rfl⟩, rfl, by decide⟩
  refine ⟨?_, ⟨_, rfl, rfl, by decide⟩, by decide, ?_⟩
  · rintro ⟨r, h, -⟩
    cases h
  · rintro ⟨e, rest, h, -⟩
    cases h

theorem witness_Grants_fifthLevel :
    active.Running ∧
    ((holding active [held .pass .ready]).arbiter = some .hold ∧ (held .pass .ready).cls = .pass) ∧
    ((holding active [held (.journal 8#32 0) .ready]).arbiter = some .hold ∧
      (held (.journal 8#32 0) .ready).cls = .journal 8#32 0) ∧
    ((current active (reading .grantWait)).arbiter = some .hostRead ∧
      (current active (reading .grantWait)).host.current = some (reading .grantWait)) ∧
    ((deferring active (.fetching .grantWait)).arbiter = some (.deferredFetch 2) ∧
      (deferring active (.fetching .grantWait)).host.deferred[2] = some (deferred (.fetching .grantWait))) :=
  ⟨rfl, by decide⟩

/-- LOADING with `granted` of the four reads granted. -/
def granted (n : Nat) : State :=
  { State.reset with anchor := { State.reset.anchor with loading := some { granted := n, answers := [] } } }

/-- `s` with the replay engine's request. -/
def requesting (s : State) (q : ReplayRequest) : State := { s with replay := { s.replay with requests := [q] } }

theorem witness_Grants_levelsAbove :
    active.Running ∧
    (let s := { capturing active (.reading false) with capture := { (capturing active (.reading false)).capture with reads := [1] } }
     s.arbiter = some .capture ∧ s.capture.reads = [1] ∧ s.capture.slots[1] = some (capture (.reading false))) ∧
    (recording.arbiter = some .record ∧ recording.ring.writes =
      [{ info := marker .commit, isHead := true, address := 0x10180#32, data := [] }]) ∧
    (∀ n : Fin 4, (granted n).arbiter = some .anchor ∧ (granted n).anchor.loading = some ⟨n, []⟩) ∧
    (∀ n : Fin 2, (anchoring active { update none with granted := n }).arbiter = some .anchor ∧
      (anchoring active { update none with granted := n }).anchor.loading = none ∧
      (anchoring active { update none with granted := n }).anchor.write = some { update none with granted := n }) ∧
    ((requesting active (.readHead 15)).arbiter = some .replay ∧ (requesting active (.readBody 0)).arbiter = some .replay ∧
      (requesting active (.restore 3 8#32 0x1000#32 zeros)).arbiter = some .replay) := ⟨rfl, by decide⟩

theorem witness_MemoryIssued :
    active.Running ∧
    4 ≤ (queueing active (List.replicate 4 (issued (.captureRead 0)) ++ [unissued])).memory.queue.countP
      (fun e => e.issued.isSome) ∧
    (∀ e ∈ (asking active (.captureRead 0)).memory.queue, e.issued.isSome = true) ∧
    ((∀ x ∈ List.replicate 3 (issued (.captureRead 0)), x.issued.isSome = true) ∧ unissued.issued = none ∧
      (queueing active (List.replicate 3 (issued (.captureRead 0)) ++ unissued :: [unissued])).memory.queue.countP
        (fun e => e.issued.isSome) < 4) := ⟨rfl, by decide⟩

theorem witness_TimeoutsEndIssuedRequests :
    (active.Running ∧ ∀ e rest, (queueing active [unissued]).memory.queue = e :: rest → e.issued = none) ∧
    (let s := queueing (current active (reading .memoryWait)) [issued (.hostRead 3#4 .current), unissued]
     s.Running ∧ s.Awaits (issued (.hostRead 3#4 .current)) [unissued] ∧ s.HaltQuiet ∧ s.NoFaultedFirstLine ∧
      (issued (.hostRead 3#4 .current)).issued = some 0 ∧ s.modes.mode ≠ .halted ∧ s.management.log.length < 8 ∧
      s.host.current = some (reading .memoryWait) ∧ s.modes.freeze = false ∧ (reading .memoryWait).kind = .read) ∧
    (let s := asking (calm .halted) (.holdRelease none)
     s.Awaits (issued (.holdRelease none)) [] ∧ s.HaltQuiet ∧ s.modes.mode = .halted) := by
  refine ⟨⟨rfl, ?_⟩, ⟨rfl, ⟨rfl, rfl⟩, nofun, nofun, by decide⟩, ⟨rfl, rfl⟩, ?_, rfl⟩
  · intro e rest h
    cases h
    rfl
  · intro _
    decide

/-- The clauses for what a timeout ends: a current read behind the oldest request, one that waits on a slot whose fetch is
ISSUED, a slot whose fetch is not, and the lines of an anchor write. -/
theorem witness_TimeoutsEndIssuedRequests_ended :
    (let first := issued (.holdRelease none)
     let rest := [issued (.hostRead 3#4 .current), issued (.deferredFetch 2 false), issued (.hostRead 3#4 (.slot 1)), unissued]
     let s := queueing (current (deferring active (.fetching .inQueue)) (reading (.slotWait 2))) (first :: rest)
     s.Running ∧ s.Awaits first rest ∧ s.HaltQuiet ∧ s.host.current = some (reading (.slotWait 2)) ∧
      (reading (.slotWait 2)).wait = .slotWait 2 ∧
      (∃ x ∈ s.memory.queue, x.issued.isSome = true ∧ ∃ q, x.source = .hostRead q .current) ∧
      (∃ x ∈ s.memory.queue, x.issued.isSome = true ∧ x.source = .deferredFetch 2 false) ∧
      (∃ x ∈ s.memory.queue, x.issued.isSome = true ∧ ∃ q, x.source = .hostRead q (.slot 1)) ∧
      ∀ x ∈ s.memory.queue, x.source ≠ .deferredFetch 0 false ∧ ∀ q, x.source ≠ .hostRead q (.slot 0)) ∧
    (let lines := fun s : State => s.memory.queue.filterMap fun x =>
       match x.source with
       | .anchorWrite _ second => if x.issued.isSome then some second else none
       | _ => none
     let s := anchoring active (update none)
     let done := anchoring active (update (some .done))
     let one := [issued (.anchorWrite .b false), { issued (.anchorWrite .b true) with issued := none }]
     lines (asking s (.holdRelease none)) = [] ∧ lines (queueing s one) = [false] ∧
      lines (asking done (.anchorWrite .b true)) = [true] ∧ (update (some .done)).first ≠ none ∧
      lines (queueing s [issued (.anchorWrite .b false), issued (.anchorWrite .b true)]) = [false, true] ∧
      (asking done (.anchorWrite .b true)).Awaits (issued (.anchorWrite .b true)) [] ∧ s.anchor.write = some (update none) ∧
      (update none).kind = .update 2 2#32 false ∧ (anchoring active (store none)).anchor.write = some (store none) ∧
      (store none).kind = .store setup) := by
  refine ⟨⟨rfl, ⟨rfl, rfl⟩, nofun, rfl, rfl, ⟨issued (.hostRead 3#4 .current), by decide, rfl, 3#4, rfl⟩,
    ⟨issued (.deferredFetch 2 false), by decide, rfl, rfl⟩, ⟨issued (.hostRead 3#4 (.slot 1)), by decide, rfl, 3#4, rfl⟩, ?_⟩,
    rfl, rfl, rfl, by decide, rfl, ⟨rfl, rfl⟩, rfl, rfl, rfl, rfl⟩
  intro x hx
  simp only [queueing, List.mem_cons, List.not_mem_nil, or_false] at hx
  rcases hx with rfl | rfl | rfl | rfl | rfl <;> exact ⟨nofun, nofun⟩

theorem witness_HostReadAnswers :
    (let s := asking (current active (reading .memoryWait)) (.hostRead 3#4 .current)
     s.Running ∧ s.Awaits (issued (.hostRead 3#4 .current)) [] ∧ s.host.current = some (reading .memoryWait)) ∧
    (asking active (.hostRead 3#4 .abandoned)).Awaits (issued (.hostRead 3#4 .abandoned)) [] ∧
    (asking active (.deferredFetch 3 true)).Awaits (issued (.deferredFetch 3 true)) [] ∧
    (let s := asking (deferring active (.fetching .inQueue)) (.hostRead 3#4 (.slot 2))
     s.Awaits (issued (.hostRead 3#4 (.slot 2))) [] ∧ s.host.deferred[2] = some (deferred (.fetching .inQueue)) ∧
      ∀ r, s.host.current = some r → r.wait ≠ .slotWait 2) ∧
    (let s := asking (current (deferring active (.fetching .inQueue)) (reading (.slotWait 2))) (.deferredFetch 2 false)
     s.Awaits (issued (.deferredFetch 2 false)) [] ∧ s.host.deferred[2] = some (deferred (.fetching .inQueue)) ∧
      s.host.current = some (reading (.slotWait 2)) ∧ (reading (.slotWait 2)).wait = .slotWait 2) :=
  ⟨⟨rfl, ⟨rfl, rfl⟩, rfl⟩, ⟨rfl, rfl⟩, ⟨rfl, rfl⟩, ⟨⟨rfl, rfl⟩, rfl, nofun⟩, ⟨rfl, rfl⟩, rfl, rfl, rfl⟩

theorem witness_DataWriteAnswers :
    ((asking active (.holdRelease (some 8#32))).Running ∧
      (asking active (.holdRelease (some 8#32))).Awaits (issued (.holdRelease (some 8#32))) []) ∧
    (asking active (.holdRelease none)).Awaits (issued (.holdRelease none)) [] := ⟨⟨rfl, rfl, rfl⟩, rfl, rfl⟩

/-- `s` with 8 entries in the error log. -/
def erring (s : State) (n : Nat) : State :=
  let e : ErrorEntry := { kind := .replayFault, epoch := some 8#32, line := none, slot := some 3, mode := .active }
  { s with management := { s.management with log := List.replicate n e } }

theorem witness_EventsCountersAndLog :
    (erring active 7).management.log.length < 8 ∧ 8 ≤ (erring active 8).management.log.length := by decide

/-- QUIESCING with epoch 8 COMMITTING in DRAINING. -/
def quiescing : State :=
  withEpochs (calm .quiescing) (some (fresh 8#32 .committing)) none
    (some { epoch := 8#32, purpose := .quiesce, phase := .draining })

theorem witness_DamageReports :
    active.epochs.table.find 9#32 = none ∧
    active.epochs.table.find 8#32 = some (fresh 8#32 .opened) ∧
    (fresh 8#32 .opened).damaged = false ∧ ({ fresh 8#32 .opened with damaged := true } : LiveEpoch).damaged = true ∧
    (committing.epochs.table.find 8#32 = some (fresh 8#32 .committing) ∧ committing.modes.mode ≠ .quiescing) ∧
    (quiescing.epochs.table.find 8#32 = some (fresh 8#32 .committing) ∧ quiescing.modes.mode = .quiescing) := by decide

theorem witness_HaltStopsJournalWork :
    (calm .halted).modes.mode = .halted ∧ active.modes.mode ≠ .halted ∧ active.modes.mode ≠ .recovering ∧
    (asking active (.recordWrite lineInfo true)).Running ∧
    (asking active (.recordWrite lineInfo true)).Awaits (issued (.recordWrite lineInfo true)) [] ∧
    (asking (recovering .closing) (.recordWrite (marker .close) true)).Awaits (issued (.recordWrite (marker .close) true))
      [] ∧ (recovering .closing).modes.mode = .recovering :=
  ⟨rfl, by decide, by decide, rfl, ⟨rfl, rfl⟩, ⟨rfl, rfl⟩, rfl⟩

theorem witness_DrainAndSettle :
    (let q : CommitSequence := { epoch := 8#32, purpose := .commit, phase := .draining }
     committing.epochs.commit = some q ∧ q.phase = .draining ∧ committing.replay.rollback = none ∧
      committing.epochs.table.find q.epoch = some (fresh 8#32 .committing) ∧ (fresh 8#32 .committing).held = 0 ∧
      (fresh 8#32 .committing).out = 0 ∧
      1 ≤ (spent committing 15).anchor.working.slots.toNat - (spent committing 15).ring.used - (spent committing 15).ring.promised ∧
      (spent committing 16).anchor.working.slots.toNat - (spent committing 16).ring.used - (spent committing 16).ring.promised = 0) ∧
    (withEpochs active (some { fresh 8#32 .committing with out := 1 }) none).epochs.table.find 8#32 =
      some { fresh 8#32 .committing with out := 1 } ∧
    (active.epochs.commit = none ∧ active.replay.rollback = none) ∧
    (let s := rolling (.settling false false)
     s.epochs.commit = none ∧ s.replay.rollback = some { phase := .settling false false, highest := 8#32 } ∧
      (∀ x ∈ s.epochs.table.epochs, x.held = 0 ∧ x.out = 0) ∧ (∀ i : Fin 4, s.capture.slots[i] = none) ∧
      (∃ i : Fin 4, (capturing s (.reading true)).capture.slots[i] ≠ none) ∧
      s.ring.used = 0 ∧ (spent s 1).ring.used ≠ 0) ∧
    (∃ x ∈ (withEpochs active (some { fresh 8#32 .rollingBack with held := 1 }) none).epochs.table.epochs,
      0 < x.held ∨ 0 < x.out) := by decide

theorem witness_CaptureReadDone :
    (let s := asking (capturing active (.reading false)) (.captureRead 1)
     s.Running ∧ s.Awaits (issued (.captureRead 1)) [] ∧ s.capture.slots[1] = some (capture (.reading false)) ∧
      (capture (.reading false)).phase = .reading false ∧
      ∀ o, s.epochs.table.opened = some o → o.number = (capture (.reading false)).epoch →
        o.threshold = 0#16 ∨ o.lines + 1 < o.threshold.toNat) ∧
    (let o := { fresh 8#32 .opened with threshold := 1#16 }
     (withEpochs active (some o) none).epochs.table.opened = some o ∧ o.number = (capture (.reading false)).epoch ∧
      o.threshold ≠ 0#16 ∧ o.threshold.toNat ≤ o.lines + 1) := by
  refine ⟨⟨rfl, ⟨rfl, rfl⟩, rfl, rfl, ?_⟩, by decide⟩
  intro o h _
  cases h
  exact .inl rfl

theorem witness_CaptureReadsGivenUp :
    (let s := asking (capturing active (.reading true)) (.captureRead 1)
     s.Running ∧ s.Awaits (issued (.captureRead 1)) [] ∧ s.capture.slots[1] = some (capture (.reading true)) ∧
      (capture (.reading true)).phase = .reading true) ∧
    (capture (.reading false)).phase = .reading false ∧
    ((asking (calm .halted) (.captureRead 3)).Awaits (issued (.captureRead 3)) [] ∧
      (asking (calm .halted) (.captureRead 3)).capture.slots[3] = none) :=
  ⟨⟨rfl, ⟨rfl, rfl⟩, rfl, rfl⟩, rfl, ⟨rfl, rfl⟩, rfl⟩

theorem witness_LineRecordsDurable :
    ((asking active (.recordWrite lineInfo false)).Running ∧
      (asking active (.recordWrite lineInfo false)).Awaits (issued (.recordWrite lineInfo false)) []) ∧
    ((asking (calm .halted) (.recordWrite lineInfo true)).Awaits (issued (.recordWrite lineInfo true)) [] ∧
      (calm .halted).modes.mode = .halted) ∧
    (let s := asking (capturing active (.writing zeros 3 9#32)) (.recordWrite lineInfo true)
     s.Awaits (issued (.recordWrite lineInfo true)) [] ∧ s.modes.mode ≠ .halted ∧ lineInfo.kind = .line ∧
      s.capture.slots[1] = some (capture (.writing zeros 3 9#32)) ∧
      (capture (.writing zeros 3 9#32)).phase = .writing zeros lineInfo.slot lineInfo.sequence ∧
      (∀ j : Fin 4, j < 1 → s.capture.slots[j] = none) ∧
      s.epochs.table.opened = some (fresh 8#32 .opened) ∧ (fresh 8#32 .opened).number = 8#32) ∧
    (committing.epochs.table.opened = some (fresh 9#32 .opened) ∧ (fresh 9#32 .opened).number ≠ 8#32) :=
  ⟨⟨rfl, rfl, rfl⟩, ⟨⟨rfl, rfl⟩, rfl⟩, ⟨⟨rfl, rfl⟩, by decide⟩, by decide⟩

/-- The commit sequence of epoch 8 waiting for its marker in slot 3. -/
def marking (purpose : CommitPurpose) : CommitSequence :=
  { epoch := 8#32, purpose := purpose, phase := .markerWriting 3 9#32 }

/-- The recovery of `recovering`. -/
def recovery (phase : RecoveryPhase) : Recovery :=
  { phase := phase, ringId := 5#32, runLength := none, lastMarker := none, cutoff := some 7#32, highest := none,
    recoveredThrough := some 7#32 }

theorem witness_MarkersDurable :
    (let s := asking (withEpochs (calm .active) (some (fresh 9#32 .opened)) (some (fresh 8#32 .committing))
       (some (marking .commit))) (.recordWrite (marker .commit) true)
     s.Running ∧ s.Awaits (issued (.recordWrite (marker .commit) true)) [] ∧ s.modes.mode ≠ .halted ∧
      (marker .commit).kind = .commit ∧ s.epochs.commit = some (marking .commit) ∧
      (marking .commit).epoch = (marker .commit).epoch ∧ (marking .commit).purpose = .commit ∧
      s.epochs.heldTrigger = false ∧ (frozen s).modes.freeze = true ∧
      ({ s with epochs := { s.epochs with heldTrigger := true } } : State).epochs.heldTrigger = true ∧
      s.modes.freeze = false ∧ (marking .quiesce).purpose = .quiesce) ∧
    (let s := asking (rolling (.closing 3 9#32)) (.recordWrite (marker .close) true)
     s.Awaits (issued (.recordWrite (marker .close) true)) [] ∧ (marker .close).kind = .close ∧ s.modes.mode ≠ .halted ∧
      s.replay.rollback = some { phase := .closing 3 9#32, highest := 8#32 }) ∧
    (let s := asking (recovering .closing) (.recordWrite (marker .close) true)
     s.Awaits (issued (.recordWrite (marker .close) true)) [] ∧ s.modes.mode ≠ .halted ∧ s.replay.rollback = none ∧
      s.replay.recovery = some (recovery .closing) ∧ (recovery .closing).phase = .closing) :=
  ⟨⟨rfl, ⟨rfl, rfl⟩, by decide⟩, ⟨⟨rfl, rfl⟩, by decide⟩, ⟨rfl, rfl⟩, by decide⟩

/-- ACTIVE with epoch 9 OPEN beside epoch 8 FAILED. -/
def failing : State := withEpochs (calm .active) (some (fresh 9#32 .opened)) (some (fresh 8#32 .failed))

theorem witness_TriggersAndTheirReexamination :
    (active.modes.mode = .active ∧ (∃ o, active.epochs.table.opened = some o) ∧ active.modes.freeze = false) ∧
    (¬ ((calm .quiesced).modes.mode = .active ∧ (∃ o, (calm .quiesced).epochs.table.opened = some o) ∧
      (calm .quiesced).modes.freeze = false)) ∧
    (let s := { active with replay := (rolling (.settling false false)).replay }
     s.epochs.table.opened = some (fresh 8#32 .opened) ∧ s.modes.mode = .active ∧ s.modes.freeze = false ∧
      s.replay.rollback ≠ none) ∧
    (committing.replay.rollback = none ∧ ∃ x ∈ committing.epochs.table.epochs, x.state = .committing) ∧
    (failing.replay.rollback = none ∧ (¬ ∃ x ∈ failing.epochs.table.epochs, x.state = .committing) ∧
      ∃ x ∈ failing.epochs.table.epochs, x.state = .failed) ∧
    ((¬ ∃ x ∈ active.epochs.table.epochs, x.state = .committing) ∧ (¬ ∃ x ∈ active.epochs.table.epochs, x.state = .failed) ∧
      active.epochs.table.opened = some (fresh 8#32 .opened) ∧ (fresh 8#32 .opened).damaged = false ∧
      (fresh 8#32 .opened).lines = 0 ∧ (fresh 8#32 .opened).held = 0 ∧ (fresh 8#32 .opened).out = 0) ∧
    (let o := { fresh 8#32 .opened with damaged := true, lines := 1 }
     (withEpochs active (some o) none).epochs.table.opened = some o ∧ o.damaged = true ∧ 0 < o.lines) ∧
    ({ active with epochs := { active.epochs with fullRequest := true } } : State).epochs.fullRequest = true ∧
    (let o := { fresh 8#32 .opened with lines := 1, threshold := 1#16, firstTime := some 5, ageLimit := 1#16 }
     let s := withEpochs active (some o) none
     active.Running ∧ s.epochs.table.opened = some o ∧ o.threshold ≠ 0#16 ∧ o.threshold.toNat ≤ o.lines ∧
      s.modes.freeze = false ∧ o.firstTime = some 5 ∧ o.ageLimit ≠ 0#16) ∧
    ((frozen active).Running ∧ (frozen active).modes.freeze = true) := by
  refine ⟨⟨rfl, ⟨_, rfl⟩, rfl⟩, ?_, by decide, by decide, by decide, by decide, by decide, rfl, ⟨rfl, by decide⟩, rfl, rfl⟩
  rintro ⟨h, -⟩
  cases h

theorem witness_SpaceIndications :
    (let s := active
     (true = true ↔
      16 ≤ s.anchor.working.slots.toNat ∧ s.anchor.working.slots.toNat ≤ 1048576 ∧
        s.anchor.working.slots.toNat - s.ring.used - s.ring.promised ≤ s.anchor.working.watermark.toNat) ∧
     (false = true ↔
      s.modes.mode = .active ∧ s.anchor.working.slots.toNat - s.ring.used - s.ring.promised ≤ 2 ∧
        (∃ i : Fin 4, s.capture.slots[i] = none) ∧
        ∃ (older younger : List HoldEntry) (e : HoldEntry),
          s.hold.entries = older ++ e :: younger ∧ e.cls ≠ .pass ∧ e.state = .needsCapture ∧ e.capture = none ∧
          ∀ x ∈ older, x.line ≠ e.line)) ∧
    (let s := spent (holding active [needy]) 14
     (true = true ↔
      16 ≤ s.anchor.working.slots.toNat ∧ s.anchor.working.slots.toNat ≤ 1048576 ∧
        s.anchor.working.slots.toNat - s.ring.used - s.ring.promised ≤ s.anchor.working.watermark.toNat) ∧
     (true = true ↔
      s.modes.mode = .active ∧ s.anchor.working.slots.toNat - s.ring.used - s.ring.promised ≤ 2 ∧
        (∃ i : Fin 4, s.capture.slots[i] = none) ∧
        ∃ (older younger : List HoldEntry) (e : HoldEntry),
          s.hold.entries = older ++ e :: younger ∧ e.cls ≠ .pass ∧ e.state = .needsCapture ∧ e.capture = none ∧
          ∀ x ∈ older, x.line ≠ e.line) ∧
     s.ring.blocked = false ∧ s.anchor.working.fullPolicy ≠ 1#2 ∧ { setup with fullPolicy := 1#2 }.fullPolicy = 1#2) ∧
    ({ active with ring := { active.ring with blocked := true } } : State).ring.blocked = true := by
  refine ⟨⟨⟨fun _ => by decide, fun _ => rfl⟩, ⟨nofun, ?_⟩⟩,
    ⟨⟨fun _ => by decide, fun _ => rfl⟩, ⟨fun _ => ⟨rfl, by decide, by decide, [], [], needy, rfl, by decide⟩, fun _ => rfl⟩,
      by decide⟩, rfl⟩
  rintro ⟨-, h, -⟩
  exact absurd h (by decide)

theorem witness_AnchorUpdatesBuilt :
    (anchoring active (update none)).anchor.write ≠ none ∧
    (active.anchor.write = none ∧ active.replay.recovery = none ∧ ∀ x ∈ active.epochs.table.epochs, x.firstSlot = none) ∧
    (let e := { fresh 8#32 .committing with firstSlot := some 15 }
     let s := withEpochs (calm .active) (some { fresh 9#32 .opened with firstSlot := some 0 }) (some e)
     e ∈ s.epochs.table.epochs ∧ e.firstSlot = some 15 ∧
      ∀ x ∈ s.epochs.table.epochs, x.firstSlot ≠ none → x = e ∨ after x.number e.number = true) ∧
    ((recovering .anchoring).anchor.write = none ∧ (recovering .anchoring).replay.recovery = some (recovery .anchoring) ∧
      (recovery .anchoring).phase = .anchoring ∧ (recovery .anchoring).recoveredThrough = some 7#32) := by decide

theorem witness_AnchorUpdateAnswers :
    (let s := asking (anchoring active (update none)) (.anchorWrite .b false)
     s.Running ∧ s.Awaits (issued (.anchorWrite .b false)) [] ∧ s.anchor.write = some (update none)) ∧
    (let s := asking (anchoring active (update (some .done))) (.anchorWrite .b true)
     s.Awaits (issued (.anchorWrite .b true)) [] ∧ s.anchor.write = some (update (some .done)) ∧
      (update (some .done)).kind = .update 2 2#32 false ∧ s.replay.recovery = none ∧ s.anchor.pendingUpdate = false ∧
      ∀ q, s.epochs.commit = some q → q.phase ≠ .anchorWait) ∧
    ((update (some .done)).first = some .done ∧ (update (some .fault)).first = some .fault ∧
      (update (some .timedOut)).first = some .timedOut) ∧
    ({ active with anchor := { active.anchor with pendingUpdate := true } } : State).anchor.pendingUpdate = true ∧
    (let q : CommitSequence := { epoch := 8#32, purpose := .quiesce, phase := .anchorWait }
     (withEpochs (calm .quiescing) none none (some q)).epochs.commit = some q ∧ q.phase = .anchorWait) ∧
    (let s := anchoring (recovering .anchoring) (update (some .done))
     s.replay.recovery = some (recovery .anchoring) ∧ (recovery .anchoring).phase = .anchoring ∧
      (recovery .anchoring).recoveredThrough = some 7#32 ∧ s.anchor.pendingUpdate = false ∧ s.epochs.commit = none ∧
      s.anchor.working.startMode ≠ 1#2 ∧ { setup with startMode := 1#2 }.startMode = 1#2) :=
  ⟨⟨rfl, ⟨rfl, rfl⟩, rfl⟩, ⟨⟨rfl, rfl⟩, rfl, rfl, rfl, rfl, nofun⟩, by decide, rfl, by decide, by decide⟩

theorem witness_StoreAnswers :
    (let s := asking (anchoring (calm .quiesced) (store (some .done))) (.anchorWrite .b true)
     s.Running ∧ s.Awaits (issued (.anchorWrite .b true)) [] ∧ s.anchor.write = some (store (some .done)) ∧
      (store (some .done)).kind = .store setup ∧ s.anchor.pendingUpdate = false ∧ (store (some .done)).first = some .done ∧
      s.modes.mode ≠ .halted) ∧
    (anchoring (calm .halted) (store (some .done))).modes.mode = .halted ∧
    (store (some .fault)).first = some .fault ∧ (store (some .timedOut)).first = some .timedOut :=
  ⟨⟨rfl, ⟨rfl, rfl⟩, by decide⟩, rfl, rfl, rfl⟩

/-! The checks of the copies and records below are long sums, so each is taken in four parts. -/

theorem crc32_of_parts {b : List Byte} {s1 s2 s3 s4 : Word} (h1 : (b.take 31).foldl crc32Byte 0xFFFFFFFF#32 = s1)
    (h2 : ((b.drop 31).take 31).foldl crc32Byte s1 = s2) (h3 : ((b.drop 62).take 31).foldl crc32Byte s2 = s3)
    (h4 : (b.drop 93).foldl crc32Byte s3 = s4) : crc32 b = s4 ^^^ 0xFFFFFFFF#32 := by
  have h : b = b.take 31 ++ ((b.drop 31).take 31 ++ ((b.drop 62).take 31 ++ b.drop 93)) := by
    have e1 := List.take_append_drop 31 b
    have e2 := List.take_append_drop 31 (b.drop 31)
    have e3 := List.take_append_drop 31 (b.drop 62)
    simp only [List.drop_drop] at e2 e3
    rw [e3, e2, e1]
  rw [crc32, h, List.foldl_append, List.foldl_append, List.foldl_append, h1, h2, h3, h4]

/-- What a copy of the given generation carries. -/
def fields (generation : Word) : AnchorFields :=
  { configuration := setup, generation := generation, ringId := 5#32, tail := 2, tailSequence := 2#32,
    closedThrough := 7#32 }

/-- The bytes of a copy, with the check written out. -/
def copyBytes (generation check : Word) : List Byte := anchorPrefix (fields generation) ++ le32 check

theorem copyBytes5_check : crc32 ((copyBytes 5#32 4141460842#32).take 124) = 4141460842#32 :=
  crc32_of_parts (s1 := 3968147201#32) (s2 := 1251257045#32) (s3 := 1069061305#32) (s4 := 153506453#32)
    (by decide +kernel) (by decide +kernel) (by decide +kernel) (by decide +kernel)

theorem copyBytes6_check : crc32 ((copyBytes 6#32 2663094376#32).take 124) = 2663094376#32 :=
  crc32_of_parts (s1 := 1594962626#32) (s2 := 2514336352#32) (s3 := 2482774561#32) (s4 := 1631872919#32)
    (by decide +kernel) (by decide +kernel) (by decide +kernel) (by decide +kernel)

theorem copyBytes5_judged : judgeCopy 0#32 (copyBytes 5#32 4141460842#32) = some (fields 5#32) := by
  simp only [judgeCopy, copyBytes5_check]
  decide +kernel

theorem copyBytes6_judged : judgeCopy 0#32 (copyBytes 6#32 2663094376#32) = some (fields 6#32) := by
  simp only [judgeCopy, copyBytes6_check]
  decide +kernel

/-- The two lines of a copy. -/
theorem judgeLines_lines {bytes : List Byte} {f : AnchorFields} (h : judgeCopy 0#32 bytes = some f) :
    judgeLines 0#32 (some (bytes.take 64)) (some (bytes.drop 64)) = some f := by
  rw [judgeLines, List.take_append_drop, h]

theorem witness_LoadingReads :
    (let s := asking (loading []) (.anchorRead .a false)
     s.Running ∧ s.Awaits (issued (.anchorRead .a false)) [] ∧ s.anchor.loading = some ⟨4, []⟩ ∧
      ([] : List (Option (List Byte))).length < 3) ∧
    (let s := asking (loading [none, none, none]) (.anchorRead .b true)
     s.anchor.loading = some ⟨4, [none, none, none]⟩ ∧ judgeLines s.anchorBase none none = none) ∧
    (let old := copyBytes 5#32 4141460842#32
     let new := copyBytes 6#32 2663094376#32
     let b := some (new.take 64)
     let s := asking (loading [some (old.take 64), some (old.drop 64), b]) (.anchorRead .b true)
     s.Running ∧ s.Awaits (issued (.anchorRead .b true)) [] ∧
      s.anchor.loading = some ⟨4, [some (old.take 64), some (old.drop 64), b]⟩ ∧
      judgeLines s.anchorBase (some (old.take 64)) (some (old.drop 64)) = some (fields 5#32) ∧
      judgeLines s.anchorBase b (some (new.drop 64)) = some (fields 6#32) ∧
      after (fields 6#32).generation (fields 5#32).generation = true ∧
      judgeLines s.anchorBase b none = none ∧
      ∀ g, judgeLines s.anchorBase b none = some g → after g.generation (fields 5#32).generation = false) := by
  refine ⟨⟨rfl, ⟨rfl, rfl⟩, rfl, by decide⟩, ⟨rfl, rfl⟩, rfl, ⟨rfl, rfl⟩, rfl, ?_, ?_, by decide, rfl, nofun⟩
  · exact judgeLines_lines copyBytes5_judged
  · exact judgeLines_lines copyBytes6_judged

/-- The head line of the LINE record of `lineInfo` over a line of zeros, with its check written out. -/
def lineHead : List Byte := recordPrefix lineInfo 0#8 5#32 ++ le32 2179353340#32

theorem lineHead_check : crc32 (checkedBytes .line (lineHead.take 60) zeros) = 2179353340#32 :=
  crc32_of_parts (s1 := 503161637#32) (s2 := 3872553547#32) (s3 := 4259001725#32) (s4 := 2115613955#32)
    (by decide +kernel) (by decide +kernel) (by decide +kernel) (by decide +kernel)

theorem lineHead_verified : verifyRecord 5#32 9#32 3 lineHead zeros = some lineInfo := by
  have h : RecordKind.ofCode (byteAt lineHead 2) = some .line := by decide +kernel
  simp only [verifyRecord, h, lineHead_check]
  decide +kernel

theorem markerHead_verified : verifyRecord 5#32 9#32 3 (recordHead (marker .commit) 0#8 5#32 []) [] = some (marker .commit) := by
  decide +kernel

/-- `s` with a head line read. -/
def headRead (s : State) (head : List Byte) : State := { s with replay := { s.replay with headLine := some head } }

theorem witness_RollbackWalk :
    (let s := asking active (.replayRead 3 true)
     s.Running ∧ s.Awaits (issued (.replayRead 3 true)) [] ∧
      ¬ (s.replay.rollback.isSome = true ∨ s.replay.recovery.isSome = true)) ∧
    (let s := asking (headRead (rolling (.walking walk)) lineHead) (.replayRead 3 false)
     s.Running ∧ s.Awaits (issued (.replayRead 3 false)) [] ∧
      (s.replay.rollback.isSome = true ∨ s.replay.recovery.isSome = true) ∧
      s.replay.rollback = some { phase := .walking walk, highest := 8#32 } ∧ s.replay.headLine = some lineHead ∧
      verifyRecord s.ring.ringId walk.sequence walk.cursor lineHead zeros = some lineInfo ∧
      lineInfo.kind = .line ∧ lineInfo.line = some 0x1000#32 ∧ after lineInfo.epoch s.epochs.closedThrough = true ∧
      verifyRecord s.ring.ringId walk.sequence walk.cursor [] zeros = none) ∧
    (verifyRecord 5#32 9#32 3 (recordHead (marker .commit) 0#8 5#32 []) [] = some (marker .commit) ∧
      (marker .commit).kind ≠ .line ∧ walk.left - 1 = 0 ∧ walk.outstanding = 0) ∧
    (let s := asking (rolling (.walking { walk with left := 0, outstanding := 1 })) (.restoreWrite 3 8#32)
     s.Awaits (issued (.restoreWrite 3 8#32)) [] ∧ s.replay.rollback.isSome = true) :=
  ⟨⟨rfl, ⟨rfl, rfl⟩, by decide⟩,
    ⟨rfl, ⟨rfl, rfl⟩, .inl rfl, rfl, rfl, lineHead_verified, rfl, rfl, by decide, by decide +kernel⟩,
    ⟨markerHead_verified, by decide⟩, ⟨rfl, rfl⟩, rfl⟩

/-- A scan whose slot `k` is slot 3 with sequence 9. -/
def scanning (k : Nat) : State :=
  let s := headRead (recovering (.scanning k)) (recordHead (marker .commit) 0#8 5#32 [])
  asking { s with ring := { s.ring with tail := (19 - k) % 16, tailSequence := 9#32 - BitVec.ofNat 32 k } } (.replayRead 3 false)

theorem witness_RecoveryScan :
    (∀ k : Fin 16, (scanning k).replay.rollback = none ∧ (scanning k).replay.recovery = some (recovery (.scanning k)) ∧
      (recovery (.scanning k)).phase = .scanning k ∧
      (scanning k).replay.headLine = some (recordHead (marker .commit) 0#8 5#32 []) ∧
      (scanning k).ring.tailSequence + BitVec.ofNat 32 k = 9#32 ∧
      ((scanning k).ring.tail + k) % (scanning k).anchor.working.slots.toNat = 3 ∧ (scanning k).ring.ringId = 5#32) ∧
    (∀ k, (scanning k).Running ∧ (scanning k).Awaits (issued (.replayRead 3 false)) []) ∧
    verifyRecord 5#32 9#32 3 (recordHead (marker .commit) 0#8 5#32 []) [] = some (marker .commit) ∧
    (14 + 1 ≠ (scanning 14).anchor.working.slots.toNat ∧ 15 + 1 = (scanning 15).anchor.working.slots.toNat) ∧
    verifyRecord 5#32 9#32 3 [] [] = none :=
  ⟨by decide +kernel, fun _ => ⟨rfl, rfl, rfl⟩, markerHead_verified, by decide, by decide +kernel⟩

theorem witness_RecoveryWalk :
    (let s := asking (headRead (recovering (.restoring walk)) lineHead) (.replayRead 3 false)
     s.Running ∧ s.Awaits (issued (.replayRead 3 false)) [] ∧ s.replay.rollback = none ∧
      s.replay.recovery = some (recovery (.restoring walk)) ∧ (recovery (.restoring walk)).phase = .restoring walk ∧
      (recovery (.restoring walk)).cutoff = some 7#32 ∧ (recovery (.restoring walk)).recoveredThrough = some 7#32 ∧
      s.replay.headLine = some lineHead ∧
      verifyRecord (recovery (.restoring walk)).ringId walk.sequence walk.cursor lineHead zeros = some lineInfo ∧
      lineInfo.kind = .line ∧ lineInfo.line = some 0x1000#32 ∧ after lineInfo.epoch 7#32 = true ∧
      verifyRecord (recovery (.restoring walk)).ringId walk.sequence walk.cursor [] zeros = none) ∧
    (verifyRecord 5#32 9#32 3 (recordHead (marker .commit) 0#8 5#32 []) [] = some (marker .commit) ∧
      (marker .commit).kind ≠ .line ∧ walk.left - 1 = 0 ∧ walk.outstanding = 0) ∧
    (asking (recovering (.restoring { walk with left := 0, outstanding := 1 })) (.restoreWrite 3 8#32)).Awaits
      (issued (.restoreWrite 3 8#32)) [] ∧
    (let s := spent (recovering (.restoring walk)) 15
     1 ≤ s.anchor.working.slots.toNat - s.ring.used - s.ring.promised) ∧
    (let s := spent (recovering (.restoring walk)) 16
     s.anchor.working.slots.toNat - s.ring.used - s.ring.promised = 0) :=
  ⟨⟨rfl, ⟨rfl, rfl⟩, rfl, rfl, rfl, rfl, rfl, rfl, lineHead_verified, rfl, rfl, by decide, by decide +kernel⟩,
    ⟨markerHead_verified, by decide⟩, ⟨rfl, rfl⟩, by decide, by decide⟩

/-- An item of the item map. -/
abbrev known (n : Nat) : Prop :=
  n ≤ 0x0011 ∨ (0x0018 ≤ n ∧ n ≤ 0x001A) ∨ (0x0020 ≤ n ∧ n ≤ 0x002C) ∨ (0x0100 ≤ n ∧ n ≤ 0x0116) ∨
    (0x0200 ≤ n ∧ n ≤ 0x0216)

theorem witness_ItemReads :
    active.TakesFrames ∧
    (1 ≤ (18#8).toNat ∧ (18#8).toNat ≤ 32 ∧ ∀ k, k < (18#8).toNat → known ((0x0000#16).toNat + k)) ∧
    ((0#8).toNat = 0 ∧ 32 < (33#8).toNat ∧ ∃ k, k < (2#8).toNat ∧ ¬ known ((0x0011#16).toNat + k)) ∧
    (active.replay.rollback = none ∧ active.epochs.table.opened = some (fresh 8#32 .opened) ∧
      (calm .quiesced).epochs.table.opened = none) ∧
    (16 ≤ active.anchor.working.slots.toNat ∧ active.anchor.working.slots.toNat ≤ 1048576) ∧
    ¬ (16 ≤ Configuration.noAnchor.slots.toNat ∧ Configuration.noAnchor.slots.toNat ≤ 1048576) ∧
    (let s := rolling (.settling true false)
     s.replay.rollback = some { phase := .settling true false, highest := 8#32 } ∧
      some (fresh 8#32 .rollingBack) = s.epochs.table.find 8#32 ∧ s.epochs.table.epochs = [fresh 8#32 .rollingBack]) ∧
    (committing.epochs.table.epochs = [fresh 9#32 .opened, fresh 8#32 .committing] ∧ 9#32 ≠ 8#32 ∧
      some (fresh 9#32 .opened) = committing.epochs.table.opened) ∧
    (quiescing.epochs.table.epochs = [fresh 8#32 .committing] ∧ none = quiescing.epochs.table.opened) ∧
    (calm .quiesced).epochs.table.epochs = [] ∧ (erring active 8).management.log.length ≤ 8 :=
  ⟨⟨rfl, rfl⟩, by decide, ⟨rfl, by decide, 1, by decide, by decide⟩, by decide, by decide, by decide, by decide, by decide,
    by decide, by decide, by decide⟩

theorem witness_ItemWrites :
    active.TakesFrames ∧
    (let words : List Word := [1#32, 2#32, 3#32]
     1 ≤ words.length ∧ words.length ≤ 32 ∧ (¬ ∃ k, k < words.length ∧ ¬ known ((0x0018#16).toNat + k)) ∧
      (∃ k, k < words.length ∧ ¬ known ((0x0019#16).toNat + k)) ∧
      (∃ k, k < words.length ∧ (0x0020#16).toNat + k ≤ 0x002C ∧ 0x0020 ≤ (0x0020#16).toNat + k) ∧
      (∃ k, k < words.length ∧ (0x0114#16).toNat + k = 0x0116)) ∧
    ([] : List Word).length = 0 ∧ 32 < (List.replicate 33 0#32).length ∧
    ((anchoring (calm .quiesced) (store none)).anchor.write = some (store none) ∧ (store none).kind = .store setup) := by
  refine ⟨⟨rfl, rfl⟩, ⟨by decide, by decide, ?_, ⟨2, by decide, by decide⟩, ⟨2, by decide⟩, 2, by decide⟩, rfl, by decide,
    rfl, rfl⟩
  rintro ⟨k, h, h'⟩
  have h : k < 3 := h
  have h' : ¬ known (24 + k) := h'
  exact h' (by unfold known; omega)

theorem witness_ErrorPop :
    active.TakesFrames ∧ 1#8 ≠ 0#8 ∧ active.management.log = [] ∧
    (∃ e rest, (erring active 1).management.log = e :: rest ∧ rest = []) ∧
    (∃ e rest, (erring active 8).management.log = e :: rest ∧ rest.length = 7) :=
  ⟨⟨rfl, rfl⟩, by decide, rfl, ⟨_, _, rfl, rfl⟩, ⟨_, _, rfl, rfl⟩⟩

theorem witness_ProbesAndIdleFrames :
    active.TakesFrames ∧ ([] : List Word).length ≠ 1 ∧ [1#32, 2#32].length ≠ 1 ∧
    (active.replay.rollback = none ∧
      (rolling (.settling true false)).replay.rollback = some { phase := .settling true false, highest := 8#32 }) ∧
    (committing.epochs.table.epochs = [fresh 9#32 .opened, fresh 8#32 .committing] ∧
      (fresh 9#32 .opened).number ≠ (fresh 8#32 .committing).number ∧
      committing.openItem = some (fresh 9#32 .opened)) ∧
    (active.epochs.table.epochs = [fresh 8#32 .opened] ∧ active.openItem = some (fresh 8#32 .opened)) ∧
    (quiescing.epochs.table.epochs = [fresh 8#32 .committing] ∧ quiescing.openItem = none) ∧
    (active.capture.tagState ⟨0x1000#32, 8#32⟩ = none ∧ (tagged active 1).capture.tagState ⟨0x1FC0#32, 8#32⟩ = some .saved ∧
      (capturing active (.reading false)).capture.tagState ⟨0x1000#32, 8#32⟩ = some (.capturing (some 0) (some 1))) ∧
    (let s := State.afterReset false 0#2 true []
     s.Running ∧ s.management.awaitsDeselect = true ∧ (requestBytes (.read 0#16 1#8)).isSome = true) :=
  ⟨⟨rfl, rfl⟩, by decide, by decide, by decide, by decide, by decide, by decide, by decide, rfl, rfl, rfl⟩

theorem witness_CommitAndQuiesce :
    (active.epochs.table.entry0 ≠ none ∧ active.epochs.table.entry1 = none ∧ (calm .quiesced).epochs.table.entry0 = none) ∧
    active.TakesFrames ∧ 255#8 ≠ 0#8 ∧ (calm .quiesced).modes.mode ≠ .active ∧
    ((rolling (.settling false false)).modes.mode = .active ∧ (rolling (.settling false false)).replay.rollback ≠ none) ∧
    (∃ x ∈ committing.epochs.table.epochs, x.state = .committing ∨ x.state = .failed) ∧
    (∃ x ∈ failing.epochs.table.epochs, x.state = .committing ∨ x.state = .failed) ∧
    (let s := active
     s.modes.mode = .active ∧ s.replay.rollback = none ∧
      (¬ ∃ x ∈ s.epochs.table.epochs, x.state = .committing ∨ x.state = .failed) ∧
      s.epochs.table.opened = some (fresh 8#32 .opened) ∧ (fresh 8#32 .opened).damaged = false ∧
      (fresh 8#32 .opened).lines = 0 ∧ (fresh 8#32 .opened).held = 0 ∧ (fresh 8#32 .opened).out = 0) ∧
    (let o := { fresh 8#32 .opened with out := 1 }
     (withEpochs active (some o) none).epochs.table.opened = some o ∧ o.damaged = false ∧ 0 < o.out) ∧
    ({ fresh 8#32 .opened with damaged := true } : LiveEpoch).damaged = true :=
  ⟨by decide, ⟨rfl, rfl⟩, by decide⟩

theorem witness_AbortRollsBack :
    active.TakesFrames ∧ (calm .bypass).modes.mode ≠ .active ∧
    (committing.modes.mode = .active ∧ ∃ x ∈ committing.epochs.table.epochs, x.state = .committing) ∧
    (failing.modes.mode = .active ∧ failing.replay.rollback = none ∧ failing.epochs.commit = none ∧
      (∀ x ∈ failing.epochs.table.epochs, x.state ≠ .committing) ∧
      failing.epochs.table.epochs = [fresh 9#32 .opened, fresh 8#32 .failed] ∧
      9#32 = later (fresh 9#32 .opened).number (fresh 8#32 .failed).number) ∧
    (let s := capturing active (.reading false)
     s.TakesFrames ∧ s.modes.mode = .active ∧ s.replay.rollback = none ∧ s.epochs.commit = none ∧
      (∀ x ∈ s.epochs.table.epochs, x.state ≠ .committing) ∧ s.epochs.table.epochs = [fresh 8#32 .opened] ∧
      ∃ slots : Vector (Option Capture) 4,
        (∀ i : Fin 4, s.capture.slots[i] = none → slots[i] = none) ∧
        (∀ (i : Fin 4) (c : Capture), s.capture.slots[i] = some c →
          (∀ cancelled, c.phase = .reading cancelled →
            slots[i] = some { c with hold := none, phase := .reading true }) ∧
          (∀ contents slot sequence, c.phase = .writing contents slot sequence →
            slots[i] = some { c with hold := none }))) := by
  refine ⟨⟨rfl, rfl⟩, by decide, by decide, by decide, ⟨rfl, rfl⟩, rfl, rfl, rfl, by decide, rfl,
    #v[none, some { capture (.reading true) with hold := none }, none, none], by decide, ?_⟩
  intro i c h
  have hi : i = 1 := by
    by_contra hi
    have idle : ∀ j : Fin 4, j ≠ 1 → (capturing active (.reading false)).capture.slots[j] = none := by decide
    have h' := (idle i hi).symm.trans h
    cases h'
  subst hi
  cases h
  exact ⟨fun _ _ => rfl, nofun⟩

theorem witness_BypassCommand :
    active.TakesFrames ∧ 1#8 ≠ 0#8 ∧ active.modes.mode ≠ .quiesced ∧ (calm .quiesced).modes.mode = .quiesced ∧
    ((anchoring (calm .quiesced) (store none)).anchor.write = some (store none) ∧ (store none).kind = .store setup) ∧
    (¬ ∃ w c, (anchoring (calm .quiesced) (update none)).anchor.write = some w ∧ w.kind = .store c) := by
  refine ⟨⟨rfl, rfl⟩, by decide, by decide, rfl, ⟨rfl, rfl⟩, ?_⟩
  rintro ⟨w, c, h, h'⟩
  cases h
  cases h'

/-- BYPASS with the no-anchor defaults. -/
def unanchored : State :=
  { calm .bypass with
    anchor := { (calm .bypass).anchor with working := .noAnchor, current := none }
    management := { State.reset.management with pending := .noAnchor } }

theorem witness_ResumeAndStore :
    active.TakesFrames ∧ 1#8 ≠ 0#8 ∧ (active.modes.mode ≠ .quiesced ∧ active.modes.mode ≠ .bypass) ∧
    (¬ ((calm .quiesced).modes.mode ≠ .quiesced ∧ (calm .quiesced).modes.mode ≠ .bypass)) ∧
    ((anchoring (calm .quiesced) (store none)).anchor.write = some (store none) ∧ (store none).kind = .store setup) ∧
    (unanchored.modes.mode = .bypass ∧ (¬ ∃ w c, unanchored.anchor.write = some w ∧ w.kind = .store c) ∧
      ¬ (16 ≤ unanchored.anchor.working.slots.toNat ∧ unanchored.anchor.working.slots.toNat ≤ 1048576)) ∧
    ((calm .bypass).modes.mode = .bypass ∧ 16 ≤ (calm .bypass).anchor.working.slots.toNat ∧
      (calm .bypass).anchor.working.slots.toNat ≤ 1048576) ∧
    (anchoring (calm .quiesced) (update none)).anchor.write ≠ none ∧
    ((calm .quiesced).anchor.write = none ∧ (calm .quiesced).anchor.pendingUpdate = false ∧
      (let c := (calm .quiesced).management.pending
       16 ≤ c.slots.toNat ∧ c.slots.toNat ≤ 1048576 ∧ c.basePage.toNat * 4096 + c.slots.toNat * 128 ≤ 4294967296 ∧
        (calm .quiesced).anchorBase.toNat + 256 ≤ c.basePage.toNat * 4096 ∧
        (∀ i : Fin 8, c.windows[i].mode ≠ 3#2 ∧
          (c.windows[i].enable = true → c.windows[i].base.toNat + c.windows[i].countLessOne.toNat + 1 ≤ 1048576)) ∧
        c.startMode = 0#2 ∧ c.defaultMode = 0#2 ∧ c.fullPolicy = 0#2 ∧ 8 ≤ c.discardLimit.toNat ∧
        c.discardLimit.toNat ≤ 2040 ∧ c.discardLimit.toNat % 8 = 0 ∧ c.watermark.toNat ≤ 1048576)) ∧
    ¬ 16 ≤ unanchored.management.pending.slots.toNat := by
  refine ⟨⟨rfl, rfl⟩, by decide, by decide, by decide, ⟨rfl, rfl⟩, ⟨rfl, ?_, by decide⟩, by decide⟩
  rintro ⟨w, c, h, -⟩
  cases h

theorem witness_PowerFailInput :
    active.Running ∧ (current active (reading .memoryWait)).host.current = some (reading .memoryWait) ∧
    active.modes.freeze = false ∧ (frozen active).modes.freeze = true ∧
    ((frozen active).modes.mode = .active ∧ (frozen active).epochs.table.opened = some (fresh 8#32 .opened)) ∧
    (frozen (calm .quiesced)).modes.mode ≠ .active := ⟨rfl, by decide⟩

theorem witness_IrqFollowsFlags :
    ((waiting active).IrqRight ∧ ∃ t, step (waiting active) = .next t) ∧ active.TakesFrames :=
  ⟨⟨rfl, _, rfl⟩, rfl, rfl⟩

theorem witness_SizesKept :
    ((waiting (crammed active)).Bounded ∧ ∃ t, step (waiting (crammed active)) = .next t) ∧
    ((waiting (queueing active [issued (.captureRead 0), unissued])).IssueOrdered ∧
      ∃ t, step (waiting (queueing active [issued (.captureRead 0), unissued])) = .next t) := by
  refine ⟨⟨?_, _, rfl⟩, ?_, _, rfl⟩
  · unfold State.Bounded
    decide
  · unfold State.IssueOrdered
    decide

/-- ACTIVE with a hold entry of epoch 8 whose capture runs in slot 1, its read on the read list, behind the record write
list of the commit marker of epoch 7, which has drained. -/
def journaling : State :=
  let s := capturing (holding active [{ needy with capture := some 1, tag := some ⟨0x1000#32, 8#32⟩ }]) (.reading false)
  let q : CommitSequence := { epoch := 7#32, purpose := .commit, phase := .markerWriting 3 9#32 }
  let t := withEpochs s (some { fresh 8#32 .opened with held := 1 }) (some { fresh 7#32 .committing with lines := 1 }) (some q)
  { t with
    capture := { t.capture with reads := [1] }
    ring :=
      { t.ring with
        used := 4
        writes := [{ info := { marker .commit with epoch := 7#32 }, isHead := true, address := 0x10180#32, data := [] }] } }

theorem journaling_countsRight : journaling.CountsRight := by
  intro _
  refine ⟨by decide, ?_, nofun, by decide, ?_, ?_, nofun, ?_, nofun⟩
  · intro e he n hn
    simp only [journaling, capturing, withEpochs, holding, List.mem_singleton] at he
    subst he
    exact ⟨{ fresh 8#32 .opened with held := 1 }, by decide, Option.some.inj hn⟩
  · intro e he
    simp only [journaling, capturing, withEpochs, holding, List.mem_singleton] at he
    subst he
    exact ⟨by decide, fun _ hk => by cases hk; rfl⟩
  · intro i c hc
    have hi : i = 1 ∧ c = capture (.reading false) := by
      revert hc
      fin_cases i <;> intro hc <;> first | exact ⟨rfl, (Option.some.inj hc).symm⟩ | cases hc
    obtain ⟨rfl, rfl⟩ := hi
    refine ⟨fun _ hk => by cases hk; rfl, fun id hid => ?_, ⟨nofun, nofun⟩, fun _ hp => by cases hp; rfl⟩
    cases hid
    exact ⟨{ needy with capture := some 1, tag := some ⟨0x1000#32, 8#32⟩ }, List.mem_singleton_self _, rfl, rfl, rfl, rfl⟩
  · intro q slot sequence hq _ x hx hn
    cases hq
    revert hn
    rcases List.mem_cons.mp hx with rfl | hx
    · decide
    · rw [List.mem_singleton.mp hx]
      exact fun _ => rfl

theorem journaling_journalBounds : journaling.JournalBounds := by
  refine ⟨by decide, by decide, nofun, nofun, nofun, fun _ => ⟨by decide, ?_, ?_, by decide, by decide, ?_⟩⟩
  · intro i hi
    rw [show journaling.captureReads = [1] from rfl, List.mem_singleton] at hi
    subst hi
    exact ⟨_, _, rfl, rfl⟩
  · intro before w rest h hw
    rw [show journaling.ring.writes =
      [{ info := { marker .commit with epoch := 7#32 }, isHead := true, address := 0x10180#32, data := [] }] from rfl] at h
    rcases before with _ | ⟨x, before⟩
    · cases h
      cases hw
    · simp at h
  · intro h
    exact absurd (.inl ⟨_, _, _, rfl, rfl⟩) h

theorem journaling_epochShape : journaling.EpochShape :=
  ⟨nofun, nofun, nofun, .inr ⟨_, _, .inl rfl, rfl, rfl, .inr ⟨rfl, _, rfl, rfl, rfl, nofun⟩⟩⟩

theorem witness_CountsKept :
    (waiting journaling).EpochShape ∧ (waiting journaling).HaltQuiet ∧ (waiting journaling).CountsRight ∧
      (waiting journaling).JournalBounds ∧ ∃ t, step (waiting journaling) = .next t :=
  ⟨journaling_epochShape, nofun, journaling_countsRight, journaling_journalBounds, _, rfl⟩

theorem witness_JournalBoundsKept :
    (waiting journaling).EpochShape ∧ (waiting journaling).HaltQuiet ∧ (waiting journaling).CountsRight ∧
      (waiting journaling).JournalBounds ∧ ∃ t, step (waiting journaling) = .next t :=
  ⟨journaling_epochShape, nofun, journaling_countsRight, journaling_journalBounds, _, rfl⟩

theorem witness_HaltedUntilReset :
    (waiting active).HaltQuiet ∧ (waiting (calm .halted)).HaltQuiet ∧ (waiting (calm .halted)).modes.mode = .halted ∧
    ∃ t, step (waiting (calm .halted)) = .next t := by
  refine ⟨nofun, ?_, rfl, _, rfl⟩
  intro _
  decide

/-- Each shape that the table of live epochs takes. -/
theorem witness_EpochShapeKept :
    State.reset.EpochShape ∧ (waiting active).EpochShape ∧ committing.EpochShape ∧ failing.EpochShape ∧
    (rolling (.settling false false)).EpochShape ∧ quiescing.EpochShape ∧ (calm .halted).EpochShape ∧
    (recovering .anchoring).EpochShape ∧ ∃ t, step (waiting active) = .next t := by
  refine ⟨⟨nofun, nofun, fun _ => rfl, rfl, rfl⟩, ⟨nofun, nofun, nofun, .inl ⟨_, rfl, rfl, rfl⟩⟩,
    ⟨nofun, nofun, nofun, .inr ⟨_, _, .inl rfl, rfl, rfl, .inr ⟨rfl, _, rfl, rfl, rfl, nofun⟩⟩⟩,
    ⟨nofun, nofun, nofun, .inr ⟨_, _, .inl rfl, rfl, rfl, .inl ⟨rfl, rfl⟩⟩⟩,
    ⟨fun _ => rfl, nofun, nofun, rfl, nofun, by decide⟩,
    ⟨nofun, nofun, nofun, _, rfl, rfl, .inr ⟨nofun, _, rfl, rfl, rfl⟩⟩, ⟨nofun, nofun, nofun, rfl, rfl⟩,
    ⟨nofun, fun _ => rfl, nofun, rfl, rfl⟩, _, rfl⟩

end Sys2Proof.Tests
end

/-! Serial order (R1): the two functions `after` and `later`, and the settlement of O6. -/

namespace Sys2Proof.Machine

theorem after_iff (a b : Word) : after a b = true ↔ 1 ≤ (a - b).toNat ∧ (a - b).toNat ≤ 2 ^ 31 - 1 := by
  simp only [after, decide_eq_true_eq, Nat.reducePow, Nat.reduceSub]

theorem after_eq_false_iff (a b : Word) : after a b = false ↔ (a - b).toNat = 0 ∨ 2 ^ 31 ≤ (a - b).toNat := by
  rw [← Bool.not_eq_true, after_iff]
  omega

@[simp] theorem after_self (a : Word) : after a a = false := by
  simp [after_eq_false_iff]

/-- The two differences of numbers that are not equal add up to 2^32, so at most one lies in the lower half. -/
theorem toNat_sub_add_toNat_sub (a b : Word) (h : 1 ≤ (b - a).toNat) :
    (a - b).toNat + (b - a).toNat = 2 ^ 32 := by
  bv_omega

theorem after_asymm (a b : Word) (h : after b a = true) : after a b = false := by
  obtain ⟨hpos, hhalf⟩ := (after_iff b a).mp h
  have hsum := toNat_sub_add_toNat_sub a b hpos
  exact (after_eq_false_iff a b).mpr (.inr (by omega))

theorem later_eq (a b : Word) : later a b = if after a b = true then a else b := rfl

@[simp] theorem later_self (a : Word) : later a a = a := by
  rw [later_eq, ite_self]

/-- Settles O6: the differences `a - b` and `b - a` cannot both lie in the lower half, so the order is asymmetric;
equal numbers and numbers 2^31 apart fall just outside that range, and the examples of R1 are evaluated. -/
theorem serialOrder : Obligations.SerialOrder := by
  refine ⟨after_iff, after_self, ?opposite, after_asymm, later_eq, later_self, ?examples⟩
  case opposite =>
    intro a b h
    exact (after_eq_false_iff a b).mpr (.inr h.ge)
  case examples => decide

end Sys2Proof.Machine

/-! The BYPASS command (R153): what a request judged afresh keeps of the event flags, the answers of the table in
QUIESCED and BYPASS, the verdict on the command, and the settlement of O52. -/

namespace Sys2Proof.Machine

/-! ### The event flags are kept when the request in hand is judged afresh -/

@[simp] theorem bump_flags (c : Counter) (s : State) : (bump c s).management.flags = s.management.flags := rfl

@[simp] theorem answerHost_flags (a : HostAnswer) (s : State) :
    (answerHost a s).management.flags = s.management.flags := by
  cases a <;> rfl

@[simp] theorem answerWaiting_flags (a : HostAnswer) (s : State) :
    (answerWaiting a s).management.flags = s.management.flags := by
  simp [answerWaiting]

@[simp] theorem rejudge_flags (s : State) : (rejudge s).management.flags = s.management.flags := by
  unfold rejudge
  (repeat' split) <;> simp

@[simp] theorem setMode_flags (m : Mode) (s : State) : (setMode m s).management.flags = s.management.flags := by
  simp [setMode]

@[simp] theorem setMode_modes (m : Mode) (s : State) : (setMode m s).modes = { s.modes with mode := m } := by
  simp [setMode]

/-! ### The answer table for a JOURNAL write (R125) -/

theorem judge_journalWrite_of_quiesced {s : State} (h : s.modes.mode = .quiesced) :
    s.judge .write .journal = .retry := by
  simp [State.judge, h]

theorem judge_journalWrite_of_bypass {s : State} (h : s.modes.mode = .bypass) :
    s.judge .write .journal = .forward := by
  simp [State.judge, h]

/-! ### The command -/

/-- A short request is the code, the item address in two bytes, the word count and a check byte (R159). -/
theorem shortRequest_eq (code : Byte) (item : BitVec 16) (count : Byte) :
    ∃ crc : Byte, shortRequest code item count =
      [code, item.extractLsb' 8 8, item.extractLsb' 0 8, count, crc] := ⟨_, rfl⟩

theorem requestBytes_bypass (item : BitVec 16) (count : Byte) :
    ∃ crc : Byte, requestBytes (.bypass item count) =
      some [0x24#8, item.extractLsb' 8 8, item.extractLsb' 0 8, count, crc] :=
  (shortRequest_eq 0x24#8 item count).imp fun _ h => congrArg some h

theorem exec_bypass (item : BitVec 16) (count : Byte) (s : State) :
    exec (.bypass item count) s = onFrame (withoutWords count bypassCommand) s := rfl

theorem exec_bypass_of_takesFrames {s : State} (h : s.TakesFrames) (item : BitVec 16) (count : Byte) :
    exec (.bypass item count) s = .next (withoutWords count bypassCommand s) := by
  rw [exec_bypass, onFrame_of_takesFrames h]

theorem bypassCommand_of_not_quiesced {s : State} (h : s.modes.mode ≠ .quiesced) :
    bypassCommand s = respond .mode [] s := by
  simp [bypassCommand, h]

theorem bypassCommand_of_storing {s : State} (h : s.modes.mode = .quiesced) (hs : s.storeInFlight = true) :
    bypassCommand s = respond .busy [] s := by
  simp [bypassCommand, h, hs]

theorem bypassCommand_of_quiesced {s : State} (h : s.modes.mode = .quiesced) (hs : ¬ s.storeInFlight = true) :
    bypassCommand s = respond .ok [] (setMode .bypass s) := by
  simp [bypassCommand, h, hs]

end Sys2Proof.Machine

namespace Sys2Proof

open Machine in
/-- Settles O52: the command is a frame without words, judged by mode and then by a STORE in flight; when it is
carried out it only changes the mode, and judging the request in hand afresh touches neither ring, anchor nor
event flags. -/
theorem bypassCommand : Obligations.BypassCommand := by
  intro s item count hframe storing
  have hstoring : s.storeInFlight = true ↔ storing := s.storeInFlight_iff
  rw [exec_bypass_of_takesFrames hframe]
  refine ⟨requestBytes_bypass item count, ?words, ?mode, ?busy, ?ok⟩
  case words =>
    intro hcount
    rw [withoutWords_of_ne hcount]
  case mode =>
    rintro rfl hmode
    rw [withoutWords_zero, bypassCommand_of_not_quiesced hmode]
  case busy =>
    rintro rfl hmode hstore
    rw [withoutWords_zero, bypassCommand_of_storing hmode (hstoring.mpr hstore)]
  case ok =>
    rintro rfl hmode hstore
    rw [withoutWords_zero, bypassCommand_of_quiesced hmode (mt hstoring.mp hstore)]
    exact ⟨judge_journalWrite_of_quiesced hmode, setMode .bypass s, rfl, rfl, setMode_modes .bypass s, by simp,
      by simp, setMode_flags .bypass s, judge_journalWrite_of_bypass (by simp)⟩

end Sys2Proof

/-! IRQ# (R166): the level of the pin, what each shared operation and each command does to it, and the settlement of
O55. -/

namespace Sys2Proof.Machine

/-! ### The level of IRQ# -/

theorem irqLevel_iff (flags enables : BitVec 14) :
    irqLevel flags enables = true ↔ ∃ b : Fin 14, flags.getLsbD b.val = true ∧ enables.getLsbD b.val = true := by
  rw [irqLevel, decide_eq_true_iff]
  constructor
  · intro hne
    by_contra hnone
    refine hne (BitVec.eq_of_getLsbD_eq fun i hi => ?_)
    have hbit : ¬ (flags.getLsbD i = true ∧ enables.getLsbD i = true) := fun h => hnone ⟨⟨i, hi⟩, h⟩
    simpa using hbit
  · rintro ⟨b, hflag, henable⟩ hzero
    have hbit : (flags &&& enables).getLsbD b.val = true := by simp [hflag, henable]
    simp [hzero] at hbit

/-- IRQ# of a management port is at its level: what `State.IrqRight` says of the whole state. -/
def ManagementPort.IrqRight (m : ManagementPort) : Prop := m.irq = irqLevel m.flags m.enables

theorem State.irqRight_iff (s : State) : s.IrqRight ↔ s.management.IrqRight := Iff.rfl

theorem ManagementPort.irqRight_iff_exists (m : ManagementPort) :
    m.IrqRight ↔ (m.irq = true ↔ ∃ b : Fin 14, m.flags.getLsbD b.val = true ∧ m.enables.getLsbD b.val = true) := by
  rw [IrqRight, Bool.eq_iff_iff, irqLevel_iff]

/-! ### What changes the port: events, enables, counters, the log and the response -/

@[simp] theorem ManagementPort.setFlags_irqRight (m : ManagementPort) (flags : BitVec 14) :
    (m.setFlags flags).IrqRight := rfl

@[simp] theorem ManagementPort.setEnables_irqRight (m : ManagementPort) (enables : BitVec 14) :
    (m.setEnables enables).IrqRight := rfl

@[simp] theorem ManagementPort.setPending_irqRight (m : ManagementPort) (c : Configuration) :
    { m with pending := c }.IrqRight ↔ m.IrqRight := Iff.rfl

@[simp] theorem raise_irqRight (v : Event) (s : State) : (raise v s).management.IrqRight := rfl

@[simp] theorem raise_enables (v : Event) (s : State) : (raise v s).management.enables = s.management.enables := rfl

@[simp] theorem logError_irqRight (kind : ErrorKind) (epoch line : Option Word) (slot : Option Nat) (s : State) :
    (logError kind epoch line slot s).management.IrqRight := raise_irqRight _ _

@[simp] theorem bump_irqRight (c : Counter) (s : State) :
    (bump c s).management.IrqRight ↔ s.management.IrqRight := Iff.rfl

@[simp] theorem respond_irqRight (status : Status) (words : List Word) (s : State) :
    (respond status words s).management.IrqRight ↔ s.management.IrqRight := Iff.rfl

/-! ### The host port only moves counters -/

@[simp] theorem answerHost_irqRight (a : HostAnswer) (s : State) :
    (answerHost a s).management.IrqRight ↔ s.management.IrqRight := by
  cases a <;> rfl

@[simp] theorem answerRead_irqRight (data : List Byte) (s : State) :
    (answerRead data s).management.IrqRight ↔ s.management.IrqRight := by
  simp [answerRead]

@[simp] theorem answerWaiting_irqRight (a : HostAnswer) (s : State) :
    (answerWaiting a s).management.IrqRight ↔ s.management.IrqRight := by
  simp [answerWaiting]

@[simp] theorem discardSlot_irqRight (i : Fin 4) (s : State) :
    (discardSlot i s).management.IrqRight ↔ s.management.IrqRight := by
  unfold discardSlot
  split <;> simp

@[simp] theorem discardIf_irqRight (p : Deferred → Bool) (i : Fin 4) (s : State) :
    (discardIf p i s).management.IrqRight ↔ s.management.IrqRight := by
  unfold discardIf
  (repeat' split) <;> simp

@[simp] theorem discardDeferred_irqRight (p : Deferred → Bool) (s : State) :
    (discardDeferred p s).management.IrqRight ↔ s.management.IrqRight := by
  simp [discardDeferred]

@[simp] theorem serveDeferred_irqRight (i : Fin 4) (data : List Byte) (s : State) :
    (serveDeferred i data s).management.IrqRight ↔ s.management.IrqRight := by
  simp [serveDeferred]

@[simp] theorem fetchDone_irqRight (i : Fin 4) (data : List Byte) (s : State) :
    (fetchDone i data s).management.IrqRight ↔ s.management.IrqRight := by
  unfold fetchDone
  (repeat' split) <;> simp

@[simp] theorem fetchFaulted_irqRight (i : Fin 4) (s : State) :
    (fetchFaulted i s).management.IrqRight ↔ s.management.IrqRight := by
  unfold fetchFaulted
  split <;> simp

@[simp] theorem fetchAnswered_irqRight (i : Fin 4) (a : ReadAnswer) (s : State) :
    (fetchAnswered i a s).management.IrqRight ↔ s.management.IrqRight := by
  cases a <;> simp [fetchAnswered]

@[simp] theorem currentReadAnswered_irqRight (a : ReadAnswer) (s : State) :
    (currentReadAnswered a s).management.IrqRight ↔ s.management.IrqRight := by
  unfold currentReadAnswered
  (repeat' split) <;> simp

@[simp] theorem hostReadAnswered_irqRight (owner : ReadOwner) (a : ReadAnswer) (s : State) :
    (hostReadAnswered owner a s).management.IrqRight ↔ s.management.IrqRight := by
  cases owner <;> simp [hostReadAnswered]

@[simp] theorem expireRequest_irqRight (r : HostRequest) (s : State) :
    (expireRequest r s).management.IrqRight ↔ s.management.IrqRight := by
  unfold expireRequest
  split <;> simp

@[simp] theorem beginWait_irqRight (r : HostRequest) (s : State) :
    (beginWait r s).management.IrqRight ↔ s.management.IrqRight := by
  unfold beginWait
  split <;> simp

@[simp] theorem takeJournal_irqRight (r : HostRequest) (window : Fin 8) (n : Word) (s : State) :
    (takeJournal r window n s).management.IrqRight ↔ s.management.IrqRight := by
  dsimp only [takeJournal]
  (repeat' split) <;> simp

@[simp] theorem takeWrite_irqRight (r : HostRequest) (journaled : Bool) (s : State) :
    (takeWrite r journaled s).management.IrqRight ↔ s.management.IrqRight := by
  dsimp only [takeWrite]
  (repeat' split) <;> simp

@[simp] theorem offerWrite_irqRight (r : HostRequest) (journaled : Bool) (s : State) :
    (offerWrite r journaled s).management.IrqRight ↔ s.management.IrqRight := by
  unfold offerWrite
  split <;> simp

@[simp] theorem startRead_irqRight (r : HostRequest) (s : State) :
    (startRead r s).management.IrqRight ↔ s.management.IrqRight := by
  unfold startRead
  (repeat' split) <;> simp

@[simp] theorem rejudge_irqRight (s : State) : (rejudge s).management.IrqRight ↔ s.management.IrqRight := by
  unfold rejudge
  (repeat' split) <;> simp

@[simp] theorem reclassify_irqRight (s : State) : (reclassify s).management.IrqRight ↔ s.management.IrqRight := by
  unfold reclassify
  (repeat' split) <;> simp

@[simp] theorem setMode_irqRight (m : Mode) (s : State) :
    (setMode m s).management.IrqRight ↔ s.management.IrqRight := by
  simp [setMode]


/-! ### The shared sequences keep IRQ# right -/

theorem halt_irqRight (cause : Cause) {s : State} (h : s.management.IrqRight) :
    (halt cause s).management.IrqRight := by
  unfold halt
  split
  · exact h
  · exact raise_irqRight _ _

theorem requestMarker_irqRight (kind : RecordKind) (n : Word) {next : Nat → Word → State → State} {s : State}
    (hnext : ∀ slot sequence t, t.management.IrqRight → (next slot sequence t).management.IrqRight)
    (h : s.management.IrqRight) : (requestMarker kind n next s).management.IrqRight := by
  unfold requestMarker
  split
  · exact hnext _ _ _ (by simpa using h)
  · exact halt_irqRight _ (logError_irqRight _ _ _ _ _)

theorem queueCommitRecord_irqRight (q : CommitSequence) {s : State} (h : s.management.IrqRight) :
    (queueCommitRecord q s).management.IrqRight :=
  requestMarker_irqRight _ _ (fun _ _ _ ht => ht) h

theorem queueClose_irqRight (highest : Word) {s : State} (h : s.management.IrqRight) :
    (queueClose highest s).management.IrqRight :=
  requestMarker_irqRight _ _ (fun _ _ _ ht => ht) h

theorem startWalk_irqRight (highest : Word) {s : State} (h : s.management.IrqRight) :
    (startWalk highest s).management.IrqRight := by
  unfold startWalk
  split
  · exact queueClose_irqRight highest h
  · exact h

theorem settle_irqRight (captures epochs : Bool) (highest : Word) {s : State} (h : s.management.IrqRight) :
    (settle captures epochs highest s).management.IrqRight := by
  unfold settle
  split
  · exact startWalk_irqRight highest h
  · exact h

theorem noteCapturesSettled_irqRight {s : State} (h : s.management.IrqRight) :
    (noteCapturesSettled s).management.IrqRight := by
  unfold noteCapturesSettled
  (repeat' split) <;> simp [h, settle_irqRight]

theorem noteEpochsDrained_irqRight {s : State} (h : s.management.IrqRight) :
    (noteEpochsDrained s).management.IrqRight := by
  unfold noteEpochsDrained
  (repeat' split) <;> simp [h, settle_irqRight]

theorem drainNotice_irqRight {s : State} (h : s.management.IrqRight) : (drainNotice s).management.IrqRight := by
  unfold drainNotice
  split
  · exact queueCommitRecord_irqRight _ h
  · exact noteEpochsDrained_irqRight h

@[simp] theorem failCommit_irqRight (n : Word) (s : State) : (failCommit n s).management.IrqRight := by
  unfold failCommit
  split <;> simp

@[simp] theorem markDamaged_irqRight (e : LiveEpoch) (s : State) : (markDamaged e s).management.IrqRight := by
  unfold markDamaged
  split <;> simp

@[simp] theorem reportDamage_irqRight (kind : ErrorKind) (epoch line : Word) (s : State) :
    (reportDamage kind epoch line s).management.IrqRight := by
  dsimp only [reportDamage]
  (repeat' split) <;> simp

@[simp] theorem closeEmpty_irqRight (n : Word) (s : State) : (closeEmpty n s).management.IrqRight := by
  simp [closeEmpty]

@[simp] theorem commitEmpty_irqRight (n : Word) (s : State) : (commitEmpty n s).management.IrqRight := by
  simp [commitEmpty]

theorem commitOpen_irqRight (n : Word) {s : State} (h : s.management.IrqRight) :
    (commitOpen n s).management.IrqRight :=
  drainNotice_irqRight (by simpa using h)

theorem fireTrigger_irqRight (full : Bool) {s : State} (h : s.management.IrqRight) :
    (fireTrigger full s).management.IrqRight := by
  unfold fireTrigger
  (repeat' split) <;> simp [h, commitOpen_irqRight]

theorem reexamine_irqRight {s : State} (h : s.management.IrqRight) : (reexamine s).management.IrqRight := by
  dsimp only [reexamine]
  split
  · exact fireTrigger_irqRight _ h
  · exact h

theorem updateLow_irqRight {s : State} (h : s.management.IrqRight) : (updateLow s).management.IrqRight := by
  unfold updateLow
  split
  · exact raise_irqRight _ _
  · exact h

theorem updateBlocked_irqRight {s : State} (h : s.management.IrqRight) : (updateBlocked s).management.IrqRight := by
  unfold updateBlocked
  (repeat' split) <;> simp [h, fireTrigger_irqRight]

theorem updateSpace_irqRight {s : State} (h : s.management.IrqRight) : (updateSpace s).management.IrqRight :=
  updateLow_irqRight (updateBlocked_irqRight (updateLow_irqRight h))

/-! ### Anchor writes and LOADING -/

theorem completeRecovery_irqRight {s : State} (h : s.management.IrqRight) :
    (completeRecovery s).management.IrqRight := by
  unfold completeRecovery
  split
  · exact h
  · dsimp only
    split <;> simp

theorem completeQuiesce_irqRight {s : State} (h : s.management.IrqRight) :
    (completeQuiesce s).management.IrqRight := by
  unfold completeQuiesce
  (repeat' split) <;> simp [h]

theorem logAnchorFault_irqRight (target : Copy) (first second : LineAnswer) {s : State}
    (h : s.management.IrqRight) : (logAnchorFault target first second s).management.IrqRight := by
  unfold logAnchorFault
  (repeat' split) <;> simp [h]

theorem judgeUpdate_irqRight (w : AnchorWrite) (tail : Nat) (sequence : Word) (endsRecovery : Bool)
    (first second : LineAnswer) {s : State} (h : s.management.IrqRight) :
    (judgeUpdate w tail sequence endsRecovery first second s).management.IrqRight := by
  unfold judgeUpdate
  split
  · exact h
  · exact raise_irqRight _ _

@[simp] theorem installStore_irqRight (w : AnchorWrite) (c : Configuration) (s : State) :
    (installStore w c s).management.IrqRight := by
  simp [installStore]

theorem judgeStore_irqRight (w : AnchorWrite) (c : Configuration) (first second : LineAnswer) {s : State}
    (h : s.management.IrqRight) : (judgeStore w c first second s).management.IrqRight := by
  unfold judgeStore
  (repeat' split) <;> simp [h, makeCurrent, logAnchorFault_irqRight]

theorem buildPending_irqRight (s : State) : (buildPending s).management.IrqRight ↔ s.management.IrqRight := by
  simp

theorem judgeAnchorWrite_irqRight (w : AnchorWrite) (first second : LineAnswer) {s : State}
    (h : s.management.IrqRight) : (judgeAnchorWrite w first second s).management.IrqRight := by
  have hfree : (s.setAnchor { s.anchor with write := none }).management.IrqRight := h
  unfold judgeAnchorWrite
  split
  case h_1 tail sequence endsRecovery hkind =>
    have hjudged := judgeUpdate_irqRight w tail sequence endsRecovery first second hfree
    have hbuilt := (buildPending_irqRight _).mpr hjudged
    have hrecovered := completeRecovery_irqRight hbuilt
    dsimp only
    split
    · exact hrecovered
    · exact completeQuiesce_irqRight hrecovered
  case h_2 c hkind => exact (buildPending_irqRight _).mpr (judgeStore_irqRight w c first second hfree)

theorem anchorLineAnswered_irqRight (second : Bool) (a : LineAnswer) {s : State} (h : s.management.IrqRight) :
    (anchorLineAnswered second a s).management.IrqRight := by
  unfold anchorLineAnswered
  (repeat' split) <;> simp [h, judgeAnchorWrite_irqRight]

@[simp] theorem loadCopy_irqRight (c : Copy) (f : AnchorFields) (s : State) :
    (loadCopy c f s).management.IrqRight ↔ s.management.IrqRight :=
  setMode_irqRight _ _

@[simp] theorem loadNothing_irqRight (s : State) : (loadNothing s).management.IrqRight := raise_irqRight _ _

theorem judgeCopies_irqRight (answers : List (Option (List Byte))) {s : State} (h : s.management.IrqRight) :
    (judgeCopies s answers).management.IrqRight := by
  unfold judgeCopies
  (repeat' split) <;> simp [h]

theorem anchorReadAnswered_irqRight (a : ReadAnswer) {s : State} (h : s.management.IrqRight) :
    (anchorReadAnswered a s).management.IrqRight := by
  unfold anchorReadAnswered
  split
  · exact h
  · extract_lets answers _ t
    have ht : t.management.IrqRight := h
    split
    · exact judgeCopies_irqRight _ ht
    · exact ht

/-! ### Walks, the scan and restores -/

@[simp] theorem failCheck_irqRight (slot : Nat) (s : State) : (failCheck slot s).management.IrqRight :=
  halt_irqRight _ (logError_irqRight _ _ _ _ _)

@[simp] theorem failReplayRead_irqRight (slot : Nat) (s : State) : (failReplayRead slot s).management.IrqRight :=
  halt_irqRight _ (logError_irqRight _ _ _ _ _)

@[simp] theorem anchorRecovery_irqRight (q : Recovery) (closed : Word) (s : State) :
    (anchorRecovery q closed s).management.IrqRight ↔ s.management.IrqRight := by
  simp [anchorRecovery]

theorem judgeRollbackSlot_irqRight (r : Rollback) (w : Walk) (head body : List Byte) {s : State}
    (h : s.management.IrqRight) : (judgeRollbackSlot r w head body s).management.IrqRight := by
  dsimp only [judgeRollbackSlot]
  split
  · exact failCheck_irqRight _ _
  · split
    · exact queueClose_irqRight _ h
    · exact h

theorem finishRestoring_irqRight (q : Recovery) {s : State} (h : s.management.IrqRight) :
    (finishRestoring q s).management.IrqRight := by
  unfold finishRestoring
  split
  · simpa using h
  · exact requestMarker_irqRight _ _ (fun _ _ _ ht => ht) h

theorem judgeRecoverySlot_irqRight (q : Recovery) (w : Walk) (head body : List Byte) {s : State}
    (h : s.management.IrqRight) : (judgeRecoverySlot q w head body s).management.IrqRight := by
  dsimp only [judgeRecoverySlot]
  split
  · exact failCheck_irqRight _ _
  · split
    · exact finishRestoring_irqRight _ h
    · exact h

theorem endScan_irqRight (q : Recovery) (k : Nat) {s : State} (h : s.management.IrqRight) :
    (endScan q k s).management.IrqRight := by
  dsimp only [endScan]
  split <;> simp [h]

theorem judgeScanSlot_irqRight (q : Recovery) (k : Nat) (head body : List Byte) {s : State}
    (h : s.management.IrqRight) : (judgeScanSlot q k head body s).management.IrqRight := by
  dsimp only [judgeScanSlot]
  split
  · exact endScan_irqRight _ _ h
  · split
    · exact endScan_irqRight _ _ h
    · exact h

theorem replayBodyRead_irqRight (body : List Byte) {s : State} (h : s.management.IrqRight) :
    (replayBodyRead body s).management.IrqRight := by
  unfold replayBodyRead
  (repeat' split) <;> simp [h, judgeRollbackSlot_irqRight, judgeScanSlot_irqRight, judgeRecoverySlot_irqRight]

theorem restoreDone_irqRight {s : State} (h : s.management.IrqRight) : (restoreDone s).management.IrqRight := by
  unfold restoreDone
  split
  · split
    · extract_lets
      split
      · exact queueClose_irqRight _ h
      · exact h
    · exact h
  · split
    · extract_lets
      split
      · exact finishRestoring_irqRight _ h
      · exact h
    · exact h
  · exact h

theorem restoreFaulted_irqRight (slot : Nat) (epoch line : Word) {s : State} (h : s.management.IrqRight) :
    (restoreFaulted slot epoch line s).management.IrqRight := by
  unfold restoreFaulted
  split
  · exact halt_irqRight _ (logError_irqRight _ _ _ _ _)
  · exact h

/-! ### Captures, durable records and the timeout -/

theorem endCapture_irqRight (i : Fin 4) (c : Capture) {s : State} (h : s.management.IrqRight) :
    (endCapture i c s).management.IrqRight :=
  noteCapturesSettled_irqRight h

theorem releaseCapture_irqRight (i : Fin 4) (c : Capture) {s : State} (h : s.management.IrqRight) :
    (releaseCapture i c s).management.IrqRight :=
  updateLow_irqRight h

@[simp] theorem faultCapture_irqRight (i : Fin 4) (c : Capture) (s : State) :
    (faultCapture i c s).management.IrqRight :=
  noteCapturesSettled_irqRight (releaseCapture_irqRight i c (reportDamage_irqRight _ _ _ _))

theorem assignLine_irqRight (i : Fin 4) (c : Capture) (data : List Byte) {s : State} (h : s.management.IrqRight) :
    (assignLine i c data s).management.IrqRight := by
  dsimp only [assignLine]
  split
  · exact fireTrigger_irqRight _ h
  · exact h

theorem commitPoint_irqRight (info : RecordInfo) {s : State} (h : s.management.IrqRight) :
    (commitPoint info s).management.IrqRight := by
  unfold commitPoint
  split
  · split
    · extract_lets _ t u
      have hu : u.management.IrqRight := by simp [u, t]
      split
      · exact reexamine_irqRight hu
      · exact hu
    · exact h
  · exact h

@[simp] theorem endRollback_irqRight (r : Rollback) (s : State) : (endRollback r s).management.IrqRight := by
  simp [endRollback]

theorem closeDurable_irqRight (info : RecordInfo) {s : State} (h : s.management.IrqRight) :
    (closeDurable info s).management.IrqRight := by
  unfold closeDurable
  (repeat' split) <;> simp [h]

theorem recordDurable_irqRight (info : RecordInfo) {s : State} (h : s.management.IrqRight) :
    (recordDurable info s).management.IrqRight := by
  dsimp only [recordDurable]
  split
  · exact h
  · have hcounted : (bump .records s).management.IrqRight := h
    cases info.kind with
    | line =>
      dsimp only
      split
      · exact endCapture_irqRight _ _ hcounted
      · exact hcounted
    | commit => exact commitPoint_irqRight info hcounted
    | close => exact closeDurable_irqRight info hcounted

theorem recordFaulted_irqRight (info : RecordInfo) {s : State} (h : s.management.IrqRight) :
    (recordFaulted info s).management.IrqRight := by
  unfold recordFaulted
  (repeat' split) <;> simp [h, halt_irqRight]

theorem endTimedOut_irqRight (e : MemoryEntry) {s : State} (h : s.management.IrqRight) :
    (endTimedOut s e).management.IrqRight := by
  unfold endTimedOut
  (repeat' split) <;> simp [h, anchorLineAnswered_irqRight]

theorem foldl_endTimedOut_irqRight (ended : List MemoryEntry) {s : State} (h : s.management.IrqRight) :
    (ended.foldl endTimedOut s).management.IrqRight := by
  induction ended generalizing s with
  | nil => exact h
  | cons e ended ih => exact ih (endTimedOut_irqRight e h)

theorem timeOut_irqRight {s : State} (h : s.management.IrqRight) : (timeOut s).management.IrqRight := by
  unfold timeOut
  split
  · exact h
  · exact foldl_endTimedOut_irqRight _ (halt_irqRight _ (logError_irqRight _ _ _ _ _))


/-! ### The frames of the commands keep IRQ# right -/

/-- A command acts or, while RESET# is asserted, does nothing; so it keeps IRQ# right when its effect does (R158). -/
theorem whileRunning_irqRight {f : State → State} {s t : State}
    (hf : s.management.IrqRight → (f s).management.IrqRight) (h : s.management.IrqRight)
    (hnext : whileRunning f s = .next t) : t.management.IrqRight := by
  cases hnext
  split
  · exact h
  · exact hf h

theorem onFrame_irqRight {f : State → State} {s t : State}
    (hf : s.management.IrqRight → (f s).management.IrqRight) (h : s.management.IrqRight)
    (hnext : onFrame f s = .next t) : t.management.IrqRight := by
  refine whileRunning_irqRight (fun _ => ?_) h hnext
  split
  · exact h
  · exact hf h

theorem onAnswer_irqRight {α : Type} (select : Source → Option α) {act : α → MemoryEntry → State → State}
    {s : State} (hact : ∀ a e t, t.management.IrqRight → (act a e t).management.IrqRight) (h : s.management.IrqRight) :
    (onAnswer select act s).management.IrqRight := by
  unfold onAnswer
  split
  · exact h
  · split
    · exact h
    · exact hact _ _ _ h

theorem captureAnswered_irqRight (cancelled : Bool) {act : Fin 4 → Capture → State → State} {s : State}
    (hact : ∀ i c t, t.management.IrqRight → (act i c t).management.IrqRight) (h : s.management.IrqRight) :
    (captureAnswered cancelled act s).management.IrqRight := by
  have hdropped : (dropOldest s).management.IrqRight := h
  unfold captureAnswered
  (repeat' split) <;> simp only [h, hdropped, hact]

theorem withoutWords_irqRight (count : Byte) {f : State → State} {s : State}
    (hf : s.management.IrqRight → (f s).management.IrqRight) (h : s.management.IrqRight) :
    (withoutWords count f s).management.IrqRight := by
  unfold withoutWords
  split
  · exact hf h
  · exact h

theorem whenGranted_irqRight (g : Grant) {f : State → State} {s : State}
    (hf : s.management.IrqRight → (f s).management.IrqRight) (h : s.management.IrqRight) :
    (whenGranted g f s).management.IrqRight := by
  unfold whenGranted
  split
  · exact hf h
  · exact h

theorem arriveRequest_irqRight (r : HostRequest) {forward : Judgement → State → State} {s : State}
    (hf : ∀ j, s.management.IrqRight → (forward j s).management.IrqRight) (h : s.management.IrqRight) :
    (arriveRequest r forward s).management.IrqRight := by
  unfold arriveRequest
  (repeat' split) <;> simp [h, hf]

/-! ### The host port and the arbiter -/

theorem takeWaiting_irqRight {s : State} (h : s.management.IrqRight) : (takeWaiting s).management.IrqRight := by
  unfold takeWaiting
  (repeat' split) <;> simp [h, updateSpace_irqRight]

@[simp] theorem clearLine_irqRight (line : Word) (s : State) :
    (clearLine line s).management.IrqRight ↔ s.management.IrqRight := by
  unfold clearLine
  split <;> rfl

@[simp] theorem expireWait_irqRight (s : State) : (expireWait s).management.IrqRight ↔ s.management.IrqRight := by
  unfold expireWait
  split <;> simp

@[simp] theorem expireDeferred_irqRight (i : Fin 4) (s : State) :
    (expireDeferred i s).management.IrqRight ↔ s.management.IrqRight := by
  dsimp only [expireDeferred]
  (repeat' split) <;> simp

theorem offerCapture_irqRight {s : State} (h : s.management.IrqRight) : (offerCapture s).management.IrqRight := by
  unfold offerCapture
  (repeat' split) <;> simp [h, updateSpace_irqRight, startCapture]

@[simp] theorem releaseHead_irqRight (s : State) : (releaseHead s).management.IrqRight ↔ s.management.IrqRight := by
  unfold releaseHead
  (repeat' split) <;> rfl

@[simp] theorem grantHostRead_irqRight (s : State) :
    (grantHostRead s).management.IrqRight ↔ s.management.IrqRight := by
  unfold grantHostRead
  split <;> rfl

@[simp] theorem grantFetch_irqRight (i : Fin 4) (s : State) :
    (grantFetch i s).management.IrqRight ↔ s.management.IrqRight := by
  unfold grantFetch
  split <;> rfl

theorem execDeferredFetchGrant_irqRight {s t : State} (h : s.management.IrqRight)
    (hnext : execDeferredFetchGrant s = .next t) : t.management.IrqRight := by
  unfold execDeferredFetchGrant at hnext
  refine whileRunning_irqRight (fun hs => ?_) h hnext
  split
  · exact (grantFetch_irqRight _ s).mpr hs
  · exact hs

@[simp] theorem grantCapture_irqRight (s : State) :
    (grantCapture s).management.IrqRight ↔ s.management.IrqRight := by
  unfold grantCapture
  (repeat' split) <;> rfl

@[simp] theorem grantRecord_irqRight (s : State) : (grantRecord s).management.IrqRight ↔ s.management.IrqRight := by
  unfold grantRecord
  split <;> rfl

@[simp] theorem grantAnchor_irqRight (s : State) : (grantAnchor s).management.IrqRight ↔ s.management.IrqRight := by
  unfold grantAnchor
  split <;> rfl

@[simp] theorem grantReplay_irqRight (s : State) : (grantReplay s).management.IrqRight ↔ s.management.IrqRight := by
  unfold grantReplay
  split <;> rfl

@[simp] theorem issue_irqRight (s : State) : (issue s).management.IrqRight ↔ s.management.IrqRight := by
  unfold issue
  split <;> rfl

/-! ### The answers of the memory -/

theorem dataWriteAnswered_irqRight (answer : WriteAnswer) (n : Word) (e : MemoryEntry) {s : State}
    (h : s.management.IrqRight) : (dataWriteAnswered answer n e s).management.IrqRight := by
  cases answer with
  | done => exact drainNotice_irqRight h
  | fault => exact drainNotice_irqRight (reportDamage_irqRight _ _ _ _)

theorem passWriteAnswered_irqRight (answer : WriteAnswer) (e : MemoryEntry) {s : State}
    (h : s.management.IrqRight) : (passWriteAnswered answer e s).management.IrqRight := by
  cases answer with
  | done => exact h
  | fault => exact logError_irqRight _ _ _ _ _

theorem cancelledAnswered_irqRight (answer : ReadAnswer) (i : Fin 4) (c : Capture) {s : State}
    (h : s.management.IrqRight) : (cancelledAnswered answer i c s).management.IrqRight := by
  cases answer with
  | done data => exact noteCapturesSettled_irqRight (releaseCapture_irqRight i c h)
  | fault => exact faultCapture_irqRight i c s

/-- The second line of an update or a STORE is answered. -/
theorem onSecondAnchorLine_irqRight (answer : WriteAnswer) {s : State} (h : s.management.IrqRight) :
    (onAnswer Source.asSecondAnchorLine
      (fun _ _ s => updateSpace (anchorLineAnswered true (lineAnswerOf answer) s)) s).management.IrqRight :=
  onAnswer_irqRight _ (fun _ _ _ ht => updateSpace_irqRight (anchorLineAnswered_irqRight _ _ ht)) h

theorem replayHeadAnswered_irqRight (answer : ReadAnswer) (slot : Nat) {s : State} (h : s.management.IrqRight) :
    (replayHeadAnswered answer slot s).management.IrqRight := by
  unfold replayHeadAnswered
  (repeat' split) <;> simp [h]

theorem replayBodyAnswered_irqRight (answer : ReadAnswer) (slot : Nat) {s : State} (h : s.management.IrqRight) :
    (replayBodyAnswered answer slot s).management.IrqRight := by
  unfold replayBodyAnswered
  (repeat' split) <;> simp [h, replayBodyRead_irqRight]

theorem restoreAnswered_irqRight (answer : WriteAnswer) (slot : Nat) (epoch line : Word) {s : State}
    (h : s.management.IrqRight) : (restoreAnswered answer slot epoch line s).management.IrqRight := by
  cases answer with
  | done => exact restoreDone_irqRight h
  | fault => exact restoreFaulted_irqRight slot epoch line h

theorem expireOldest_irqRight {s : State} (h : s.management.IrqRight) : (expireOldest s).management.IrqRight := by
  unfold expireOldest
  (repeat' split) <;> simp [h, updateSpace_irqRight, timeOut_irqRight]

theorem execUnexpectedMemoryAnswer_irqRight (kind : AnswerKind) {s t : State} (h : s.management.IrqRight)
    (hnext : execUnexpectedMemoryAnswer kind s = .next t) : t.management.IrqRight := by
  unfold execUnexpectedMemoryAnswer at hnext
  refine whileRunning_irqRight (fun hs => ?_) h hnext
  split
  · split
    · exact hs
    · exact updateSpace_irqRight (timeOut_irqRight hs)
  · exact hs

theorem expireAge_irqRight {s : State} (h : s.management.IrqRight) : (expireAge s).management.IrqRight := by
  unfold expireAge
  (repeat' split) <;> simp [h, updateSpace_irqRight, fireTrigger_irqRight]

/-! ### The management port -/

@[simp] theorem clearCovered_irqRight (addresses : List Nat) (s : State) :
    (clearCovered addresses s).management.IrqRight ↔ s.management.IrqRight := by
  unfold clearCovered
  split <;> rfl

theorem readRange_irqRight (item : BitVec 16) (count : Byte) {s : State} (h : s.management.IrqRight) :
    (readRange item count s).management.IrqRight := by
  dsimp only [readRange]
  (repeat' split) <;> simp [h]

theorem writeItem_irqRight (address : Nat) (value : Word) {s : State} (h : s.management.IrqRight) :
    (writeItem address value s).management.IrqRight := by
  unfold writeItem
  split
  · exact ManagementPort.setFlags_irqRight _ _
  · exact ManagementPort.setEnables_irqRight _ _
  · exact h
  · split
    · exact (ManagementPort.setPending_irqRight _ _).mpr h
    · exact h

theorem writeItems_irqRight (words : List Word) (address : Nat) {s : State} (h : s.management.IrqRight) :
    (writeItems address words s).management.IrqRight := by
  induction words generalizing address s with
  | nil => exact h
  | cons w words ih => exact ih (address + 1) (writeItem_irqRight address w h)

theorem writeRange_irqRight (item : BitVec 16) (words : List Word) {s : State} (h : s.management.IrqRight) :
    (writeRange item words s).management.IrqRight := by
  dsimp only [writeRange]
  split
  · exact writeItems_irqRight words item.toNat h
  · exact h

theorem popError_irqRight {s : State} (h : s.management.IrqRight) : (popError s).management.IrqRight := by
  unfold popError
  split <;> exact h

theorem probeTags_irqRight (words : List Word) {s : State} (h : s.management.IrqRight) :
    (probeTags words s).management.IrqRight := by
  unfold probeTags
  split <;> exact h

theorem execFrameDiscarded_irqRight {s t : State} (h : s.management.IrqRight)
    (hnext : execFrameDiscarded s = .next t) : t.management.IrqRight := by
  unfold execFrameDiscarded at hnext
  exact onFrame_irqRight (fun hs => hs) h hnext

/-! ### The commands on modes and epochs, and the input lines -/

theorem commitCommand_irqRight {s : State} (h : s.management.IrqRight) : (commitCommand s).management.IrqRight := by
  unfold commitCommand
  split <;> simp [h, updateSpace_irqRight, commitOpen_irqRight]

theorem startRollback_irqRight {s : State} (h : s.management.IrqRight) : (startRollback s).management.IrqRight :=
  noteEpochsDrained_irqRight (noteCapturesSettled_irqRight (by simpa using h))

theorem abortCommand_irqRight {s : State} (h : s.management.IrqRight) : (abortCommand s).management.IrqRight := by
  unfold abortCommand
  (repeat' split) <;> simp [h, updateSpace_irqRight, startRollback_irqRight]

theorem quiesceOpen_irqRight (n : Word) {s : State} (h : s.management.IrqRight) :
    (quiesceOpen n s).management.IrqRight :=
  drainNotice_irqRight (by simpa using h)

@[simp] theorem quiesceEmpty_irqRight (n : Word) (s : State) : (quiesceEmpty n s).management.IrqRight :=
  raise_irqRight _ _

theorem quiesceCommand_irqRight {s : State} (h : s.management.IrqRight) : (quiesceCommand s).management.IrqRight := by
  unfold quiesceCommand
  split <;> simp [h, updateSpace_irqRight, quiesceOpen_irqRight]

@[simp] theorem resumeActive_irqRight (s : State) : (resumeActive s).management.IrqRight ↔ s.management.IrqRight := by
  simp [resumeActive]

theorem resumeCommand_irqRight {s : State} (h : s.management.IrqRight) : (resumeCommand s).management.IrqRight := by
  unfold resumeCommand
  (repeat' split) <;> simp [h, updateSpace_irqRight]

theorem bypassCommand_irqRight {s : State} (h : s.management.IrqRight) : (bypassCommand s).management.IrqRight := by
  unfold bypassCommand
  (repeat' split) <;> simp [h]

theorem storeCommand_irqRight {s : State} (h : s.management.IrqRight) : (storeCommand s).management.IrqRight := by
  unfold storeCommand
  (repeat' split) <;> simp [h]

theorem thaw_irqRight {s : State} (h : s.management.IrqRight) : (thaw s).management.IrqRight := by
  dsimp only [thaw]
  split
  · exact updateSpace_irqRight (reexamine_irqRight h)
  · exact h

theorem execPfiAssert_irqRight {s t : State} (h : s.management.IrqRight) (hnext : execPfiAssert s = .next t) :
    t.management.IrqRight := by
  cases hnext
  split
  · exact h
  · simpa using h

theorem execPfiDeassert_irqRight {s t : State} (h : s.management.IrqRight) (hnext : execPfiDeassert s = .next t) :
    t.management.IrqRight := by
  cases hnext
  split
  · exact h
  · split
    · exact thaw_irqRight h
    · exact h

@[simp] theorem afterReset_irqRight (pfi : Bool) (straps : BitVec 2) (csLow : Bool) (queue : List Instr) :
    (State.afterReset pfi straps csLow queue).management.IrqRight := by
  simp [State.afterReset, ManagementPort.IrqRight, irqLevel]

/-! ### Every command, and every step -/

theorem exec_irqRight (i : Instr) {s t : State} (h : s.management.IrqRight) (hnext : exec i s = .next t) :
    t.management.IrqRight := by
  cases i with
  | hostReadRequest requester address length =>
    exact whileRunning_irqRight (arriveRequest_irqRight _ fun _ => (startRead_irqRight _ s).mpr) h hnext
  | hostWriteRequest requester address data =>
    refine whileRunning_irqRight (arriveRequest_irqRight _ fun j hs => ?_) h hnext
    exact updateSpace_irqRight ((offerWrite_irqRight _ _ s).mpr hs)
  | waitingWriteTaken => exact whileRunning_irqRight takeWaiting_irqRight h hnext
  | lineWaitCleared line => exact whileRunning_irqRight (clearLine_irqRight line s).mpr h hnext
  | hostWaitLimitExpiry => exact whileRunning_irqRight (expireWait_irqRight s).mpr h hnext
  | deferredDiscardLimitExpiry slot => exact whileRunning_irqRight (expireDeferred_irqRight slot s).mpr h hnext
  | captureStart => exact whileRunning_irqRight offerCapture_irqRight h hnext
  | holdRelease =>
    refine whileRunning_irqRight (whenGranted_irqRight _ fun hs => ?_) h hnext
    exact updateSpace_irqRight ((releaseHead_irqRight s).mpr hs)
  | hostReadGrant =>
    exact whileRunning_irqRight (whenGranted_irqRight _ (grantHostRead_irqRight s).mpr) h hnext
  | deferredFetchGrant => exact execDeferredFetchGrant_irqRight h hnext
  | captureReadGrant => exact whileRunning_irqRight (whenGranted_irqRight _ (grantCapture_irqRight s).mpr) h hnext
  | recordWriteGrant => exact whileRunning_irqRight (whenGranted_irqRight _ (grantRecord_irqRight s).mpr) h hnext
  | anchorLineGrant => exact whileRunning_irqRight (whenGranted_irqRight _ (grantAnchor_irqRight s).mpr) h hnext
  | replayRequestGrant => exact whileRunning_irqRight (whenGranted_irqRight _ (grantReplay_irqRight s).mpr) h hnext
  | memoryIssue => exact whileRunning_irqRight (issue_irqRight s).mpr h hnext
  | unexpectedMemoryAnswer kind => exact execUnexpectedMemoryAnswer_irqRight kind h hnext
  | hostReadAnswer answer =>
    exact whileRunning_irqRight (onAnswer_irqRight _ fun _ _ _ => (hostReadAnswered_irqRight _ _ _).mpr) h hnext
  | deferredFetchAnswer answer =>
    refine whileRunning_irqRight (onAnswer_irqRight _ fun x _ t ht => ?_) h hnext
    split
    · exact ht
    · exact (fetchAnswered_irqRight _ _ _).mpr ht
  | dataWriteAnswer answer =>
    refine whileRunning_irqRight (onAnswer_irqRight _ fun n e t ht => ?_) h hnext
    exact updateSpace_irqRight (dataWriteAnswered_irqRight answer n e ht)
  | passWriteAnswer answer =>
    exact whileRunning_irqRight (onAnswer_irqRight _ fun _ e _ => passWriteAnswered_irqRight answer e) h hnext
  | captureReadDone data =>
    refine whileRunning_irqRight (captureAnswered_irqRight _ fun i c t ht => ?_) h hnext
    exact updateSpace_irqRight (assignLine_irqRight i c data ht)
  | captureReadFault =>
    refine whileRunning_irqRight (captureAnswered_irqRight _ fun i c t _ => ?_) h hnext
    exact updateSpace_irqRight (faultCapture_irqRight i c t)
  | cancelledReadAnswer answer =>
    refine whileRunning_irqRight (captureAnswered_irqRight _ fun i c t ht => ?_) h hnext
    exact updateSpace_irqRight (cancelledAnswered_irqRight answer i c ht)
  | recordHeadAck =>
    refine whileRunning_irqRight (onAnswer_irqRight _ fun info _ t ht => ?_) h hnext
    exact updateSpace_irqRight (recordDurable_irqRight info ht)
  | recordWriteFault =>
    refine whileRunning_irqRight (onAnswer_irqRight _ fun info _ t ht => ?_) h hnext
    exact updateSpace_irqRight (recordFaulted_irqRight info ht)
  | autoCommitAgeExpiry => exact whileRunning_irqRight expireAge_irqRight h hnext
  | anchorUpdateAnswer answer =>
    refine whileRunning_irqRight (fun hs => ?_) h hnext
    split
    · exact onSecondAnchorLine_irqRight answer hs
    · exact hs
  | storeAnswer answer =>
    refine whileRunning_irqRight (fun hs => ?_) h hnext
    split
    · exact onSecondAnchorLine_irqRight answer hs
    · exact hs
  | anchorReadAnswer answer =>
    refine whileRunning_irqRight (onAnswer_irqRight _ fun _ _ t ht => ?_) h hnext
    exact updateSpace_irqRight (anchorReadAnswered_irqRight answer ht)
  | replayReadAnswer answer =>
    refine whileRunning_irqRight (onAnswer_irqRight _ fun slot _ t ht => ?_) h hnext
    exact updateSpace_irqRight (replayBodyAnswered_irqRight answer slot ht)
  | restoreWriteAnswer answer =>
    refine whileRunning_irqRight (onAnswer_irqRight _ fun x e t ht => ?_) h hnext
    exact updateSpace_irqRight (restoreAnswered_irqRight answer x.1 x.2 e.line ht)
  | memoryTimeout => exact whileRunning_irqRight expireOldest_irqRight h hnext
  | read item count => exact onFrame_irqRight (readRange_irqRight item count) h hnext
  | counterSnapshot item count => exact onFrame_irqRight (readRange_irqRight item count) h hnext
  | write item words => exact onFrame_irqRight (writeRange_irqRight item words) h hnext
  | eventFlagsWrite value => exact onFrame_irqRight (writeRange_irqRight 0x0018#16 [value]) h hnext
  | eventEnablesWrite value => exact onFrame_irqRight (writeRange_irqRight 0x0019#16 [value]) h hnext
  | pendingConfigWrite item words => exact onFrame_irqRight (writeRange_irqRight item words) h hnext
  | commit item count => exact onFrame_irqRight (withoutWords_irqRight count commitCommand_irqRight) h hnext
  | abort item count => exact onFrame_irqRight (withoutWords_irqRight count abortCommand_irqRight) h hnext
  | quiesce item count => exact onFrame_irqRight (withoutWords_irqRight count quiesceCommand_irqRight) h hnext
  | resume item count => exact onFrame_irqRight (withoutWords_irqRight count resumeCommand_irqRight) h hnext
  | bypass item count => exact onFrame_irqRight (withoutWords_irqRight count bypassCommand_irqRight) h hnext
  | store item count => exact onFrame_irqRight (withoutWords_irqRight count storeCommand_irqRight) h hnext
  | errorPop item count => exact onFrame_irqRight (withoutWords_irqRight count popError_irqRight) h hnext
  | tagProbe item words => exact onFrame_irqRight (probeTags_irqRight words) h hnext
  | badFrame => exact onFrame_irqRight (respond_irqRight _ _ s).mpr h hnext
  | frameDiscarded => exact execFrameDiscarded_irqRight h hnext
  | pfiAssert => exact execPfiAssert_irqRight h hnext
  | pfiDeassert => exact execPfiDeassert_irqRight h hnext
  | resetAssert =>
    cases hnext
    exact h
  | resetRelease straps csLow =>
    cases hnext
    exact afterReset_irqRight _ straps csLow s.pending
  | recordBodyAck => exact whileRunning_irqRight (onAnswer_irqRight _ fun _ _ _ => id) h hnext
  | anchorLineAnswer answer =>
    exact whileRunning_irqRight (onAnswer_irqRight _ fun _ _ _ => anchorLineAnswered_irqRight _ _) h hnext
  | replayHeadReadAnswer answer =>
    refine whileRunning_irqRight (onAnswer_irqRight _ fun slot _ t ht => ?_) h hnext
    exact updateSpace_irqRight (replayHeadAnswered_irqRight answer slot ht)

@[simp] theorem tick_irqRight (s : State) : (tick s).management.IrqRight ↔ s.management.IrqRight := by
  unfold tick
  split <;> simp

theorem step_irqRight {s t : State} (h : s.IrqRight) (hnext : step s = .next t) : t.IrqRight := by
  unfold step at hnext
  split at hnext
  · cases hnext
    exact (tick_irqRight s).mpr h
  case h_2 c rest _ =>
    have htaken : { s with pending := rest }.management.IrqRight := h
    exact exec_irqRight c htaken hnext

/-! ### The two writes -/

/-- An event item takes the low 14 bits of the word written. -/
theorem eventBits_eq (value : Word) : value.setWidth 14 = value.extractLsb' 0 14 :=
  BitVec.setWidth_eq_extractLsb' (by decide)

theorem exec_eventFlagsWrite_of_takesFrames {s : State} (h : s.TakesFrames) (value : Word) :
    exec (.eventFlagsWrite value) s =
      .next (respond .ok []
        (s.setManagement (s.management.setFlags (s.management.flags &&& ~~~(value.setWidth 14))))) :=
  onFrame_of_takesFrames h _

theorem exec_eventEnablesWrite_of_takesFrames {s : State} (h : s.TakesFrames) (value : Word) :
    exec (.eventEnablesWrite value) s =
      .next (respond .ok [] (s.setManagement (s.management.setEnables (value.setWidth 14)))) :=
  onFrame_of_takesFrames h _

end Sys2Proof.Machine

namespace Sys2Proof

open Machine in
/-- Settles O55: what changes a flag or an enable computes IRQ# again, and everything else a command does leaves the
three alone; so each operation, each command and each step keeps IRQ# right, and the two writes and reset are read
off. -/
theorem irqFollowsFlags : Obligations.IrqFollowsFlags := by
  refine ⟨fun _ _ => step_irqRight, fun s => s.management.irqRight_iff_exists, fun _ => rfl, ?writes,
    fun _ _ _ _ => ⟨rfl, rfl⟩⟩
  case writes =>
    intro s v value hframe
    refine ⟨raise_irqRight v s, raise_enables v s,
      ⟨_, exec_eventFlagsWrite_of_takesFrames hframe value, rfl, rfl, ?cleared⟩,
      ⟨_, exec_eventEnablesWrite_of_takesFrames hframe value, rfl, rfl, ?taken⟩⟩
    case cleared => exact congrArg (s.management.flags &&& ~~~ ·) (eventBits_eq value)
    case taken => exact eventBits_eq value

end Sys2Proof

/-! The ERROR-POP command (R168): the fields of the first word of a popped entry, how an error joins the log, what a pop
does to the log, and the settlement of O48. -/

namespace Sys2Proof.Machine

/-! ### The fields of the first word (R174): kind, mode, and three presence indications -/

/-- The first word of a popped entry. -/
def ErrorEntry.headWord (e : ErrorEntry) : Word :=
  e.kind.code ||| (e.mode.code <<< 8) ||| flagAt e.epoch.isSome 16 ||| flagAt e.line.isSome 17 |||
    flagAt e.slot.isSome 18

theorem ErrorEntry.words_eq (e : ErrorEntry) :
    e.words = [e.headWord, e.epoch.getD 0#32, e.line.getD 0#32, BitVec.ofNat 32 (e.slot.getD 0)] := rfl

/-- A kind code stays within the low byte. -/
theorem ErrorKind.code_bits (k : ErrorKind) :
    k.code.extractLsb' 8 8 = 0#8 ∧ k.code.getLsbD 16 = false ∧ k.code.getLsbD 17 = false ∧
    k.code.getLsbD 18 = false ∧ k.code.extractLsb' 19 13 = 0#13 := by
  cases k <;> decide

/-- A mode code, moved up by 8, stays within the second byte. -/
theorem Mode.code_shiftLeft_bits (m : Mode) :
    (m.code <<< 8).extractLsb' 0 8 = 0#8 ∧ (m.code <<< 8).extractLsb' 8 8 = m.code.extractLsb' 0 8 ∧
    (m.code <<< 8).getLsbD 16 = false ∧ (m.code <<< 8).getLsbD 17 = false ∧ (m.code <<< 8).getLsbD 18 = false ∧
    (m.code <<< 8).extractLsb' 19 13 = 0#13 := by
  cases m <;> decide

theorem getElem_flagAt (b : Bool) (n : Nat) {i : Nat} (hi : i < 32) : (flagAt b n)[i] = (b && decide (n = i)) := by
  cases b <;> simp [flagAt, eq_comm]

/-- A one-bit item shows in no field that its bit lies outside of. -/
theorem extractLsb'_flagAt_of_outside (b : Bool) {n start len : Nat} (h : n < start ∨ start + len ≤ n) :
    (flagAt b n).extractLsb' start len = 0#len := by
  apply BitVec.eq_of_getLsbD_eq
  intro i hi
  have hbit : n ≠ start + i := by omega
  cases b <;> simp [flagAt, hbit]

theorem ErrorEntry.headWord_kind (e : ErrorEntry) : e.headWord.extractLsb' 0 8 = e.kind.code.extractLsb' 0 8 := by
  simp [headWord, BitVec.extractLsb'_or, Mode.code_shiftLeft_bits, extractLsb'_flagAt_of_outside]

theorem ErrorEntry.headWord_mode (e : ErrorEntry) : e.headWord.extractLsb' 8 8 = e.mode.code.extractLsb' 0 8 := by
  simp [headWord, BitVec.extractLsb'_or, ErrorKind.code_bits, Mode.code_shiftLeft_bits, extractLsb'_flagAt_of_outside]

theorem ErrorEntry.headWord_presence (e : ErrorEntry) :
    e.headWord.getLsbD 16 = e.epoch.isSome ∧ e.headWord.getLsbD 17 = e.line.isSome ∧
    e.headWord.getLsbD 18 = e.slot.isSome := by
  simp only [headWord, BitVec.getLsbD_or, ErrorKind.code_bits, Mode.code_shiftLeft_bits]
  simp [getElem_flagAt]

theorem ErrorEntry.headWord_unused (e : ErrorEntry) : e.headWord.extractLsb' 19 13 = 0#13 := by
  simp [headWord, BitVec.extractLsb'_or, ErrorKind.code_bits, Mode.code_shiftLeft_bits, extractLsb'_flagAt_of_outside]

/-! ### How an error joins the log (R167) -/

theorem ManagementPort.appendError_of_room {m : ManagementPort} (h : m.log.length < 8) (e : ErrorEntry) :
    m.appendError e = { m with log := m.log ++ [e] } :=
  if_pos h

theorem ManagementPort.appendError_of_full {m : ManagementPort} (h : 8 ≤ m.log.length) (e : ErrorEntry) :
    m.appendError e = { m with overflow := true } :=
  if_neg (Nat.not_lt.mpr h)

section
variable (kind : ErrorKind) (epoch line : Option Word) (slot : Option Nat) (s : State)

/-- A report changes the log as the error joins it, and the flags; the rest of the port stands. -/
theorem logError_management :
    (logError kind epoch line slot s).management =
      let m := s.management.appendError
        { kind := kind, epoch := epoch, line := line, slot := slot, mode := s.modes.mode }
      m.setFlags (m.flags ||| Event.errorLogged.mask) := rfl

theorem logError_of_room (h : s.management.log.length < 8) :
    (logError kind epoch line slot s).management.log =
      s.management.log ++ [{ kind := kind, epoch := epoch, line := line, slot := slot, mode := s.modes.mode }] ∧
    (logError kind epoch line slot s).management.overflow = s.management.overflow := by
  rw [logError_management, ManagementPort.appendError_of_room h]
  exact ⟨rfl, rfl⟩

theorem logError_of_full (h : 8 ≤ s.management.log.length) :
    (logError kind epoch line slot s).management.log = s.management.log ∧
    (logError kind epoch line slot s).management.overflow = true := by
  rw [logError_management, ManagementPort.appendError_of_full h]
  exact ⟨rfl, rfl⟩

@[simp] theorem logError_awaitsDeselect :
    (logError kind epoch line slot s).management.awaitsDeselect = s.management.awaitsDeselect := by
  rw [logError_management]
  unfold ManagementPort.appendError
  split <;> rfl

theorem logError_takesFrames (h : s.TakesFrames) : (logError kind epoch line slot s).TakesFrames := by
  obtain ⟨hrunning, hselected⟩ := h
  exact ⟨by simpa using hrunning, by simpa using hselected⟩

end

/-! ### The command -/

theorem requestBytes_errorPop (item : BitVec 16) (count : Byte) :
    ∃ crc : Byte, requestBytes (.errorPop item count) =
      some [0x30#8, item.extractLsb' 8 8, item.extractLsb' 0 8, count, crc] :=
  (shortRequest_eq 0x30#8 item count).imp fun _ h => congrArg some h

theorem exec_errorPop_of_takesFrames {s : State} (h : s.TakesFrames) (item : BitVec 16) (count : Byte) :
    exec (.errorPop item count) s = .next (withoutWords count popError s) :=
  onFrame_of_takesFrames h _

/-- The state with its oldest error taken out and `rest` left of the log. -/
def State.popped (s : State) (rest : List ErrorEntry) : State :=
  { s with
    management :=
      { s.management with log := rest, overflow := if rest = [] then false else s.management.overflow } }

theorem popError_of_nil {s : State} (h : s.management.log = []) :
    popError s = respond .ok [0#32, 0#32, 0#32, 0#32] s := by
  rw [popError, h]

theorem popError_of_cons {s : State} {e : ErrorEntry} {rest : List ErrorEntry} (h : s.management.log = e :: rest) :
    popError s = respond .ok e.words (s.popped rest) := by
  rw [popError, h]
  cases rest <;> rfl

/-- With a full log, a pop makes room for the error that comes after it. -/
theorem logError_popped {s : State} {rest : List ErrorEntry} (hfull : rest.length = 7) (kind : ErrorKind)
    (epoch line : Option Word) (slot : Option Nat) :
    (logError kind epoch line slot (s.popped rest)).management.log =
      rest ++ [{ kind := kind, epoch := epoch, line := line, slot := slot, mode := s.modes.mode }] ∧
    (logError kind epoch line slot (s.popped rest)).management.overflow = s.management.overflow := by
  have hne : rest ≠ [] := List.ne_nil_of_length_pos (by omega)
  have hroom : (s.popped rest).management.log.length < 8 := by simp [State.popped, hfull]
  obtain ⟨hlog, hoverflow⟩ := logError_of_room kind epoch line slot (s.popped rest) hroom
  exact ⟨hlog, hoverflow.trans (if_neg hne)⟩

/-- With a full log, an error that comes before a pop is lost and leaves the overflow indication set. -/
theorem popError_logError {s : State} {e : ErrorEntry} {rest : List ErrorEntry} (h : s.management.log = e :: rest)
    (hfull : rest.length = 7) (kind : ErrorKind) (epoch line : Option Word) (slot : Option Nat) :
    (popError (logError kind epoch line slot s)).management.log = rest ∧
    (popError (logError kind epoch line slot s)).management.overflow = true := by
  have hne : rest ≠ [] := List.ne_nil_of_length_pos (by omega)
  have hlength : 8 ≤ s.management.log.length := by simp [h, hfull]
  obtain ⟨hlog, hoverflow⟩ := logError_of_full kind epoch line slot s hlength
  rw [popError_of_cons (hlog.trans h)]
  exact ⟨rfl, (if_neg hne).trans hoverflow⟩

end Sys2Proof.Machine

namespace Sys2Proof

open Machine in
/-- Settles O48: the command is a frame without words; on a log that is not empty it answers the words of the oldest
entry, whose fields lie in bits of their own, and leaves the rest, so a full log has room again after the pop and none
before it. -/
theorem errorPop : Obligations.ErrorPop := by
  intro s item count hframe kinds modes
  rw [exec_errorPop_of_takesFrames hframe]
  refine ⟨requestBytes_errorPop item count, ?words, ?empty, ?pop⟩
  case words =>
    intro hcount
    rw [withoutWords_of_ne hcount]
  case empty =>
    rintro rfl hlog
    rw [withoutWords_zero, popError_of_nil hlog]
  case pop =>
    rintro e rest rfl hlog
    obtain ⟨hepoch, hline, hslot⟩ := e.headWord_presence
    refine ⟨e.headWord, s.popped rest, rfl, ?response, ?kind, ?mode, hepoch, hline, hslot, e.headWord_unused, ?full⟩
    case response => rw [withoutWords_zero, popError_of_cons hlog, e.words_eq]
    case kind =>
      have hcode : ∀ k : Fin 9, kinds[k].code.extractLsb' 0 8 = BitVec.ofNat 8 (k.val + 1) := by decide
      intro k hk
      rw [e.headWord_kind, hk, hcode]
    case mode =>
      have hcode : ∀ m : Fin 7, modes[m].code.extractLsb' 0 8 = BitVec.ofNat 8 m.val := by decide
      intro m hm
      rw [e.headWord_mode, hm, hcode]
    case full =>
      intro hfull kind epoch line slot
      obtain ⟨hlog', hoverflow⟩ := logError_popped hfull kind epoch line slot
      refine ⟨hlog', hoverflow, _, ?_, popError_logError hlog hfull kind epoch line slot⟩
      rw [exec_errorPop_of_takesFrames (logError_takesFrames kind epoch line slot s hframe), withoutWords_zero]

end Sys2Proof

/-! What a step can do: one relation that lists, once, the effects of the commands on a state, with the conditions under
which each acts. The invariants are proved over its cases. -/

namespace Sys2Proof.Machine

-- One theorem at a time: the proofs below would otherwise wait for one another in many threads.
set_option Elab.async false

/-! ### Which sources the answer rows take -/

theorem Source.eq_of_asHostRead {x : Source} {owner : ReadOwner} (h : x.asHostRead = some owner) :
    ∃ requester, x = .hostRead requester owner := by
  cases x <;> cases h
  exact ⟨_, rfl⟩

theorem Source.eq_of_asDeferredFetch {x : Source} {y : Fin 4 × Bool} (h : x.asDeferredFetch = some y) :
    x = .deferredFetch y.1 y.2 := by
  cases x <;> cases h
  rfl

theorem Source.eq_of_asDataWrite {x : Source} {n : Word} (h : x.asDataWrite = some n) :
    x = .holdRelease (some n) := by
  cases x with
  | holdRelease epoch => cases epoch <;> cases h; rfl
  | _ => cases h

theorem Source.eq_of_asPassWrite {x : Source} {u : Unit} (h : x.asPassWrite = some u) : x = .holdRelease none := by
  cases x with
  | holdRelease epoch => cases epoch <;> cases h; rfl
  | _ => cases h

theorem Source.eq_of_asCaptureRead {x : Source} {i : Fin 4} (h : x.asCaptureRead = some i) : x = .captureRead i := by
  cases x <;> cases h
  rfl

theorem Source.eq_of_asRecordHead {x : Source} {info : RecordInfo} (h : x.asRecordHead = some info) :
    x = .recordWrite info true := by
  cases x with
  | recordWrite info isHead => cases isHead <;> cases h; rfl
  | _ => cases h

theorem Source.eq_of_asRecordBody {x : Source} {info : RecordInfo} (h : x.asRecordBody = some info) :
    x = .recordWrite info false := by
  cases x with
  | recordWrite info isHead => cases isHead <;> cases h; rfl
  | _ => cases h

theorem Source.eq_of_asRecordWrite {x : Source} {info : RecordInfo} (h : x.asRecordWrite = some info) :
    ∃ isHead, x = .recordWrite info isHead := by
  cases x <;> cases h
  exact ⟨_, rfl⟩

theorem Source.eq_of_asFirstAnchorLine {x : Source} {u : Unit} (h : x.asFirstAnchorLine = some u) :
    ∃ copy, x = .anchorWrite copy false := by
  cases x with
  | anchorWrite copy second => cases second <;> cases h; exact ⟨copy, rfl⟩
  | _ => cases h

theorem Source.eq_of_asSecondAnchorLine {x : Source} {u : Unit} (h : x.asSecondAnchorLine = some u) :
    ∃ copy, x = .anchorWrite copy true := by
  cases x with
  | anchorWrite copy second => cases second <;> cases h; exact ⟨copy, rfl⟩
  | _ => cases h

theorem Source.eq_of_asAnchorRead {x : Source} {u : Unit} (h : x.asAnchorRead = some u) :
    ∃ copy second, x = .anchorRead copy second := by
  cases x <;> cases h
  exact ⟨_, _, rfl⟩

theorem Source.eq_of_asReplayHead {x : Source} {slot : Nat} (h : x.asReplayHead = some slot) :
    x = .replayRead slot true := by
  cases x with
  | replayRead slot isHead => cases isHead <;> cases h; rfl
  | _ => cases h

theorem Source.eq_of_asReplayBody {x : Source} {slot : Nat} (h : x.asReplayBody = some slot) :
    x = .replayRead slot false := by
  cases x with
  | replayRead slot isHead => cases isHead <;> cases h; rfl
  | _ => cases h

theorem Source.eq_of_asRestore {x : Source} {y : Nat × Word} (h : x.asRestore = some y) :
    x = .restoreWrite y.1 y.2 := by
  cases x <;> cases h
  rfl

/-! ### The effects of the commands -/

/-- What a command other than RESET_RELEASE can do to a state, one case for each effect. -/
inductive Moves (s : State) : State → Prop
  | idle : Moves s s
  | ticked : Moves s (elapse 1 s)
  | refused (a : HostAnswer) : Moves s (answerHost a s)
  | readForwarded (r : HostRequest) : Moves s (startRead r s)
  | writeOffered (r : HostRequest) (journaled : Bool) (hjudge : journaled = true → s.judge r.kind r.cls = .journal) :
      Moves s (updateSpace (offerWrite r journaled s))
  | waitingTaken (r : HostRequest) (journaled : Bool) (hjudge : journaled = true → s.judge r.kind r.cls = .journal)
      (hplace : s.hold.entries.length < 16) : Moves s (updateSpace (takeWrite r journaled s))
  | lineCleared (line : Word) : Moves s (clearLine line s)
  | waitExpired : Moves s (expireWait s)
  | deferredExpired (i : Fin 4) : Moves s (expireDeferred i s)
  | captureOffered : Moves s (offerCapture s)
  | headReleased (hgrant : s.arbiter = some .hold) : Moves s (updateSpace (releaseHead s))
  | hostReadGranted (hgrant : s.arbiter = some .hostRead) : Moves s (grantHostRead s)
  | fetchGranted (i : Fin 4) (hgrant : s.arbiter = some (.deferredFetch i)) : Moves s (grantFetch i s)
  | captureGranted (hgrant : s.arbiter = some .capture) : Moves s (grantCapture s)
  | recordGranted (hgrant : s.arbiter = some .record) : Moves s (grantRecord s)
  | anchorGranted (hgrant : s.arbiter = some .anchor) : Moves s (grantAnchor s)
  | replayGranted (hgrant : s.arbiter = some .replay) : Moves s (grantReplay s)
  | issued : Moves s (issue s)
  | hostReadAnswer {e : MemoryEntry} {rest : List MemoryEntry} (h : s.Awaits e rest) {requester : BitVec 4}
      {owner : ReadOwner} (hsource : e.source = .hostRead requester owner) (a : ReadAnswer) :
      Moves s (hostReadAnswered owner a (s.answered rest))
  | fetchDropped {e : MemoryEntry} {rest : List MemoryEntry} (h : s.Awaits e rest) {i : Fin 4}
      (hsource : e.source = .deferredFetch i true) : Moves s (s.answered rest)
  | fetchAnswer {e : MemoryEntry} {rest : List MemoryEntry} (h : s.Awaits e rest) {i : Fin 4}
      (hsource : e.source = .deferredFetch i false) (a : ReadAnswer) :
      Moves s (fetchAnswered i a (s.answered rest))
  | dataWriteAnswer {e : MemoryEntry} {rest : List MemoryEntry} (h : s.Awaits e rest) {n : Word}
      (hsource : e.source = .holdRelease (some n)) (a : WriteAnswer) :
      Moves s (updateSpace (dataWriteAnswered a n e (s.answered rest)))
  | passWriteAnswer {e : MemoryEntry} {rest : List MemoryEntry} (h : s.Awaits e rest)
      (hsource : e.source = .holdRelease none) (a : WriteAnswer) :
      Moves s (passWriteAnswered a e (s.answered rest))
  | captureDropped {e : MemoryEntry} {rest : List MemoryEntry} (h : s.Awaits e rest) {i : Fin 4}
      (hsource : e.source = .captureRead i) (hslot : s.capture.slots[i] = none) : Moves s (s.answered rest)
  | captureDone {e : MemoryEntry} {rest : List MemoryEntry} (h : s.Awaits e rest) {i : Fin 4}
      (hsource : e.source = .captureRead i) {c : Capture} (hslot : s.capture.slots[i] = some c)
      (hphase : c.phase = .reading false) (data : List Byte) :
      Moves s (updateSpace (assignLine i c data (s.answered rest)))
  | captureFault {e : MemoryEntry} {rest : List MemoryEntry} (h : s.Awaits e rest) {i : Fin 4}
      (hsource : e.source = .captureRead i) {c : Capture} (hslot : s.capture.slots[i] = some c) {cancelled : Bool}
      (hphase : c.phase = .reading cancelled) : Moves s (updateSpace (faultCapture i c (s.answered rest)))
  | captureCancelled {e : MemoryEntry} {rest : List MemoryEntry} (h : s.Awaits e rest) {i : Fin 4}
      (hsource : e.source = .captureRead i) {c : Capture} (hslot : s.capture.slots[i] = some c)
      (hphase : c.phase = .reading true) :
      Moves s (updateSpace (noteCapturesSettled (releaseCapture i c (s.answered rest))))
  | recordHeadDone {e : MemoryEntry} {rest : List MemoryEntry} (h : s.Awaits e rest) {info : RecordInfo}
      (hsource : e.source = .recordWrite info true) : Moves s (updateSpace (recordDurable info (s.answered rest)))
  | recordBodyDone {e : MemoryEntry} {rest : List MemoryEntry} (h : s.Awaits e rest) {info : RecordInfo}
      (hsource : e.source = .recordWrite info false) : Moves s (s.answered rest)
  | recordFault {e : MemoryEntry} {rest : List MemoryEntry} (h : s.Awaits e rest) {info : RecordInfo} {isHead : Bool}
      (hsource : e.source = .recordWrite info isHead) : Moves s (updateSpace (recordFaulted info (s.answered rest)))
  | firstAnchorLine {e : MemoryEntry} {rest : List MemoryEntry} (h : s.Awaits e rest) {copy : Copy}
      (hsource : e.source = .anchorWrite copy false) (a : LineAnswer) :
      Moves s (anchorLineAnswered false a (s.answered rest))
  | secondAnchorLine {e : MemoryEntry} {rest : List MemoryEntry} (h : s.Awaits e rest) {copy : Copy}
      (hsource : e.source = .anchorWrite copy true) (a : LineAnswer) :
      Moves s (updateSpace (anchorLineAnswered true a (s.answered rest)))
  | anchorReadAnswer {e : MemoryEntry} {rest : List MemoryEntry} (h : s.Awaits e rest) {copy : Copy} {second : Bool}
      (hsource : e.source = .anchorRead copy second) (a : ReadAnswer) :
      Moves s (updateSpace (anchorReadAnswered a (s.answered rest)))
  | replayHeadAnswer {e : MemoryEntry} {rest : List MemoryEntry} (h : s.Awaits e rest) {slot : Nat}
      (hsource : e.source = .replayRead slot true) (a : ReadAnswer) :
      Moves s (updateSpace (replayHeadAnswered a slot (s.answered rest)))
  | replayBodyAnswer {e : MemoryEntry} {rest : List MemoryEntry} (h : s.Awaits e rest) {slot : Nat}
      (hsource : e.source = .replayRead slot false) (a : ReadAnswer) :
      Moves s (updateSpace (replayBodyAnswered a slot (s.answered rest)))
  | restoreAnswer {e : MemoryEntry} {rest : List MemoryEntry} (h : s.Awaits e rest) {slot : Nat} {epoch : Word}
      (hsource : e.source = .restoreWrite slot epoch) (a : WriteAnswer) :
      Moves s (updateSpace (restoreAnswered a slot epoch e.line (s.answered rest)))
  | timedOut {e : MemoryEntry} {rest : List MemoryEntry} (h : s.Awaits e rest) (moment : Nat) :
      Moves s (updateSpace (timeOut (elapseTo moment s)))
  | unfit {e : MemoryEntry} {rest : List MemoryEntry} (h : s.Awaits e rest) : Moves s (updateSpace (timeOut s))
  | ageExpired (moment : Nat) : Moves s (updateSpace (fireTrigger false (elapseTo moment s)))
  | managed (m : ManagementPort) (hlog : m.log.length ≤ s.management.log.length) : Moves s (s.setManagement m)
  | emptyCommitted (e : LiveEpoch) (hjudge : s.judgeCommit = .empty e) :
      Moves s (respond .ok [] (updateSpace (commitEmpty e.number s)))
  | commitStarted (e : LiveEpoch) (hjudge : s.judgeCommit = .commits e) :
      Moves s (respond .ok [] (updateSpace (commitOpen e.number s)))
  | emptyQuiesced (e : LiveEpoch) (hjudge : s.judgeCommit = .empty e) :
      Moves s (respond .ok [] (updateSpace (quiesceEmpty e.number s)))
  | quiesceStarted (e : LiveEpoch) (hjudge : s.judgeCommit = .commits e) :
      Moves s (respond .ok [] (updateSpace (quiesceOpen e.number s)))
  | aborted (hmode : s.modes.mode = .active) (hroll : s.rollingBack = false)
      (hcommitting : s.epochs.table.has .committing = false) : Moves s (respond .ok [] (updateSpace (startRollback s)))
  | resumed (hmode : s.modes.mode = .quiesced ∨ s.modes.mode = .bypass) (hstore : s.storeInFlight = false) :
      Moves s (respond .ok [] (updateSpace (resumeActive s)))
  | bypassed (hmode : s.modes.mode = .quiesced) : Moves s (respond .ok [] (setMode .bypass s))
  | storeStarted (hmode : s.modes.mode = .quiesced ∨ s.modes.mode = .bypass)
      (hvalid : s.management.pending.valid s.anchorBase = true) : Moves s (respond .ok [] (startStore s))
  | pinned (p : Pins) : Moves s (s.setPins p)
  | frozen (p : Pins) : Moves s (rejudge ((s.setPins p).setModes { s.modes with freeze := true }))
  | thawed (p : Pins) : Moves s (thaw (s.setPins p))
  | resetAsserted (m : ManagementPort) (p : Pins) (hlog : m.log = s.management.log) :
      Moves s ((s.setManagement m).setPins p)

/-! ### The commands make these moves -/

theorem awaits_of_oldestIssued {s : State} {e : MemoryEntry} (h : s.oldestIssued = some e) :
    ∃ rest, s.Awaits e rest := by
  unfold State.oldestIssued at h
  split at h
  · cases h
  · next x rest hqueue =>
    split at h
    · next hissued => cases h; exact ⟨rest, hqueue, hissued⟩
    · cases h

theorem whileRunning_moves {f : State → State} {s t : State} (hnext : whileRunning f s = .next t) (hf : Moves s (f s)) :
    Moves s t := by
  cases hnext
  split
  · exact .idle
  · exact hf

theorem onFrame_moves {f : State → State} {s t : State} (hnext : onFrame f s = .next t) (hf : Moves s (f s)) :
    Moves s t := by
  refine whileRunning_moves hnext ?_
  dsimp only
  split
  · exact .managed _ le_rfl
  · exact hf

theorem respond_moves (status : Status) (words : List Word) (s : State) : Moves s (respond status words s) :=
  .managed _ le_rfl

theorem withoutWords_moves {f : State → State} {s t : State} (count : Byte)
    (hnext : onFrame (withoutWords count f) s = .next t) (hf : Moves s (f s)) : Moves s t := by
  refine onFrame_moves hnext ?_
  unfold withoutWords
  split
  · exact hf
  · exact respond_moves _ _ s

/-- An answer row makes the move of the oldest ISSUED entry, when that is one of its own. -/
theorem onAnswer_moves {α : Type} {select : Source → Option α} {act : α → MemoryEntry → State → State} {s : State}
    (hact : ∀ a e rest, s.Awaits e rest → select e.source = some a → Moves s (act a e (s.answered rest))) :
    Moves s (onAnswer select act s) := by
  unfold onAnswer
  split
  · exact .idle
  · next e holdest =>
    obtain ⟨rest, h⟩ := awaits_of_oldestIssued holdest
    split
    · exact .idle
    · next a ha => rw [dropOldest_of_awaits h]; exact hact a e rest h ha

theorem captureAnswered_moves {cancelled : Bool} {act : Fin 4 → Capture → State → State} {s : State}
    (hact : ∀ e rest i c, s.Awaits e rest → e.source = .captureRead i → s.capture.slots[i] = some c →
      c.phase = .reading cancelled → Moves s (act i c (s.answered rest))) :
    Moves s (captureAnswered cancelled act s) := by
  unfold captureAnswered
  split
  · exact .idle
  · next e holdest =>
    obtain ⟨rest, h⟩ := awaits_of_oldestIssued holdest
    split
    · exact .idle
    · next i hi =>
      have hsource : e.source = .captureRead i := Source.eq_of_asCaptureRead hi
      rw [dropOldest_of_awaits h]
      split
      · next hslot => exact .captureDropped h hsource hslot
      · next c hslot =>
        split
        · next hphase => exact hact e rest i c h hsource hslot hphase
        · exact .idle

theorem whenGranted_moves {g : Grant} {f : State → State} {s : State} (hf : s.arbiter = some g → Moves s (f s)) :
    Moves s (whenGranted g f s) := by
  unfold whenGranted
  split
  · next hgrant => exact hf hgrant
  · exact .idle

/-- The answer table lets a request join the journal only when it is a JOURNAL write in ACTIVE with an OPEN epoch and no
rollback (R125). -/
theorem State.judge_eq_journal {s : State} {kind : RequestKind} {cls : AccessClass} (h : s.judge kind cls = .journal) :
    s.modes.mode = .active ∧ s.replay.rollback = none ∧ ∃ e, s.epochs.table.opened = some e := by
  cases hmode : s.modes.mode <;> cases kind <;> cases cls <;> simp [State.judge, hmode] at h
  case active.read.journal => split at h <;> cases h
  case active.write.journal =>
    by_cases hroll : s.rollingBack = true
    · simp [hroll] at h
    · simp only [hroll, Bool.false_eq_true, if_false, ite_eq_left_iff, reduceCtorEq, imp_false, not_not] at h
      simp only [State.rollingBack, Bool.not_eq_true, Option.isSome_eq_false_iff, Option.isNone_iff_eq_none] at hroll
      exact ⟨rfl, hroll, Option.isSome_iff_exists.mp h⟩

theorem State.judgeArrival_eq_journal {s : State} {r : HostRequest} (h : s.judgeArrival r = .journal) :
    s.judge r.kind r.cls = .journal := by
  unfold State.judgeArrival at h
  split_ifs at h
  exact h

theorem arriveRequest_moves {r : HostRequest} {forward : Judgement → State → State} {s : State}
    (hforward : Moves s (forward .forward s))
    (hjournal : s.judge r.kind r.cls = .journal → Moves s (forward .journal s)) :
    Moves s (arriveRequest r forward s) := by
  unfold arriveRequest
  split
  · exact .idle
  · split
    · exact .refused _
    · exact .refused _
    · exact hforward
    · next hj => exact hjournal (State.judgeArrival_eq_journal hj)

theorem takeWaiting_moves (s : State) : Moves s (takeWaiting s) := by
  unfold takeWaiting
  split
  · exact .idle
  · next r hcurrent =>
    split
    · next hwaits =>
      split
      · exact .waitingTaken r false (by simp) hwaits.2
      · next hj => exact .waitingTaken r true (fun _ => hj) hwaits.2
      · exact .idle
      · exact .idle
    · exact .idle

theorem expireOldest_moves (s : State) : Moves s (expireOldest s) := by
  unfold expireOldest
  split
  · next e holdest =>
    obtain ⟨rest, h⟩ := awaits_of_oldestIssued holdest
    split
    · exact .timedOut h _
    · exact .idle
  · exact .idle

theorem expireAge_moves (s : State) : Moves s (expireAge s) := by
  unfold expireAge
  split_ifs with hfreeze
  · exact .idle
  · split
    · split
      · split
        · exact .idle
        · exact .ageExpired _
      · exact .idle
    · exact .idle

theorem secondAnchorLine_moves (a : LineAnswer) (s : State) :
    Moves s (onAnswer Source.asSecondAnchorLine (fun _ _ s => updateSpace (anchorLineAnswered true a s)) s) := by
  refine onAnswer_moves fun _ e rest h hsource => ?_
  obtain ⟨copy, hcopy⟩ := Source.eq_of_asSecondAnchorLine hsource
  exact .secondAnchorLine h hcopy a

theorem readRange_moves (item : BitVec 16) (count : Byte) (s : State) : Moves s (readRange item count s) := by
  dsimp only [readRange]
  split
  · split
    · unfold clearCovered
      split
      · exact .managed _ le_rfl
      · exact respond_moves _ _ s
    · exact respond_moves _ _ s
  · exact respond_moves _ _ s

theorem writeItem_eq (address : Nat) (value : Word) (s : State) :
    ∃ m : ManagementPort, m.log = s.management.log ∧ writeItem address value s = s.setManagement m := by
  unfold writeItem
  split
  · exact ⟨s.management.setFlags _, rfl, rfl⟩
  · exact ⟨s.management.setEnables _, rfl, rfl⟩
  · exact ⟨{ s.management with clearOnRead := value.getLsbD 0 }, rfl, rfl⟩
  · split
    · exact ⟨{ s.management with pending := s.management.pending.writeItem (address - 0x0100) value }, rfl, rfl⟩
    · exact ⟨s.management, rfl, rfl⟩

theorem writeItems_eq (words : List Word) (address : Nat) (s : State) :
    ∃ m : ManagementPort, m.log = s.management.log ∧ writeItems address words s = s.setManagement m := by
  induction words generalizing address s with
  | nil => exact ⟨s.management, rfl, rfl⟩
  | cons w rest ih =>
    obtain ⟨m, hm, heq⟩ := writeItem_eq address w s
    obtain ⟨m', hm', heq'⟩ := ih (address + 1) (writeItem address w s)
    exact ⟨m', by rw [hm', heq]; exact hm, by rw [writeItems, heq', heq]; rfl⟩

theorem writeRange_moves (item : BitVec 16) (words : List Word) (s : State) : Moves s (writeRange item words s) := by
  dsimp only [writeRange]
  split
  · obtain ⟨m, hm, heq⟩ := writeItems_eq words item.toNat s
    rw [heq]
    exact .managed _ (by simp [hm])
  · exact respond_moves _ _ s

theorem popError_moves (s : State) : Moves s (popError s) := by
  unfold popError
  split
  · exact respond_moves _ _ s
  · next e rest hlog => exact .managed _ (by simp [hlog])

theorem probeTags_moves (words : List Word) (s : State) : Moves s (probeTags words s) := by
  unfold probeTags
  split <;> exact respond_moves _ _ s

theorem commitCommand_moves (s : State) : Moves s (commitCommand s) := by
  unfold commitCommand
  split
  case h_5 e hj => exact .emptyCommitted e hj
  case h_6 e hj => exact .commitStarted e hj
  all_goals exact respond_moves _ _ s

theorem quiesceCommand_moves (s : State) : Moves s (quiesceCommand s) := by
  unfold quiesceCommand
  split
  case h_5 e hj => exact .emptyQuiesced e hj
  case h_6 e hj => exact .quiesceStarted e hj
  all_goals exact respond_moves _ _ s

theorem abortCommand_moves (s : State) : Moves s (abortCommand s) := by
  unfold abortCommand
  split_ifs with hmode hroll hcommitting
  · exact respond_moves _ _ s
  · exact respond_moves _ _ s
  · exact respond_moves _ _ s
  · exact .aborted (not_not.mp hmode) (Bool.not_eq_true _ ▸ hroll) (Bool.not_eq_true _ ▸ hcommitting)

theorem resumeCommand_moves (s : State) : Moves s (resumeCommand s) := by
  unfold resumeCommand
  split_ifs with hmode hstore hconfig
  · exact respond_moves _ _ s
  · exact respond_moves _ _ s
  · exact respond_moves _ _ s
  · exact .resumed (by tauto) (Bool.not_eq_true _ ▸ hstore)

theorem bypassCommand_moves (s : State) : Moves s (bypassCommand s) := by
  unfold bypassCommand
  split_ifs with hmode hstore
  · exact respond_moves _ _ s
  · exact respond_moves _ _ s
  · exact .bypassed (not_not.mp hmode)

theorem storeCommand_moves (s : State) : Moves s (storeCommand s) := by
  unfold storeCommand
  split_ifs with hmode hwrite hvalid
  · exact respond_moves _ _ s
  · exact respond_moves _ _ s
  · exact respond_moves _ _ s
  · exact .storeStarted (by tauto) (Bool.not_eq_false _ ▸ hvalid)

theorem ite_moves {b : Prop} [Decidable b] {f : State → State} {s : State} (hf : b → Moves s (f s)) :
    Moves s (if b then f s else s) := by
  split
  · next h => exact hf h
  · exact .idle

theorem execDeferredFetchGrant_moves {s t : State} (hnext : execDeferredFetchGrant s = .next t) : Moves s t := by
  unfold execDeferredFetchGrant at hnext
  refine whileRunning_moves hnext ?_
  split
  · next i hgrant => exact .fetchGranted i hgrant
  · exact .idle

theorem execUnexpectedMemoryAnswer_moves {kind : AnswerKind} {s t : State}
    (hnext : execUnexpectedMemoryAnswer kind s = .next t) : Moves s t := by
  unfold execUnexpectedMemoryAnswer at hnext
  refine whileRunning_moves hnext ?_
  split
  · next e holdest =>
    obtain ⟨rest, h⟩ := awaits_of_oldestIssued holdest
    split
    · exact .idle
    · exact .unfit h
  · exact .idle

theorem exec_moves {c : Instr} {s t : State} (hc : ∀ straps csLow, c ≠ .resetRelease straps csLow)
    (hnext : exec c s = .next t) : Moves s t := by
  cases c with
  | hostReadRequest requester address length =>
    exact whileRunning_moves hnext (arriveRequest_moves (.readForwarded _) fun _ => .readForwarded _)
  | hostWriteRequest requester address data =>
    exact whileRunning_moves hnext
      (arriveRequest_moves (.writeOffered _ false (by simp)) fun hj => .writeOffered _ true fun _ => hj)
  | waitingWriteTaken => exact whileRunning_moves hnext (takeWaiting_moves s)
  | lineWaitCleared line => exact whileRunning_moves hnext (.lineCleared line)
  | hostWaitLimitExpiry => exact whileRunning_moves hnext .waitExpired
  | deferredDiscardLimitExpiry slot => exact whileRunning_moves hnext (.deferredExpired slot)
  | captureStart => exact whileRunning_moves hnext .captureOffered
  | holdRelease => exact whileRunning_moves hnext (whenGranted_moves .headReleased)
  | hostReadGrant => exact whileRunning_moves hnext (whenGranted_moves .hostReadGranted)
  | deferredFetchGrant => exact execDeferredFetchGrant_moves hnext
  | captureReadGrant => exact whileRunning_moves hnext (whenGranted_moves .captureGranted)
  | recordWriteGrant => exact whileRunning_moves hnext (whenGranted_moves .recordGranted)
  | anchorLineGrant => exact whileRunning_moves hnext (whenGranted_moves .anchorGranted)
  | replayRequestGrant => exact whileRunning_moves hnext (whenGranted_moves .replayGranted)
  | memoryIssue => exact whileRunning_moves hnext .issued
  | unexpectedMemoryAnswer kind => exact execUnexpectedMemoryAnswer_moves hnext
  | hostReadAnswer answer =>
    refine whileRunning_moves hnext (onAnswer_moves fun _ e rest h hsource => ?_)
    obtain ⟨requester, hsource⟩ := Source.eq_of_asHostRead hsource
    exact .hostReadAnswer h hsource answer
  | deferredFetchAnswer answer =>
    refine whileRunning_moves hnext (onAnswer_moves fun x e rest h hsource => ?_)
    obtain ⟨i, abandoned⟩ := x
    cases abandoned with
    | true => exact .fetchDropped h (Source.eq_of_asDeferredFetch hsource)
    | false => exact .fetchAnswer h (Source.eq_of_asDeferredFetch hsource) answer
  | dataWriteAnswer answer =>
    exact whileRunning_moves hnext
      (onAnswer_moves fun _ e rest h hsource => .dataWriteAnswer h (Source.eq_of_asDataWrite hsource) answer)
  | passWriteAnswer answer =>
    exact whileRunning_moves hnext
      (onAnswer_moves fun _ e rest h hsource => .passWriteAnswer h (Source.eq_of_asPassWrite hsource) answer)
  | captureReadDone data =>
    exact whileRunning_moves hnext
      (captureAnswered_moves fun e rest i c h hsource hslot hphase => .captureDone h hsource hslot hphase data)
  | captureReadFault =>
    exact whileRunning_moves hnext
      (captureAnswered_moves fun e rest i c h hsource hslot hphase => .captureFault h hsource hslot hphase)
  | cancelledReadAnswer answer =>
    refine whileRunning_moves hnext (captureAnswered_moves fun e rest i c h hsource hslot hphase => ?_)
    cases answer with
    | done data => exact .captureCancelled h hsource hslot hphase
    | fault => exact .captureFault h hsource hslot hphase
  | recordHeadAck =>
    exact whileRunning_moves hnext
      (onAnswer_moves fun _ e rest h hsource => .recordHeadDone h (Source.eq_of_asRecordHead hsource))
  | recordWriteFault =>
    refine whileRunning_moves hnext (onAnswer_moves fun _ e rest h hsource => ?_)
    obtain ⟨isHead, hsource⟩ := Source.eq_of_asRecordWrite hsource
    exact .recordFault h hsource
  | autoCommitAgeExpiry => exact whileRunning_moves hnext (expireAge_moves s)
  | anchorUpdateAnswer answer => exact whileRunning_moves hnext (ite_moves fun _ => secondAnchorLine_moves _ s)
  | storeAnswer answer => exact whileRunning_moves hnext (ite_moves fun _ => secondAnchorLine_moves _ s)
  | anchorReadAnswer answer =>
    refine whileRunning_moves hnext (onAnswer_moves fun _ e rest h hsource => ?_)
    obtain ⟨copy, second, hsource⟩ := Source.eq_of_asAnchorRead hsource
    exact .anchorReadAnswer h hsource answer
  | replayReadAnswer answer =>
    exact whileRunning_moves hnext
      (onAnswer_moves fun _ e rest h hsource => .replayBodyAnswer h (Source.eq_of_asReplayBody hsource) answer)
  | restoreWriteAnswer answer =>
    exact whileRunning_moves hnext
      (onAnswer_moves fun _ e rest h hsource => .restoreAnswer h (Source.eq_of_asRestore hsource) answer)
  | memoryTimeout => exact whileRunning_moves hnext (expireOldest_moves s)
  | read item count => exact onFrame_moves hnext (readRange_moves item count s)
  | counterSnapshot item count => exact onFrame_moves hnext (readRange_moves item count s)
  | write item words => exact onFrame_moves hnext (writeRange_moves item words s)
  | eventFlagsWrite value => exact onFrame_moves hnext (writeRange_moves _ _ s)
  | eventEnablesWrite value => exact onFrame_moves hnext (writeRange_moves _ _ s)
  | pendingConfigWrite item words => exact onFrame_moves hnext (writeRange_moves item words s)
  | commit item count => exact withoutWords_moves count hnext (commitCommand_moves s)
  | abort item count => exact withoutWords_moves count hnext (abortCommand_moves s)
  | quiesce item count => exact withoutWords_moves count hnext (quiesceCommand_moves s)
  | resume item count => exact withoutWords_moves count hnext (resumeCommand_moves s)
  | bypass item count => exact withoutWords_moves count hnext (bypassCommand_moves s)
  | store item count => exact withoutWords_moves count hnext (storeCommand_moves s)
  | errorPop item count => exact withoutWords_moves count hnext (popError_moves s)
  | tagProbe item words => exact onFrame_moves hnext (probeTags_moves words s)
  | badFrame => exact onFrame_moves hnext (respond_moves _ _ s)
  | frameDiscarded =>
    simp only [exec, execFrameDiscarded] at hnext
    exact onFrame_moves hnext (.managed _ le_rfl)
  | pfiAssert =>
    cases hnext
    split
    · exact .pinned _
    · exact .frozen _
  | pfiDeassert =>
    cases hnext
    split
    · exact .pinned _
    · split
      · exact .thawed _
      · exact .pinned _
  | resetAssert =>
    cases hnext
    exact .resetAsserted _ _ rfl
  | resetRelease straps csLow => exact absurd rfl (hc straps csLow)
  | recordBodyAck =>
    exact whileRunning_moves hnext
      (onAnswer_moves fun _ e rest h hsource => .recordBodyDone h (Source.eq_of_asRecordBody hsource))
  | anchorLineAnswer answer =>
    refine whileRunning_moves hnext (onAnswer_moves fun _ e rest h hsource => ?_)
    obtain ⟨copy, hsource⟩ := Source.eq_of_asFirstAnchorLine hsource
    exact .firstAnchorLine h hsource _
  | replayHeadReadAnswer answer =>
    exact whileRunning_moves hnext
      (onAnswer_moves fun _ e rest h hsource => .replayHeadAnswer h (Source.eq_of_asReplayHead hsource) answer)

/-! ### Steps -/

/-- A step makes a move of the state with the queue's rest, or it is a RESET_RELEASE (R158). -/
theorem step_moves {s t : State} (hnext : step s = .next t) :
    (∃ rest, Moves { s with pending := rest } t) ∨
      ∃ straps csLow rest, s.pending = .resetRelease straps csLow :: rest ∧
        t = State.afterReset s.pins.pfi straps csLow rest := by
  unfold step at hnext
  split at hnext
  · cases hnext
    refine .inl ⟨s.pending, ?_⟩
    unfold tick
    split
    · exact .idle
    · exact .ticked
  · next c rest hqueue =>
    by_cases hc : ∃ straps csLow, c = .resetRelease straps csLow
    · obtain ⟨straps, csLow, rfl⟩ := hc
      cases hnext
      exact .inr ⟨straps, csLow, rest, hqueue, rfl⟩
    · exact .inl ⟨rest, exec_moves (fun straps csLow h => hc ⟨straps, csLow, h⟩) hnext⟩

/-- A condition that does not speak of the queue of commands, that holds after reset and that every move keeps, is kept
by every step. -/
theorem step_keeps {P : State → Prop} (hqueue : ∀ s rest, P s → P { s with pending := rest })
    (hreset : ∀ pfi straps csLow rest, P (State.afterReset pfi straps csLow rest))
    (hmoves : ∀ s t, Moves s t → P s → P t) {s t : State} (h : P s) (hnext : step s = .next t) : P t := by
  obtain ⟨rest, hmove⟩ | ⟨straps, csLow, rest, -, rfl⟩ := step_moves hnext
  · exact hmoves _ _ hmove (hqueue s rest h)
  · exact hreset _ _ _ _

end Sys2Proof.Machine

/-! The sizes of the queues and tables (R38, R54, R107, R108, R167): what no shared operation lets grow, and the settlement
of O56. -/

namespace Sys2Proof.Machine

-- One theorem at a time: the proofs below would otherwise wait for one another in many threads.
set_option Elab.async false

/-! ### Operations that let nothing grow -/

/-- Which entries of the memory queue are ISSUED, oldest first. -/
def State.issueMarks (s : State) : List Bool := s.memory.queue.map fun e => e.issued.isSome

/-- From `s` to `t` no queue or table has grown past its size, and the memory queue has the same entries ISSUED. -/
structure State.Within (s t : State) : Prop where
  hold : t.hold.entries.length ≤ s.hold.entries.length
  tags : t.capture.tags.length ≤ s.capture.tags.length
  marks : t.issueMarks = s.issueMarks
  log : s.management.log.length ≤ 8 → t.management.log.length ≤ 8

theorem State.Within.refl (s : State) : s.Within s := ⟨le_rfl, le_rfl, rfl, id⟩

theorem State.Within.trans {s t u : State} (h : s.Within t) (h' : t.Within u) : s.Within u :=
  ⟨h'.hold.trans h.hold, h'.tags.trans h.tags, h'.marks.trans h.marks, fun hs => h'.log (h.log hs)⟩

/-- A change that leaves the hold queue, the tag table, the memory queue and the error log alone. -/
theorem State.Within.of_eq {s t : State} (hhold : t.hold = s.hold) (hcapture : t.capture.tags = s.capture.tags)
    (hmemory : t.memory.queue = s.memory.queue) (hlog : t.management.log = s.management.log) : s.Within t :=
  ⟨by rw [hhold], by rw [hcapture], by rw [State.issueMarks, hmemory, State.issueMarks], by rw [hlog]; exact id⟩

theorem issueMarks_map {s : State} {f : MemoryEntry → MemoryEntry} (hf : ∀ e, (f e).issued = e.issued) (t : Turn) :
    (s.setMemory { queue := s.memory.queue.map f, turn := t }).issueMarks = s.issueMarks := by
  simp [State.issueMarks, hf]

@[simp] theorem raise_log (v : Event) (s : State) : (raise v s).management.log = s.management.log := rfl

@[simp] theorem bump_log (c : Counter) (s : State) : (bump c s).management.log = s.management.log := rfl

@[simp] theorem respond_log (status : Status) (words : List Word) (s : State) :
    (respond status words s).management.log = s.management.log := rfl

theorem raise_within (v : Event) (s : State) : s.Within (raise v s) := .of_eq rfl rfl rfl rfl

theorem bump_within (c : Counter) (s : State) : s.Within (bump c s) := .of_eq rfl rfl rfl rfl

theorem respond_within (status : Status) (words : List Word) (s : State) : s.Within (respond status words s) :=
  .of_eq rfl rfl rfl rfl

theorem appendError_length_le {m : ManagementPort} (h : m.log.length ≤ 8) (e : ErrorEntry) :
    (m.appendError e).log.length ≤ 8 := by
  by_cases hroom : m.log.length < 8
  · rw [ManagementPort.appendError_of_room hroom]
    simpa using hroom
  · rw [ManagementPort.appendError_of_full (Nat.not_lt.mp hroom)]
    exact h

theorem logError_within (kind : ErrorKind) (epoch line : Option Word) (slot : Option Nat) (s : State) :
    s.Within (logError kind epoch line slot s) :=
  ⟨le_rfl, le_rfl, rfl, fun h => appendError_length_le h _⟩

theorem elapse_within (d : Nat) (s : State) : s.Within (elapse d s) :=
  .of_eq (by simp) (by simp) (by simp) (by simp)

theorem elapseTo_within (moment : Nat) (s : State) : s.Within (elapseTo moment s) := elapse_within _ s

/-! ### The host port -/

theorem answerHost_within (a : HostAnswer) (s : State) : s.Within (answerHost a s) := by
  cases a <;> exact .of_eq rfl rfl rfl rfl

theorem answerRead_within (data : List Byte) (s : State) : s.Within (answerRead data s) :=
  (answerHost_within _ s).trans (bump_within _ _)

theorem ownCurrentRead_within (owner : ReadOwner) (s : State) : s.Within (ownCurrentRead owner s) :=
  ⟨le_rfl, le_rfl, issueMarks_map (fun e => by split <;> rfl) _, id⟩

theorem abandonFetch_within (i : Fin 4) (s : State) : s.Within (abandonFetch i s) :=
  ⟨le_rfl, le_rfl, issueMarks_map (fun e => by (repeat' split) <;> rfl) _, id⟩

theorem setHost_within (h : HostPort) (s : State) : s.Within (s.setHost h) := .of_eq rfl rfl rfl rfl

theorem answerWaiting_within (a : HostAnswer) (s : State) : s.Within (answerWaiting a s) :=
  (ownCurrentRead_within _ s).trans (answerHost_within a _)

theorem discardSlot_within (i : Fin 4) (s : State) : s.Within (discardSlot i s) := by
  unfold discardSlot
  split
  · exact .refl s
  · exact ((setHost_within _ s).trans (abandonFetch_within i _)).trans (bump_within _ _)

theorem discardIf_within (p : Deferred → Bool) (i : Fin 4) (s : State) : s.Within (discardIf p i s) := by
  unfold discardIf
  split
  · exact .refl s
  · split
    · exact discardSlot_within i s
    · exact .refl s

theorem discardDeferred_within (p : Deferred → Bool) (s : State) : s.Within (discardDeferred p s) :=
  (((discardIf_within p 0 s).trans (discardIf_within p 1 _)).trans (discardIf_within p 2 _)).trans
    (discardIf_within p 3 _)

theorem serveDeferred_within (i : Fin 4) (data : List Byte) (s : State) : s.Within (serveDeferred i data s) :=
  ((setHost_within _ s).trans (answerRead_within data _)).trans (bump_within _ _)

theorem fetchDone_within (i : Fin 4) (data : List Byte) (s : State) : s.Within (fetchDone i data s) := by
  unfold fetchDone
  split
  · exact .refl s
  · dsimp only
    split
    · exact serveDeferred_within i _ s
    · exact setHost_within _ s

theorem fetchFaulted_within (i : Fin 4) (s : State) : s.Within (fetchFaulted i s) := by
  unfold fetchFaulted
  split
  · exact (discardSlot_within i s).trans (answerHost_within _ _)
  · exact discardSlot_within i s

theorem fetchAnswered_within (i : Fin 4) (a : ReadAnswer) (s : State) : s.Within (fetchAnswered i a s) := by
  cases a with
  | done data => exact fetchDone_within i data s
  | fault => exact fetchFaulted_within i s

theorem currentReadAnswered_within (a : ReadAnswer) (s : State) : s.Within (currentReadAnswered a s) := by
  unfold currentReadAnswered
  split
  · exact .refl s
  · cases a with
    | done data => exact answerRead_within _ s
    | fault => exact answerHost_within _ s

theorem hostReadAnswered_within (owner : ReadOwner) (a : ReadAnswer) (s : State) :
    s.Within (hostReadAnswered owner a s) := by
  cases owner with
  | current => exact currentReadAnswered_within a s
  | slot i => exact fetchAnswered_within i a s
  | abandoned => exact .refl s

theorem keepRead_within (r : HostRequest) (stage : FetchStage) (s : State) : s.Within (keepRead r stage s) := by
  unfold keepRead
  split
  · exact ownCurrentRead_within _ s
  · exact (setHost_within _ s).trans (ownCurrentRead_within _ _)

theorem expireRequest_within (r : HostRequest) (s : State) : s.Within (expireRequest r s) := by
  unfold expireRequest
  split
  · exact answerHost_within _ s
  · exact ((discardDeferred_within _ s).trans (keepRead_within r _ _)).trans (answerHost_within _ _)

theorem beginWait_within (r : HostRequest) (s : State) : s.Within (beginWait r s) := by
  unfold beginWait
  dsimp only
  split
  · exact (setHost_within _ s).trans (expireRequest_within r _)
  · exact setHost_within _ s

theorem startRead_within (r : HostRequest) (s : State) : s.Within (startRead r s) := by
  unfold startRead
  split
  · split
    · split
      · exact serveDeferred_within _ _ s
      · exact beginWait_within _ s
    · exact .refl s
  · exact beginWait_within _ s

theorem rejudge_within (s : State) : s.Within (rejudge s) := by
  unfold rejudge
  split
  · exact .refl s
  · split
    · exact answerWaiting_within _ s
    · split
      · exact answerWaiting_within _ s
      · exact answerWaiting_within _ s
      · exact .refl s
      · exact .refl s

theorem reclassify_within (s : State) : s.Within (reclassify s) := by
  unfold reclassify
  split
  · exact .refl s
  · split
    · exact answerWaiting_within _ s
    · exact (setHost_within _ s).trans (rejudge_within _)

theorem clearLine_within (line : Word) (s : State) : s.Within (clearLine line s) := by
  unfold clearLine
  split
  · exact .refl s
  · exact setHost_within _ s

theorem expireWait_within (s : State) : s.Within (expireWait s) := by
  unfold expireWait
  split
  · exact .refl s
  · exact (elapseTo_within _ s).trans (expireRequest_within _ _)

theorem expireDeferred_within (i : Fin 4) (s : State) : s.Within (expireDeferred i s) := by
  unfold expireDeferred
  split
  · exact .refl s
  · split
    · dsimp only
      split
      · split
        · exact discardSlot_within i s
        · exact .refl s
      · exact (elapse_within _ s).trans (discardSlot_within i _)
    · exact .refl s

/-! ### The shared sequences -/

theorem setEpochs_within (x : EpochController) (s : State) : s.Within (s.setEpochs x) := .of_eq rfl rfl rfl rfl

theorem setTable_within (x : EpochTable) (s : State) : s.Within (s.setTable x) := .of_eq rfl rfl rfl rfl

theorem setRing_within (x : RingManager) (s : State) : s.Within (s.setRing x) := .of_eq rfl rfl rfl rfl

theorem setReplay_within (x : ReplayEngine) (s : State) : s.Within (s.setReplay x) := .of_eq rfl rfl rfl rfl

theorem setPins_within (x : Pins) (s : State) : s.Within (s.setPins x) := .of_eq rfl rfl rfl rfl

theorem setModes_within (x : ModeController) (s : State) : s.Within (s.setModes x) := .of_eq rfl rfl rfl rfl

theorem setAnchor_within (x : AnchorUnit) (s : State) : s.Within (s.setAnchor x) := .of_eq rfl rfl rfl rfl

theorem setHold_within {x : HoldQueue} {s : State} (h : x.entries.length ≤ s.hold.entries.length) :
    s.Within (s.setHold x) := ⟨h, le_rfl, rfl, id⟩

theorem setCapture_within {x : CaptureUnit} {s : State} (h : x.tags.length ≤ s.capture.tags.length) :
    s.Within (s.setCapture x) := ⟨le_rfl, h, rfl, id⟩

theorem setMode_within (m : Mode) (s : State) : s.Within (setMode m s) :=
  (setModes_within _ s).trans (rejudge_within _)

theorem haltBlocks_within (s : State) : s.Within (haltBlocks s) :=
  ⟨List.length_filter_le _ _, Nat.zero_le _, rfl, id⟩

theorem halt_within (cause : Cause) (s : State) : s.Within (halt cause s) := by
  unfold halt
  split
  · exact .refl s
  · exact (((setModes_within _ s).trans (haltBlocks_within _)).trans (rejudge_within _)).trans (raise_within _ _)

theorem requestMarker_within {kind : RecordKind} {n : Word} {next : Nat → Word → State → State} {s : State}
    (hnext : ∀ slot sequence (t : State), t.Within (next slot sequence t)) : s.Within (requestMarker kind n next s) := by
  unfold requestMarker
  split
  · exact (setRing_within _ s).trans (hnext _ _ _)
  · exact (logError_within _ _ _ _ s).trans (halt_within _ _)

theorem queueCommitRecord_within (q : CommitSequence) (s : State) : s.Within (queueCommitRecord q s) :=
  requestMarker_within fun _ _ t => setEpochs_within _ t

theorem queueClose_within (highest : Word) (s : State) : s.Within (queueClose highest s) :=
  requestMarker_within fun _ _ t => setReplay_within _ t

theorem startWalk_within (highest : Word) (s : State) : s.Within (startWalk highest s) := by
  unfold startWalk
  split
  · exact queueClose_within highest s
  · exact setReplay_within _ s

theorem settle_within (captures epochs : Bool) (highest : Word) (s : State) :
    s.Within (settle captures epochs highest s) := by
  unfold settle
  split
  · exact startWalk_within highest s
  · exact setReplay_within _ s

theorem noteCapturesSettled_within (s : State) : s.Within (noteCapturesSettled s) := by
  unfold noteCapturesSettled
  split
  · split
    · split
      · exact settle_within _ _ _ s
      · exact .refl s
    · exact .refl s
  · exact .refl s

theorem noteEpochsDrained_within (s : State) : s.Within (noteEpochsDrained s) := by
  unfold noteEpochsDrained
  split
  · split
    · split
      · exact settle_within _ _ _ s
      · exact .refl s
    · exact .refl s
  · exact .refl s

theorem drainNotice_within (s : State) : s.Within (drainNotice s) := by
  unfold drainNotice
  split
  · exact queueCommitRecord_within _ s
  · exact noteEpochsDrained_within s

theorem openEpoch_within (n : Word) (s : State) : s.Within (openEpoch n s) := setTable_within _ s

theorem failCommit_within (n : Word) (s : State) : s.Within (failCommit n s) := by
  have hfailed (x : EpochController) : s.Within (raise .commitFailed (s.setEpochs x)) :=
    (setEpochs_within x s).trans (raise_within _ _)
  unfold failCommit
  split
  · exact ((hfailed _).trans (openEpoch_within _ _)).trans (setMode_within _ _)
  · exact hfailed _

theorem markDamaged_within (e : LiveEpoch) (s : State) : s.Within (markDamaged e s) := by
  have hmarked (x : EpochTable) : s.Within (raise .epochDamaged (s.setTable x)) :=
    (setTable_within x s).trans (raise_within _ _)
  unfold markDamaged
  split
  · exact (hmarked _).trans (failCommit_within _ _)
  · exact hmarked _

theorem reportDamage_within (kind : ErrorKind) (epoch line : Word) (s : State) :
    s.Within (reportDamage kind epoch line s) := by
  dsimp only [reportDamage]
  split
  · split
    · exact logError_within _ _ _ _ s
    · exact (logError_within _ _ _ _ s).trans (markDamaged_within _ _)
  · exact logError_within _ _ _ _ s

theorem closeEmpty_within (n : Word) (s : State) : s.Within (closeEmpty n s) :=
  ((setEpochs_within _ s).trans (raise_within _ _)).trans (bump_within _ _)

theorem startCommit_within (purpose : CommitPurpose) (n : Word) (s : State) : s.Within (startCommit purpose n s) :=
  (setEpochs_within _ s).trans (setCapture_within (List.length_filter_le _ _))

theorem commitEmpty_within (n : Word) (s : State) : s.Within (commitEmpty n s) :=
  (closeEmpty_within n s).trans (openEpoch_within _ _)

theorem commitOpen_within (n : Word) (s : State) : s.Within (commitOpen n s) :=
  ((startCommit_within _ n s).trans (openEpoch_within _ _)).trans (drainNotice_within _)

theorem fireTrigger_within (full : Bool) (s : State) : s.Within (fireTrigger full s) := by
  unfold fireTrigger
  split
  · split
    · exact commitEmpty_within _ s
    · exact commitOpen_within _ s
    · exact setEpochs_within _ s
    · exact setEpochs_within _ s
    · exact .refl s
    · exact .refl s
  · exact .refl s

theorem reexamine_within (s : State) : s.Within (reexamine s) := by
  dsimp only [reexamine]
  split
  · exact (setEpochs_within _ s).trans (fireTrigger_within _ _)
  · exact setEpochs_within _ s

theorem updateLow_within (s : State) : s.Within (updateLow s) := by
  dsimp only [updateLow]
  split
  · exact (setRing_within _ s).trans (raise_within _ _)
  · exact setRing_within _ s

theorem updateBlocked_within (s : State) : s.Within (updateBlocked s) := by
  dsimp only [updateBlocked]
  split
  · split
    · exact setRing_within _ s
    · split
      · exact ((setRing_within _ s).trans (raise_within _ _)).trans (fireTrigger_within _ _)
      · exact (setRing_within _ s).trans (raise_within _ _)
  · exact (setRing_within _ s).trans (setEpochs_within _ _)

theorem updateSpace_within (s : State) : s.Within (updateSpace s) :=
  ((updateLow_within s).trans (updateBlocked_within _)).trans (updateLow_within _)

/-! ### Anchor writes, LOADING and the replay engine -/

theorem buildUpdate_within (s : State) : s.Within (buildUpdate s) :=
  .of_eq (by simp) (by simp) (by simp) (by simp)

theorem requestUpdate_within (s : State) : s.Within (requestUpdate s) :=
  .of_eq (by simp) (by simp) (by simp) (by simp)

theorem buildPending_within (s : State) : s.Within (buildPending s) :=
  .of_eq (by simp) (by simp) (by simp) (by simp)

theorem completeRecovery_within (s : State) : s.Within (completeRecovery s) := by
  have hdone (x : EpochController) (y : ReplayEngine) :
      s.Within (raise .recoveryDone ((s.setEpochs x).setReplay y)) :=
    ((setEpochs_within x s).trans (setReplay_within y _)).trans (raise_within _ _)
  unfold completeRecovery
  split
  · exact .refl s
  · dsimp only
    split
    · exact ((hdone _ _).trans (openEpoch_within _ _)).trans (setMode_within _ _)
    · exact (hdone _ _).trans (setMode_within _ _)

theorem completeQuiesce_within (s : State) : s.Within (completeQuiesce s) := by
  unfold completeQuiesce
  split
  · split
    · exact ((setEpochs_within _ s).trans (setMode_within _ _)).trans (raise_within _ _)
    · exact .refl s
  · exact .refl s

theorem anchorRecovery_within (q : Recovery) (closed : Word) (s : State) : s.Within (anchorRecovery q closed s) :=
  (setReplay_within _ s).trans (requestUpdate_within _)

theorem logAnchorFault_within (target : Copy) (first second : LineAnswer) (s : State) :
    s.Within (logAnchorFault target first second s) := by
  unfold logAnchorFault
  split
  · exact logError_within _ _ _ _ s
  · split
    · exact logError_within _ _ _ _ s
    · exact .refl s

theorem judgeUpdate_within (w : AnchorWrite) (tail : Nat) (sequence : Word) (endsRecovery : Bool)
    (first second : LineAnswer) (s : State) :
    s.Within (judgeUpdate w tail sequence endsRecovery first second s) := by
  unfold judgeUpdate
  split
  · exact .of_eq rfl rfl rfl rfl
  · exact ((setAnchor_within _ s).trans (logAnchorFault_within _ _ _ _)).trans (raise_within _ _)

theorem installStore_within (w : AnchorWrite) (c : Configuration) (s : State) : s.Within (installStore w c s) := by
  have hring : s.Within
      (raise .storeDone ((makeCurrent w (s.setAnchor { s.anchor with stale := false, working := c })).setRing
        (s.ring.resetTo w.generation))) := .of_eq rfl rfl rfl rfl
  exact ((hring.trans (setHold_within (List.length_filter_le _ _))).trans (discardDeferred_within _ _)).trans
    (reclassify_within _)

theorem judgeStore_within (w : AnchorWrite) (c : Configuration) (first second : LineAnswer) (s : State) :
    s.Within (judgeStore w c first second s) := by
  unfold judgeStore
  split
  · split
    · exact setAnchor_within _ s
    · exact installStore_within w c s
  · dsimp only
    split
    · exact logAnchorFault_within _ _ _ s
    · exact (logAnchorFault_within _ _ _ s).trans (raise_within _ _)

theorem judgeAnchorWrite_within (w : AnchorWrite) (first second : LineAnswer) (s : State) :
    s.Within (judgeAnchorWrite w first second s) := by
  have hfree := setAnchor_within { s.anchor with write := none } s
  dsimp only [judgeAnchorWrite]
  split
  · next tail sequence endsRecovery _ =>
    have hupdated := ((hfree.trans (judgeUpdate_within w tail sequence endsRecovery first second _)).trans
      (buildPending_within _)).trans (completeRecovery_within _)
    split
    · exact hupdated
    · exact hupdated.trans (completeQuiesce_within _)
  · exact (hfree.trans (judgeStore_within w _ first second _)).trans (buildPending_within _)

theorem anchorLineAnswered_within (second : Bool) (a : LineAnswer) (s : State) :
    s.Within (anchorLineAnswered second a s) := by
  unfold anchorLineAnswered
  split
  · exact .refl s
  · split
    · split
      · exact judgeAnchorWrite_within _ _ a s
      · exact .refl s
    · exact setAnchor_within _ s

theorem loadCopy_within (c : Copy) (f : AnchorFields) (s : State) : s.Within (loadCopy c f s) := by
  refine State.Within.trans ?_ (setMode_within _ _)
  exact .of_eq rfl rfl rfl rfl

theorem loadNothing_within (s : State) : s.Within (loadNothing s) := by
  refine State.Within.trans (State.Within.trans ?_ (setMode_within _ _)) (raise_within _ _)
  exact .of_eq rfl rfl rfl rfl

theorem judgeCopies_within (s : State) (answers : List (Option (List Byte))) : s.Within (judgeCopies s answers) := by
  unfold judgeCopies
  split
  · split
    · exact loadCopy_within _ _ s
    · exact loadNothing_within s
  · exact .refl s

theorem anchorReadAnswered_within (a : ReadAnswer) (s : State) : s.Within (anchorReadAnswered a s) := by
  unfold anchorReadAnswered
  split
  · exact .refl s
  · dsimp only
    split_ifs
    · exact (setAnchor_within _ s).trans (judgeCopies_within _ _)
    · exact setAnchor_within _ s

theorem failCheck_within (slot : Nat) (s : State) : s.Within (failCheck slot s) :=
  (logError_within _ _ _ _ s).trans (halt_within _ _)

theorem failReplayRead_within (slot : Nat) (s : State) : s.Within (failReplayRead slot s) :=
  (logError_within _ _ _ _ s).trans (halt_within _ _)

theorem finishRestoring_within (q : Recovery) (s : State) : s.Within (finishRestoring q s) := by
  unfold finishRestoring
  split
  · exact anchorRecovery_within q _ s
  · exact requestMarker_within fun _ _ t => setReplay_within _ t

theorem judgeRollbackSlot_within (r : Rollback) (w : Walk) (head body : List Byte) (s : State) :
    s.Within (judgeRollbackSlot r w head body s) := by
  dsimp only [judgeRollbackSlot]
  split
  · exact failCheck_within _ s
  · split
    · exact (setReplay_within _ s).trans (queueClose_within _ _)
    · exact setReplay_within _ s

theorem judgeRecoverySlot_within (q : Recovery) (w : Walk) (head body : List Byte) (s : State) :
    s.Within (judgeRecoverySlot q w head body s) := by
  dsimp only [judgeRecoverySlot]
  split
  · exact failCheck_within _ s
  · split
    · exact (setReplay_within _ s).trans (finishRestoring_within _ _)
    · exact setReplay_within _ s

theorem endScan_within (q : Recovery) (k : Nat) (s : State) : s.Within (endScan q k s) := by
  dsimp only [endScan]
  split
  · exact (setRing_within _ s).trans (anchorRecovery_within _ _ _)
  · exact (setRing_within _ s).trans (setReplay_within _ _)

theorem judgeScanSlot_within (q : Recovery) (k : Nat) (head body : List Byte) (s : State) :
    s.Within (judgeScanSlot q k head body s) := by
  dsimp only [judgeScanSlot]
  split
  · exact (setReplay_within _ s).trans (endScan_within _ _ _)
  · split
    · exact (setReplay_within _ s).trans (endScan_within _ _ _)
    · exact (setReplay_within _ s).trans (setReplay_within _ _)

theorem replayBodyRead_within (body : List Byte) (s : State) : s.Within (replayBodyRead body s) := by
  unfold replayBodyRead
  split
  · split
    · exact judgeRollbackSlot_within _ _ _ _ s
    · exact .refl s
  · split
    · exact judgeScanSlot_within _ _ _ _ s
    · exact judgeRecoverySlot_within _ _ _ _ s
    · exact .refl s
  · exact .refl s

theorem replayHeadAnswered_within (a : ReadAnswer) (slot : Nat) (s : State) :
    s.Within (replayHeadAnswered a slot s) := by
  unfold replayHeadAnswered
  split
  · cases a with
    | done data => exact setReplay_within _ s
    | fault => exact failReplayRead_within slot s
  · exact .refl s

theorem replayBodyAnswered_within (a : ReadAnswer) (slot : Nat) (s : State) :
    s.Within (replayBodyAnswered a slot s) := by
  unfold replayBodyAnswered
  split
  · cases a with
    | done data => exact replayBodyRead_within data s
    | fault => exact failReplayRead_within slot s
  · exact .refl s

theorem restoreDone_within (s : State) : s.Within (restoreDone s) := by
  unfold restoreDone
  split
  · split
    · dsimp only
      split
      · exact (setReplay_within _ s).trans (queueClose_within _ _)
      · exact setReplay_within _ s
    · exact .refl s
  · split
    · dsimp only
      split
      · exact (setReplay_within _ s).trans (finishRestoring_within _ _)
      · exact setReplay_within _ s
    · exact .refl s
  · exact .refl s

theorem restoreAnswered_within (a : WriteAnswer) (slot : Nat) (epoch line : Word) (s : State) :
    s.Within (restoreAnswered a slot epoch line s) := by
  cases a with
  | done => exact restoreDone_within s
  | fault =>
    simp only [restoreAnswered, restoreFaulted]
    split
    · exact (logError_within _ _ _ _ s).trans (halt_within _ _)
    · exact .refl s

/-! ### Captures, records and data writes -/

theorem endCapture_within (i : Fin 4) (c : Capture) (s : State) : s.Within (endCapture i c s) := by
  have htags : (if ((s.epochs.table.opened.map (·.number)) == some c.epoch) = true then
      setTag c.tag .saved s.capture.tags else freeTag c.tag s.capture.tags).length ≤ s.capture.tags.length := by
    split
    · simp [setTag]
    · exact List.length_filter_le _ _
  exact ((setCapture_within htags).trans (setHold_within (by simp [readyServed]))).trans (noteCapturesSettled_within _)

theorem releaseCapture_within (i : Fin 4) (c : Capture) (s : State) : s.Within (releaseCapture i c s) :=
  ((setRing_within _ s).trans (setCapture_within (List.length_filter_le _ _))).trans (updateLow_within _)

theorem faultCapture_within (i : Fin 4) (c : Capture) (s : State) : s.Within (faultCapture i c s) :=
  ((((reportDamage_within _ _ _ s).trans (setHold_within (List.length_filter_le _ _))).trans
    (setTable_within _ _)).trans (releaseCapture_within i c _)).trans (noteCapturesSettled_within _)

theorem assignLine_within (i : Fin 4) (c : Capture) (data : List Byte) (s : State) :
    s.Within (assignLine i c data s) := by
  dsimp only [assignLine]
  split
  · refine State.Within.trans ?_ (fireTrigger_within _ _)
    exact .of_eq rfl rfl rfl rfl
  · exact .of_eq rfl rfl rfl rfl

theorem commitPoint_within (info : RecordInfo) (s : State) : s.Within (commitPoint info s) := by
  have hcommitted (x : EpochController) :
      s.Within (requestUpdate (bump .commits (raise .commitDone (s.setEpochs x)))) :=
    (((setEpochs_within x s).trans (raise_within _ _)).trans (bump_within _ _)).trans (requestUpdate_within _)
  unfold commitPoint
  split
  · split
    · dsimp only
      split_ifs
      · exact (hcommitted _).trans (reexamine_within _)
      · exact hcommitted _
    · exact .refl s
  · exact .refl s

theorem endRollback_within (r : Rollback) (s : State) : s.Within (endRollback r s) :=
  (((((setEpochs_within _ s).trans (setReplay_within _ _)).trans (openEpoch_within _ _)).trans
    (requestUpdate_within _)).trans (raise_within _ _)).trans (bump_within _ _)

theorem closeDurable_within (info : RecordInfo) (s : State) : s.Within (closeDurable info s) := by
  unfold closeDurable
  split
  · split
    · exact endRollback_within _ s
    · exact .refl s
  · split
    · exact anchorRecovery_within _ _ s
    · exact .refl s
  · exact .refl s

theorem recordDurable_within (info : RecordInfo) (s : State) : s.Within (recordDurable info s) := by
  unfold recordDurable
  split
  · exact .refl s
  · refine (bump_within .records s).trans ?_
    dsimp only
    split
    · split
      · exact endCapture_within _ _ _
      · exact .refl _
    · exact commitPoint_within info _
    · exact closeDurable_within info _

theorem recordFaulted_within (info : RecordInfo) (s : State) : s.Within (recordFaulted info s) := by
  unfold recordFaulted
  split
  · exact .refl s
  · split
    · exact (logError_within _ _ _ _ s).trans (halt_within _ _)
    · exact (logError_within _ _ _ _ s).trans (halt_within _ _)

theorem dataWriteAnswered_within (a : WriteAnswer) (n : Word) (e : MemoryEntry) (s : State) :
    s.Within (dataWriteAnswered a n e s) := by
  cases a with
  | done => exact (setTable_within _ s).trans (drainNotice_within _)
  | fault => exact ((setTable_within _ s).trans (reportDamage_within _ _ _ _)).trans (drainNotice_within _)

theorem passWriteAnswered_within (a : WriteAnswer) (e : MemoryEntry) (s : State) :
    s.Within (passWriteAnswered a e s) := by
  cases a with
  | done => exact .refl s
  | fault => exact logError_within _ _ _ _ s

theorem endTimedOut_within (e : MemoryEntry) (s : State) : s.Within (endTimedOut s e) := by
  unfold endTimedOut
  split
  · exact hostReadAnswered_within _ _ s
  · split
    · exact .refl s
    · exact fetchFaulted_within _ s
  · exact anchorLineAnswered_within _ _ s
  all_goals exact .refl s

theorem foldl_endTimedOut_within (ended : List MemoryEntry) (s : State) : s.Within (ended.foldl endTimedOut s) := by
  induction ended generalizing s with
  | nil => exact .refl s
  | cons e rest ih => exact (endTimedOut_within e s).trans (ih _)

/-! ### Control commands, capture start and the input lines -/

theorem quiesceEmpty_within (n : Word) (s : State) : s.Within (quiesceEmpty n s) :=
  ((closeEmpty_within n s).trans (setMode_within _ _)).trans (raise_within _ _)

theorem quiesceOpen_within (n : Word) (s : State) : s.Within (quiesceOpen n s) :=
  ((startCommit_within _ n s).trans (setMode_within _ _)).trans (drainNotice_within _)

theorem resumeActive_within (s : State) : s.Within (resumeActive s) :=
  ((setModes_within _ s).trans (openEpoch_within _ _)).trans (setMode_within _ _)

theorem startRollback_within (s : State) : s.Within (startRollback s) := by
  refine State.Within.trans ?_ ((((discardDeferred_within _ _).trans (rejudge_within _)).trans
    (noteCapturesSettled_within _)).trans (noteEpochsDrained_within _))
  exact ⟨List.length_filter_le _ _, List.length_filterMap_le _ _, rfl, id⟩

theorem startCapture_within (i : Fin 4) (e : HoldEntry) (epoch : Word) (window : Fin 8) (s : State) :
    s.Within (startCapture i e epoch window s) := by
  refine State.Within.trans ?_ (bump_within .captures _)
  exact ⟨by simp, by simp [setTag], rfl, id⟩

theorem offerCapture_within (s : State) : s.Within (offerCapture s) := by
  unfold offerCapture
  split
  · split
    · split
      · exact (startCapture_within _ _ _ _ s).trans (updateSpace_within _)
      · exact .refl s
    · exact .refl s
  · exact .refl s

theorem thaw_within (s : State) : s.Within (thaw s) := by
  dsimp only [thaw]
  split
  · exact ((setModes_within _ s).trans (reexamine_within _)).trans (updateSpace_within _)
  · exact setModes_within _ s

/-! ### What Bounded and IssueOrdered say of the marks -/

theorem State.bounded_iff (s : State) :
    s.Bounded ↔ s.hold.entries.length ≤ 16 ∧ s.capture.tags.length ≤ 256 ∧ s.issueMarks.length ≤ 16 ∧
      s.management.log.length ≤ 8 := by
  simp [State.Bounded, State.issueMarks]

theorem State.issueOrdered_iff (s : State) :
    s.IssueOrdered ↔ s.issueMarks.Pairwise (fun older younger => younger = true → older = true) ∧
      s.issueMarks.count true ≤ 4 := by
  simp [State.IssueOrdered, State.issueMarks, State.outstanding, List.pairwise_map, List.count_eq_countP,
    List.countP_map, Function.comp_def]

theorem State.Bounded.within {s t : State} (h : s.Bounded) (hw : s.Within t) : t.Bounded := by
  rw [State.bounded_iff] at h ⊢
  obtain ⟨hhold, htags, hmarks, hlog⟩ := h
  exact ⟨hw.hold.trans hhold, hw.tags.trans htags, hw.marks ▸ hmarks, hw.log hlog⟩

theorem State.IssueOrdered.within {s t : State} (h : s.IssueOrdered) (hw : s.Within t) : t.IssueOrdered := by
  rw [State.issueOrdered_iff] at h ⊢
  rwa [hw.marks]

/-! ### Entries that leave the memory queue -/

theorem State.Bounded.setMemory {s : State} (h : s.Bounded) {x : MemoryPort}
    (hx : x.queue.length ≤ s.memory.queue.length) : (s.setMemory x).Bounded := by
  obtain ⟨hhold, htags, hqueue, hlog⟩ := h
  exact ⟨hhold, htags, hx.trans hqueue, hlog⟩

theorem State.IssueOrdered.setMemory {s : State} (h : s.IssueOrdered) {x : MemoryPort}
    (hx : x.queue.Sublist s.memory.queue) : (s.setMemory x).IssueOrdered :=
  ⟨h.1.sublist hx, hx.countP_le.trans h.2⟩

theorem answered_eq (s : State) (rest : List MemoryEntry) :
    s.answered rest = s.setMemory { s.memory with queue := rest } := rfl

theorem State.Awaits.sublist {s : State} {e : MemoryEntry} {rest : List MemoryEntry} (h : s.Awaits e rest) :
    rest.Sublist s.memory.queue := by
  rw [h.1]
  exact List.sublist_cons_self e rest

theorem State.Bounded.answered {s : State} (h : s.Bounded) {e : MemoryEntry} {rest : List MemoryEntry}
    (ha : s.Awaits e rest) : (s.answered rest).Bounded := by
  rw [answered_eq]
  exact h.setMemory ha.sublist.length_le

theorem State.IssueOrdered.answered {s : State} (h : s.IssueOrdered) {e : MemoryEntry} {rest : List MemoryEntry}
    (ha : s.Awaits e rest) : (s.answered rest).IssueOrdered := by
  rw [answered_eq]
  exact h.setMemory ha.sublist

theorem timeOut_bounded {s : State} (h : s.Bounded) : (timeOut s).Bounded := by
  unfold timeOut
  split
  · exact h
  · exact (((h.within (logError_within _ _ _ _ s)).within (halt_within _ _)).setMemory
      (List.length_filter_le _ _)).within (foldl_endTimedOut_within _ _)

theorem timeOut_issueOrdered {s : State} (h : s.IssueOrdered) : (timeOut s).IssueOrdered := by
  unfold timeOut
  split
  · exact h
  · exact (((h.within (logError_within _ _ _ _ s)).within (halt_within _ _)).setMemory
      List.filter_sublist).within (foldl_endTimedOut_within _ _)

/-! ### Entries that join the hold queue, the tag table and the memory queue -/

theorem arbiter_room {s : State} {g : Grant} (h : s.arbiter = some g) : s.memory.queue.length < 16 := by
  by_contra hfull
  have hfull' : Config.memoryPlaces ≤ s.memory.queue.length := Nat.not_lt.mp hfull
  simp [State.arbiter, hfull'] at h

theorem enqueue_bounded {s : State} (h : s.Bounded) (hroom : s.memory.queue.length < 16) (e : MemoryEntry) :
    (enqueue e s).Bounded := by
  obtain ⟨hhold, htags, -, hlog⟩ := h
  exact ⟨hhold, htags, by simpa [enqueue] using hroom, hlog⟩

theorem enqueue_issueOrdered {s : State} (h : s.IssueOrdered) {e : MemoryEntry} (he : e.issued = none) :
    (enqueue e s).IssueOrdered := by
  obtain ⟨hordered, hcount⟩ := h
  refine ⟨List.pairwise_append.mpr ⟨hordered, List.pairwise_singleton _ _, ?_⟩, ?_⟩
  · intro x _ y hy
    rw [List.mem_singleton.mp hy, he]
    exact fun h => absurd h (by simp)
  · simpa [State.outstanding, enqueue, List.countP_append, he] using hcount

@[simp] theorem readEntry_issued (source : Source) (line : Word) : (readEntry source line).issued = none := rfl

@[simp] theorem writeEntry_issued (source : Source) (line : Word) (offset : Nat) (data : List Byte) :
    (writeEntry source line offset data).issued = none := rfl

theorem passTurn_within (t : Turn) (s : State) : s.Within (passTurn t s) := .of_eq rfl rfl rfl rfl

/-- A grant is no change, or one request that becomes a WAITING entry at the end of the queue and no growth beside it
(R110). -/
def State.Grants (s t : State) : Prop :=
  s.Within t ∨ ∃ (u : State) (e : MemoryEntry), s.Within u ∧ u.memory = s.memory ∧ e.issued = none ∧
    (enqueue e u).Within t

theorem State.Grants.of_enqueue {s u : State} {e : MemoryEntry} (hu : s.Within u) (hmemory : u.memory = s.memory)
    (he : e.issued = none) : s.Grants (enqueue e u) :=
  .inr ⟨u, e, hu, hmemory, he, .refl _⟩

theorem State.Grants.within {s t u : State} (h : s.Grants t) (hw : t.Within u) : s.Grants u := by
  obtain hst | ⟨v, e, hv, hmemory, he, hvt⟩ := h
  · exact .inl (hst.trans hw)
  · exact .inr ⟨v, e, hv, hmemory, he, hvt.trans hw⟩

theorem passTurn_grants {s t : State} (h : s.Grants t) (turn : Turn) : s.Grants (passTurn turn t) :=
  h.within (passTurn_within turn t)

theorem releaseHead_grants (s : State) : s.Grants (releaseHead s) := by
  unfold releaseHead
  split
  · exact .inl (.refl s)
  · next e rest hentries =>
    have hgrant : s.Grants (passTurn .host (enqueue (writeEntry (.holdRelease e.cls.epoch) e.line e.offset e.data)
        (s.setHold { s.hold with entries := rest }))) :=
      passTurn_grants (.of_enqueue (setHold_within (by simp [hentries])) rfl (writeEntry_issued _ _ _ _)) _
    dsimp only
    split
    · exact hgrant
    · exact hgrant.within (setTable_within _ _)

theorem grantHostRead_grants (s : State) : s.Grants (grantHostRead s) := by
  unfold grantHostRead
  split
  · exact .inl (.refl s)
  · refine passTurn_grants ?_ _
    exact .of_enqueue (setHost_within _ s) rfl rfl

theorem grantFetch_grants (i : Fin 4) (s : State) : s.Grants (grantFetch i s) := by
  unfold grantFetch
  split
  · exact .inl (.refl s)
  · refine passTurn_grants ?_ _
    exact .of_enqueue (setHost_within _ s) rfl rfl

theorem grantCapture_grants (s : State) : s.Grants (grantCapture s) := by
  unfold grantCapture
  split
  · exact .inl (.refl s)
  · split
    · exact .inl (.refl s)
    · exact .of_enqueue (setCapture_within le_rfl) rfl rfl

theorem grantRecord_grants (s : State) : s.Grants (grantRecord s) := by
  unfold grantRecord
  split
  · exact .inl (.refl s)
  · exact .of_enqueue (setRing_within _ s) rfl rfl

/-- The anchor unit presents WAITING entries. -/
theorem anchorRequest_issued {s : State} {e : MemoryEntry} (h : s.anchorRequest = some e) : e.issued = none := by
  unfold State.anchorRequest at h
  (repeat' split at h) <;> cases h <;> rfl

theorem grantAnchor_grants (s : State) : s.Grants (grantAnchor s) := by
  unfold grantAnchor
  split
  · exact .inl (.refl s)
  · next e he => exact .of_enqueue (setAnchor_within _ s) rfl (anchorRequest_issued he)

theorem grantReplay_grants (s : State) : s.Grants (grantReplay s) := by
  unfold grantReplay
  split
  · exact .inl (.refl s)
  · next q rest _ => exact .of_enqueue (setReplay_within _ s) rfl (by cases q <;> rfl)

theorem State.Bounded.grants {s t : State} (h : s.Bounded) (hg : s.Grants t) {g : Grant} (ha : s.arbiter = some g) :
    t.Bounded := by
  obtain hw | ⟨u, e, hu, hmemory, -, ht⟩ := hg
  · exact h.within hw
  · exact (enqueue_bounded (h.within hu) (hmemory ▸ arbiter_room ha) e).within ht

theorem State.IssueOrdered.grants {s t : State} (h : s.IssueOrdered) (hg : s.Grants t) : t.IssueOrdered := by
  obtain hw | ⟨u, e, hu, -, he, ht⟩ := hg
  · exact h.within hw
  · exact (enqueue_issueOrdered (h.within hu) he).within ht

theorem appendHold_bounded {s : State} (h : s.Bounded) (hplace : s.hold.entries.length < 16) (e : HoldEntry) :
    (appendHold e s).Bounded := by
  obtain ⟨-, htags, hqueue, hlog⟩ := h
  exact ⟨by simpa [appendHold] using hplace, htags, hqueue, hlog⟩

theorem State.Bounded.setCapture {s : State} (h : s.Bounded) {x : CaptureUnit} (hx : x.tags.length ≤ 256) :
    (s.setCapture x).Bounded := by
  obtain ⟨hhold, -, hqueue, hlog⟩ := h
  exact ⟨hhold, hx, hqueue, hlog⟩

theorem takeJournal_bounded {s : State} (h : s.Bounded) (hplace : s.hold.entries.length < 16) (r : HostRequest)
    (window : Fin 8) (n : Word) : (takeJournal r window n s).Bounded := by
  have hcounted {u : State} (hu : u.Bounded) (c : Counter) : (bump c u).Bounded := hu.within (bump_within c u)
  have htable (x : EpochTable) : (s.setTable x).Bounded := h.within (setTable_within x s)
  dsimp only [takeJournal]
  split
  · exact hcounted (appendHold_bounded (htable _) hplace _) _
  · exact hcounted (appendHold_bounded (htable _) hplace _) _
  · split
    · next htags =>
      refine appendHold_bounded (State.Bounded.setCapture (htable _) ?_) (by exact hplace) _
      rw [List.length_append]
      exact Nat.succ_le_of_lt htags
    · exact hcounted (appendHold_bounded (htable _) hplace _) _

/-- Taking a write adds one hold entry, and one tag entry only while the tag table has a place (R40, R42). -/
theorem takeWrite_bounded {s : State} (h : s.Bounded) (hplace : s.hold.entries.length < 16) (r : HostRequest)
    (journaled : Bool) : (takeWrite r journaled s).Bounded := by
  have hdone {u : State} (hu : u.Bounded) : (bump .hostWrites (answerHost (.done []) u)).Bounded :=
    (hu.within (answerHost_within _ u)).within (bump_within _ _)
  have hstart : (discardDeferred (fun d => d.line == r.line) s).Bounded := h.within (discardDeferred_within _ s)
  have hlen : (discardDeferred (fun d => d.line == r.line) s).hold.entries.length < 16 := by simpa using hplace
  unfold takeWrite
  refine hdone ?_
  split
  · exact takeJournal_bounded hstart hlen _ _ _
  · exact appendHold_bounded hstart hlen _

theorem takeWrite_issueMarks (r : HostRequest) (journaled : Bool) (s : State) :
    (takeWrite r journaled s).issueMarks = s.issueMarks := by
  have hmarks := (discardDeferred_within (fun d => d.line == r.line) s).marks
  simp only [State.issueMarks] at hmarks ⊢
  dsimp only [takeWrite, takeJournal]
  (repeat' split) <;> simpa [appendHold, takePass] using hmarks

theorem offerWrite_bounded {s : State} (h : s.Bounded) (r : HostRequest) (journaled : Bool) :
    (offerWrite r journaled s).Bounded := by
  unfold offerWrite
  split
  · next hplace => exact takeWrite_bounded h hplace r journaled
  · exact (h.within (beginWait_within _ s)).within (bump_within _ _)

theorem offerWrite_issueMarks (r : HostRequest) (journaled : Bool) (s : State) :
    (offerWrite r journaled s).issueMarks = s.issueMarks := by
  unfold offerWrite
  split
  · exact takeWrite_issueMarks r journaled s
  · exact ((beginWait_within _ s).trans (bump_within _ _)).marks

/-! ### Issue -/

theorem issueOldest_length (now : Nat) (queue : List MemoryEntry) :
    (issueOldest now queue).length = queue.length := by
  induction queue with
  | nil => rfl
  | cons e rest ih =>
    rw [issueOldest]
    split <;> simp [ih]

/-- Issue marks the oldest WAITING entry, and with none leaves the marks alone. -/
theorem issueOldest_marks (now : Nat) {queue : List MemoryEntry}
    (h : (queue.map fun e => e.issued.isSome).Pairwise fun older younger => younger = true → older = true) :
    ((issueOldest now queue).map fun e => e.issued.isSome).Pairwise
        (fun older younger => younger = true → older = true) ∧
      ((issueOldest now queue).map fun e => e.issued.isSome).count true ≤
        (queue.map fun e => e.issued.isSome).count true + 1 := by
  induction queue with
  | nil => simp [issueOldest]
  | cons e rest ih =>
    rw [List.map_cons, List.pairwise_cons] at h
    obtain ⟨hfirst, hrest⟩ := h
    rw [issueOldest]
    split
    · next hissued =>
      obtain ⟨hpair, hcount⟩ := ih hrest
      refine ⟨List.pairwise_cons.mpr ⟨fun _ _ _ => hissued, hpair⟩, ?_⟩
      simp only [List.map_cons, List.count_cons, hissued]
      omega
    · next hwaiting =>
      have hwaiting' : e.issued.isSome = false := Bool.not_eq_true _ ▸ hwaiting
      refine ⟨List.pairwise_cons.mpr ⟨fun _ _ _ => rfl, hrest⟩, ?_⟩
      simp [hwaiting']

theorem issue_bounded {s : State} (h : s.Bounded) : (issue s).Bounded := by
  unfold issue
  split
  · exact h.setMemory (issueOldest_length _ _).le
  · exact h

theorem issue_issueOrdered {s : State} (h : s.IssueOrdered) : (issue s).IssueOrdered := by
  unfold issue
  split
  · next hfree =>
    rw [State.issueOrdered_iff] at h ⊢
    obtain ⟨hpair, hcount⟩ := issueOldest_marks s.pins.now h.1
    refine ⟨hpair, hcount.trans ?_⟩
    have hout : s.issueMarks.count true = s.outstanding := by
      simp [State.issueMarks, State.outstanding, List.count_eq_countP, List.countP_map, Function.comp_def]
    exact Nat.succ_le_of_lt (show s.issueMarks.count true < 4 from hout ▸ hfree)
  · exact h

/-! ### Every move and every step -/

/-- What a move does to the queues and tables: nothing grows, after one entry of the memory queue has been granted, issued,
answered or timed out, or a write has been taken. -/
inductive SizeMove (s t : State) : Prop
  | kept (h : s.Within t)
  | granted {g : Grant} (hgrant : s.arbiter = some g) (h : s.Grants t)
  | issued (h : t = issue s)
  | answered {e : MemoryEntry} {rest : List MemoryEntry} (ha : s.Awaits e rest) (h : (s.answered rest).Within t)
  | timedOut {u : State} (hu : s.Within u) (h : (timeOut u).Within t)
  | offered (r : HostRequest) (journaled : Bool) (h : (offerWrite r journaled s).Within t)
  | taken (r : HostRequest) (journaled : Bool) (hplace : s.hold.entries.length < 16)
      (h : (takeWrite r journaled s).Within t)

theorem Moves.sizeMove {s t : State} (hmove : Moves s t) : SizeMove s t := by
  have hspace {u v : State} (h : u.Within v) : u.Within (updateSpace v) := h.trans (updateSpace_within v)
  have hrespond {u v : State} (h : u.Within v) : u.Within (respond .ok [] v) := h.trans (respond_within _ _ v)
  cases hmove with
  | idle => exact .kept (.refl s)
  | ticked => exact .kept (elapse_within _ s)
  | refused a => exact .kept (answerHost_within a s)
  | readForwarded r => exact .kept (startRead_within r s)
  | writeOffered r journaled hjudge => exact .offered r journaled (updateSpace_within _)
  | waitingTaken r journaled hjudge hplace => exact .taken r journaled hplace (updateSpace_within _)
  | lineCleared line => exact .kept (clearLine_within line s)
  | waitExpired => exact .kept (expireWait_within s)
  | deferredExpired i => exact .kept (expireDeferred_within i s)
  | captureOffered => exact .kept (offerCapture_within s)
  | headReleased hgrant => exact .granted hgrant ((releaseHead_grants s).within (updateSpace_within _))
  | hostReadGranted hgrant => exact .granted hgrant (grantHostRead_grants s)
  | fetchGranted i hgrant => exact .granted hgrant (grantFetch_grants i s)
  | captureGranted hgrant => exact .granted hgrant (grantCapture_grants s)
  | recordGranted hgrant => exact .granted hgrant (grantRecord_grants s)
  | anchorGranted hgrant => exact .granted hgrant (grantAnchor_grants s)
  | replayGranted hgrant => exact .granted hgrant (grantReplay_grants s)
  | issued => exact .issued rfl
  | hostReadAnswer ha _ a => exact .answered ha (hostReadAnswered_within _ a _)
  | fetchDropped ha => exact .answered ha (.refl _)
  | fetchAnswer ha _ a => exact .answered ha (fetchAnswered_within _ a _)
  | dataWriteAnswer ha _ a => exact .answered ha (hspace (dataWriteAnswered_within a _ _ _))
  | passWriteAnswer ha _ a => exact .answered ha (passWriteAnswered_within a _ _)
  | captureDropped ha => exact .answered ha (.refl _)
  | captureDone ha _ _ _ data => exact .answered ha (hspace (assignLine_within _ _ data _))
  | captureFault ha => exact .answered ha (hspace (faultCapture_within _ _ _))
  | captureCancelled ha =>
    exact .answered ha (hspace ((releaseCapture_within _ _ _).trans (noteCapturesSettled_within _)))
  | recordHeadDone ha => exact .answered ha (hspace (recordDurable_within _ _))
  | recordBodyDone ha => exact .answered ha (.refl _)
  | recordFault ha => exact .answered ha (hspace (recordFaulted_within _ _))
  | firstAnchorLine ha _ a => exact .answered ha (anchorLineAnswered_within _ a _)
  | secondAnchorLine ha _ a => exact .answered ha (hspace (anchorLineAnswered_within _ a _))
  | anchorReadAnswer ha _ a => exact .answered ha (hspace (anchorReadAnswered_within a _))
  | replayHeadAnswer ha _ a => exact .answered ha (hspace (replayHeadAnswered_within a _ _))
  | replayBodyAnswer ha _ a => exact .answered ha (hspace (replayBodyAnswered_within a _ _))
  | restoreAnswer ha _ a => exact .answered ha (hspace (restoreAnswered_within a _ _ _ _))
  | timedOut _ moment => exact .timedOut (elapseTo_within moment s) (updateSpace_within _)
  | unfit => exact .timedOut (.refl s) (updateSpace_within _)
  | ageExpired moment => exact .kept (hspace ((elapseTo_within moment s).trans (fireTrigger_within _ _)))
  | managed m hm => exact .kept ⟨le_rfl, le_rfl, rfl, hm.trans⟩
  | emptyCommitted e => exact .kept (hrespond (hspace (commitEmpty_within _ s)))
  | commitStarted e => exact .kept (hrespond (hspace (commitOpen_within _ s)))
  | emptyQuiesced e => exact .kept (hrespond (hspace (quiesceEmpty_within _ s)))
  | quiesceStarted e => exact .kept (hrespond (hspace (quiesceOpen_within _ s)))
  | aborted => exact .kept (hrespond (hspace (startRollback_within s)))
  | resumed => exact .kept (hrespond (hspace (resumeActive_within s)))
  | bypassed => exact .kept (hrespond (setMode_within _ s))
  | storeStarted => exact .kept (hrespond (setAnchor_within _ s))
  | pinned p => exact .kept (setPins_within p s)
  | frozen p => exact .kept (((setPins_within p s).trans (setModes_within _ _)).trans (rejudge_within _))
  | thawed p => exact .kept ((setPins_within p s).trans (thaw_within _))
  | resetAsserted m p hm => exact .kept (.of_eq rfl rfl rfl hm)

theorem SizeMove.bounded {s t : State} (hmove : SizeMove s t) (h : s.Bounded) : t.Bounded := by
  cases hmove with
  | kept hw => exact h.within hw
  | granted hgrant hg => exact h.grants hg hgrant
  | issued ht => exact ht ▸ issue_bounded h
  | answered ha hw => exact (h.answered ha).within hw
  | timedOut hu hw => exact (timeOut_bounded (h.within hu)).within hw
  | offered r journaled hw => exact (offerWrite_bounded h r journaled).within hw
  | taken r journaled hplace hw => exact (takeWrite_bounded h hplace r journaled).within hw

theorem SizeMove.issueOrdered {s t : State} (hmove : SizeMove s t) (h : s.IssueOrdered) : t.IssueOrdered := by
  have hmarks {u : State} (hu : u.issueMarks = s.issueMarks) : u.IssueOrdered := by
    rw [State.issueOrdered_iff] at h ⊢
    rwa [hu]
  cases hmove with
  | kept hw => exact h.within hw
  | granted hgrant hg => exact h.grants hg
  | issued ht => exact ht ▸ issue_issueOrdered h
  | answered ha hw => exact (h.answered ha).within hw
  | timedOut hu hw => exact (timeOut_issueOrdered (h.within hu)).within hw
  | offered r journaled hw => exact (hmarks (offerWrite_issueMarks r journaled s)).within hw
  | taken r journaled _ hw => exact (hmarks (takeWrite_issueMarks r journaled s)).within hw

/-- Settles O56: no move lets a queue or table grow past its size, and none issues an entry past an older one. -/
theorem sizesKept : Obligations.SizesKept := by
  refine ⟨fun s t h hnext => ?bounded, fun s t h hnext => ?ordered⟩
  case bounded =>
    refine step_keeps (P := State.Bounded) (fun _ _ h => h) (fun _ _ _ _ => ?_) (fun _ _ hmove h => ?_) h hnext
    · exact ⟨Nat.zero_le _, Nat.zero_le _, Nat.zero_le _, Nat.zero_le _⟩
    · exact hmove.sizeMove.bounded h
  case ordered =>
    refine step_keeps (P := State.IssueOrdered) (fun _ _ h => h) (fun _ _ _ _ => ?_) (fun _ _ hmove h => ?_) h hnext
    · exact ⟨.nil, Nat.zero_le _⟩
    · exact hmove.sizeMove.issueOrdered h

end Sys2Proof.Machine

/-! HALTED (R154, R155): the halt leaves every block quiet, what runs on in HALTED begins no journal work and keeps the
cause, and the settlement of O59. -/

namespace Sys2Proof.Machine

-- One theorem at a time: the proofs below would otherwise wait for one another in many threads.
set_option Elab.async false

/-! ### Quiet states -/

/-- No journal work is left in any block: what `State.HaltQuiet` says of HALTED. -/
structure State.Quiet (s : State) : Prop where
  table : s.epochs.table = ⟨none, none⟩
  commit : s.epochs.commit = none
  heldTrigger : s.epochs.heldTrigger = false
  fullRequest : s.epochs.fullRequest = false
  promised : s.ring.promised = 0
  writes : s.ring.writes = []
  blocked : s.ring.blocked = false
  hold : ∀ e ∈ s.hold.entries, e.cls = .pass
  tags : s.capture.tags = []
  slots : s.capture.slots = #v[none, none, none, none]
  reads : s.capture.reads = []
  rollback : s.replay.rollback = none
  recovery : s.replay.recovery = none
  requests : s.replay.requests = []
  headLine : s.replay.headLine = none
  pendingUpdate : s.anchor.pendingUpdate = false
  loading : s.anchor.loading = none

theorem State.haltQuiet_iff (s : State) : s.HaltQuiet ↔ (s.modes.mode = .halted → s.Quiet) := by
  constructor
  · intro h hmode
    obtain ⟨h1, h2, h3, h4, h5, h6, h7, h8, h9, h10, h11, h12, h13, h14, h15, h16, h17⟩ := h hmode
    exact ⟨h1, h2, h3, h4, h5, h6, h7, h8, h9, h10, h11, h12, h13, h14, h15, h16, h17⟩
  · intro h hmode
    have q := h hmode
    exact ⟨q.table, q.commit, q.heldTrigger, q.fullRequest, q.promised, q.writes, q.blocked, q.hold, q.tags, q.slots,
      q.reads, q.rollback, q.recovery, q.requests, q.headLine, q.pendingUpdate, q.loading⟩

theorem State.haltQuiet_of_running {s : State} (h : s.modes.mode ≠ .halted) : s.HaltQuiet :=
  fun hmode => absurd hmode h

/-- From `s` to `t` the quiet of HALTED is kept, and HALTED with its cause stands. -/
structure State.KeepsHalt (s t : State) : Prop where
  quiet : s.HaltQuiet → t.HaltQuiet
  stands : s.HaltQuiet → s.modes.mode = .halted → t.modes.mode = .halted ∧ t.modes.cause = s.modes.cause

theorem State.KeepsHalt.refl (s : State) : s.KeepsHalt s := ⟨id, fun _ h => ⟨h, rfl⟩⟩

theorem State.KeepsHalt.trans {s t u : State} (h : s.KeepsHalt t) (h' : t.KeepsHalt u) : s.KeepsHalt u := by
  refine ⟨fun hq => h'.quiet (h.quiet hq), fun hq hmode => ?_⟩
  obtain ⟨hmode', hcause⟩ := h.stands hq hmode
  obtain ⟨hmode'', hcause'⟩ := h'.stands (h.quiet hq) hmode'
  exact ⟨hmode'', hcause'.trans hcause⟩

/-- Outside HALTED only the end counts. -/
theorem State.KeepsHalt.of_running {s t : State} (hs : s.modes.mode ≠ .halted) (ht : t.HaltQuiet) : s.KeepsHalt t :=
  ⟨fun _ => ht, fun _ hmode => absurd hmode hs⟩

/-- A change that keeps the mode controller, and keeps a quiet state quiet. -/
theorem State.KeepsHalt.of_quiet {s t : State} (hmodes : t.modes = s.modes) (h : s.Quiet → t.Quiet) :
    s.KeepsHalt t := by
  refine ⟨fun hq => ?_, fun _ hmode => ?_⟩
  · rw [State.haltQuiet_iff] at hq ⊢
    rw [hmodes]
    exact fun hmode => h (hq hmode)
  · rw [hmodes]
    exact ⟨hmode, rfl⟩

/-- A change outside the mode controller and outside what `State.Quiet` speaks of. -/
theorem State.KeepsHalt.of_eq {s t : State} (hmodes : t.modes = s.modes := by simp)
    (hepochs : t.epochs = s.epochs := by simp) (hring : t.ring = s.ring := by simp)
    (hhold : t.hold = s.hold := by simp) (hcapture : t.capture = s.capture := by simp)
    (hreplay : t.replay = s.replay := by simp) (hanchor : t.anchor = s.anchor := by simp) : s.KeepsHalt t := by
  refine .of_quiet hmodes fun q => ?_
  constructor <;> simp only [hepochs, hring, hhold, hcapture, hreplay, hanchor, q.table, q.commit, q.heldTrigger,
    q.fullRequest, q.promised, q.writes, q.blocked, q.tags, q.slots, q.reads, q.rollback, q.recovery, q.requests,
    q.headLine, q.pendingUpdate, q.loading]
  exact q.hold

theorem logError_keepsHalt (kind : ErrorKind) (epoch line : Option Word) (slot : Option Nat) (s : State) :
    s.KeepsHalt (logError kind epoch line slot s) := .of_eq

theorem raise_keepsHalt (v : Event) (s : State) : s.KeepsHalt (raise v s) := .of_eq

/-- Outside HALTED a change that keeps the mode keeps the quiet. -/
theorem State.HaltQuiet.of_modes {s t : State} (hs : s.modes.mode ≠ .halted) (h : t.modes.mode = s.modes.mode) :
    t.HaltQuiet := State.haltQuiet_of_running (by rwa [h])

/-- A change of a quiet state that changes nothing in HALTED, and outside it keeps the quiet. -/
theorem State.KeepsHalt.of_cases {s t : State} (hquiet : s.modes.mode = .halted → s.Quiet → s.KeepsHalt t)
    (hrunning : s.modes.mode ≠ .halted → t.HaltQuiet) : s.KeepsHalt t := by
  by_cases hmode : s.modes.mode = .halted
  · exact ⟨fun hq => (hquiet hmode ((State.haltQuiet_iff s).mp hq hmode)).quiet hq,
      fun hq => (hquiet hmode ((State.haltQuiet_iff s).mp hq hmode)).stands hq⟩
  · exact .of_running hmode (hrunning hmode)

theorem EpochTable.modify_empty (n : Word) (f : LiveEpoch → LiveEpoch) :
    EpochTable.modify ⟨none, none⟩ n f = ⟨none, none⟩ := rfl

/-! ### The halt -/

@[simp] theorem halt_mode (cause : Cause) (s : State) : (halt cause s).modes.mode = .halted := by
  unfold halt
  split
  · assumption
  · simp

/-- A halt quiets every block (R154). -/
theorem halt_quiet {s : State} (h : s.modes.mode ≠ .halted) (cause : Cause) : (halt cause s).Quiet := by
  unfold halt
  rw [if_neg h]
  constructor <;>
    simp [haltBlocks, EpochController.halted, RingManager.halted, HoldQueue.withoutJournal, CaptureUnit.halted,
      ReplayEngine.halted, AnchorUnit.halted]
  intro e _ he
  exact not_not.mp fun hpass => Bool.eq_false_iff.mp he ((HoldEntry.isJournal_iff e).mpr hpass)

theorem halt_haltQuiet {s : State} (h : s.modes.mode ≠ .halted) (cause : Cause) : (halt cause s).HaltQuiet :=
  (State.haltQuiet_iff _).mpr fun _ => halt_quiet h cause

theorem halt_keepsHalt (cause : Cause) (s : State) : s.KeepsHalt (halt cause s) :=
  .of_cases (fun hmode _ => (halt_of_halted hmode cause).symm ▸ .refl s) fun hmode => halt_haltQuiet hmode cause

theorem logError_halt_keepsHalt (cause : Cause) (kind : ErrorKind) (epoch line : Option Word) (slot : Option Nat)
    (s : State) : s.KeepsHalt (halt cause (logError kind epoch line slot s)) := by
  refine State.KeepsHalt.trans ?_ (halt_keepsHalt cause _)
  exact .of_eq

/-! ### The shared sequences -/

theorem elapse_keepsHalt (d : Nat) (s : State) : s.KeepsHalt (elapse d s) := by
  dsimp only [elapse]
  split
  · refine .of_quiet rfl fun q => ?_
    exact ⟨by simp [EpochTable.map, q.table], q.commit, q.heldTrigger, q.fullRequest, q.promised, q.writes, q.blocked,
      q.hold, q.tags, q.slots, q.reads, q.rollback, q.recovery, q.requests, q.headLine, q.pendingUpdate, q.loading⟩
  · exact .of_eq

theorem elapseTo_keepsHalt (moment : Nat) (s : State) : s.KeepsHalt (elapseTo moment s) := elapse_keepsHalt _ s

theorem requestMarker_haltQuiet {s : State} (h : s.modes.mode ≠ .halted) (kind : RecordKind) (n : Word)
    {next : Nat → Word → State → State} (hnext : ∀ slot sequence t, (next slot sequence t).modes = t.modes) :
    (requestMarker kind n next s).HaltQuiet := by
  unfold requestMarker
  split
  · exact .of_modes h (by simp [hnext])
  · exact halt_haltQuiet (by simpa using h) _

theorem queueCommitRecord_haltQuiet {s : State} (h : s.modes.mode ≠ .halted) (q : CommitSequence) :
    (queueCommitRecord q s).HaltQuiet := requestMarker_haltQuiet h _ _ fun _ _ _ => rfl

theorem queueClose_haltQuiet {s : State} (h : s.modes.mode ≠ .halted) (highest : Word) :
    (queueClose highest s).HaltQuiet := requestMarker_haltQuiet h _ _ fun _ _ _ => rfl

theorem settle_haltQuiet {s : State} (h : s.modes.mode ≠ .halted) (captures epochs : Bool) (highest : Word) :
    (settle captures epochs highest s).HaltQuiet := by
  unfold settle startWalk
  split_ifs
  · exact queueClose_haltQuiet h highest
  · exact .of_modes h rfl
  · exact .of_modes h rfl

theorem noteCapturesSettled_of_none {s : State} (h : s.replay.rollback = none) : noteCapturesSettled s = s := by
  simp [noteCapturesSettled, h]

theorem noteEpochsDrained_of_none {s : State} (h : s.replay.rollback = none) : noteEpochsDrained s = s := by
  simp [noteEpochsDrained, h]

theorem drainNotice_of_none {s : State} (hcommit : s.epochs.commit = none) (hrollback : s.replay.rollback = none) :
    drainNotice s = s := by
  simp [drainNotice, State.commitDrained, hcommit, noteEpochsDrained_of_none hrollback]

theorem noteCapturesSettled_haltQuiet {s : State} (h : s.modes.mode ≠ .halted) :
    (noteCapturesSettled s).HaltQuiet := by
  have hs := State.haltQuiet_of_running h
  unfold noteCapturesSettled
  split
  · split
    · split
      · exact settle_haltQuiet h _ _ _
      · exact hs
    · exact hs
  · exact hs

theorem noteEpochsDrained_haltQuiet {s : State} (h : s.modes.mode ≠ .halted) : (noteEpochsDrained s).HaltQuiet := by
  have hs := State.haltQuiet_of_running h
  unfold noteEpochsDrained
  split
  · split
    · split
      · exact settle_haltQuiet h _ _ _
      · exact hs
    · exact hs
  · exact hs

theorem noteCapturesSettled_keepsHalt (s : State) : s.KeepsHalt (noteCapturesSettled s) :=
  .of_cases (fun _ q => (noteCapturesSettled_of_none q.rollback).symm ▸ .refl s) noteCapturesSettled_haltQuiet

theorem noteEpochsDrained_keepsHalt (s : State) : s.KeepsHalt (noteEpochsDrained s) :=
  .of_cases (fun _ q => (noteEpochsDrained_of_none q.rollback).symm ▸ .refl s) noteEpochsDrained_haltQuiet

theorem drainNotice_keepsHalt (s : State) : s.KeepsHalt (drainNotice s) := by
  refine .of_cases (fun _ q => (drainNotice_of_none q.commit q.rollback).symm ▸ .refl s) fun hmode => ?_
  unfold drainNotice
  split
  · exact queueCommitRecord_haltQuiet hmode _
  · exact noteEpochsDrained_haltQuiet hmode

theorem drainNotice_haltQuiet {s : State} (h : s.modes.mode ≠ .halted) : (drainNotice s).HaltQuiet :=
  (drainNotice_keepsHalt s).quiet (State.haltQuiet_of_running h)

theorem failCommit_running {s : State} (h : s.modes.mode ≠ .halted) (n : Word) :
    (failCommit n s).modes.mode ≠ .halted := by
  unfold failCommit
  split <;> simp [h]

theorem markDamaged_running {s : State} (h : s.modes.mode ≠ .halted) (e : LiveEpoch) :
    (markDamaged e s).modes.mode ≠ .halted := by
  unfold markDamaged
  split
  · exact failCommit_running (by simpa using h) _
  · simpa using h

theorem reportDamage_running {s : State} (h : s.modes.mode ≠ .halted) (kind : ErrorKind) (epoch line : Word) :
    (reportDamage kind epoch line s).modes.mode ≠ .halted := by
  dsimp only [reportDamage]
  split
  · split
    · simpa using h
    · exact markDamaged_running (by simpa using h) _
  · simpa using h

theorem reportDamage_of_empty {s : State} (h : s.epochs.table = ⟨none, none⟩) (kind : ErrorKind) (epoch line : Word) :
    reportDamage kind epoch line s = logError kind (some epoch) (some line) none s := by
  simp [reportDamage, EpochTable.find, EpochTable.epochs, h]

theorem reportDamage_keepsHalt (kind : ErrorKind) (epoch line : Word) (s : State) :
    s.KeepsHalt (reportDamage kind epoch line s) :=
  .of_cases (fun _ q => (reportDamage_of_empty q.table kind epoch line).symm ▸ .of_eq)
    fun hmode => State.haltQuiet_of_running (reportDamage_running hmode kind epoch line)

theorem triggersAct_running {s : State} (h : s.triggersAct = true) : s.modes.mode ≠ .halted := by
  obtain ⟨hmode, -, -⟩ := s.triggersAct_iff.mp h
  simp [hmode]

theorem commitOpen_haltQuiet {s : State} (h : s.modes.mode ≠ .halted) (n : Word) : (commitOpen n s).HaltQuiet :=
  drainNotice_haltQuiet (by simpa using h)

theorem fireTrigger_keepsHalt (full : Bool) (s : State) : s.KeepsHalt (fireTrigger full s) := by
  by_cases hacts : s.triggersAct = true
  · have hmode := triggersAct_running hacts
    refine .of_running hmode ?_
    unfold fireTrigger
    rw [if_pos hacts]
    split
    · exact .of_modes hmode (by simp)
    · exact commitOpen_haltQuiet hmode _
    all_goals exact .of_modes hmode rfl
  · unfold fireTrigger
    rw [if_neg hacts]
    exact .refl s

theorem setHeldTrigger_keepsHalt (s : State) : s.KeepsHalt (s.setEpochs { s.epochs with heldTrigger := false }) :=
  .of_quiet rfl fun q => { q with heldTrigger := rfl }

theorem reexamine_keepsHalt (s : State) : s.KeepsHalt (reexamine s) := by
  dsimp only [reexamine]
  split
  · exact (setHeldTrigger_keepsHalt s).trans (fireTrigger_keepsHalt _ _)
  · exact setHeldTrigger_keepsHalt s

theorem updateLow_keepsHalt (s : State) : s.KeepsHalt (updateLow s) := by
  unfold updateLow
  split <;> exact .of_quiet rfl fun q => { q with promised := q.promised }

theorem blockedNow_of_halted {s : State} (h : s.modes.mode = .halted) : s.blockedNow = false := by
  simp [State.blockedNow, h]

theorem updateBlocked_keepsHalt (s : State) : s.KeepsHalt (updateBlocked s) := by
  by_cases hmode : s.modes.mode = .halted
  · simp only [updateBlocked, blockedNow_of_halted hmode, Bool.false_eq_true, if_false]
    exact .of_quiet rfl fun q => { q with fullRequest := rfl, blocked := rfl }
  · refine .of_running hmode ?_
    dsimp only [updateBlocked]
    split_ifs
    · exact .of_modes hmode rfl
    · exact (fireTrigger_keepsHalt true _).quiet (.of_modes hmode rfl)
    · exact .of_modes hmode rfl
    · exact .of_modes hmode rfl

theorem updateSpace_keepsHalt (s : State) : s.KeepsHalt (updateSpace s) :=
  ((updateLow_keepsHalt s).trans (updateBlocked_keepsHalt _)).trans (updateLow_keepsHalt _)

/-! ### Anchor writes and LOADING -/

theorem buildUpdate_keepsHalt (s : State) : s.KeepsHalt (buildUpdate s) := by
  unfold buildUpdate
  split <;> exact .of_quiet rfl fun q => { q with pendingUpdate := rfl }

theorem buildPending_keepsHalt (s : State) : s.KeepsHalt (buildPending s) := by
  unfold buildPending
  split
  · exact buildUpdate_keepsHalt s
  · exact .refl s

theorem startModeOf_running (m : BitVec 2) : startModeOf m ≠ .halted := by
  unfold startModeOf
  split <;> simp

theorem ReplayEngine.anchoring_of_none {r : ReplayEngine} (h : r.recovery = none) : r.anchoring = none := by
  simp [ReplayEngine.anchoring, h]

theorem completeRecovery_keepsHalt (s : State) : s.KeepsHalt (completeRecovery s) := by
  refine .of_cases (fun _ q => ?_) fun hmode => ?_
  · simp only [completeRecovery, ReplayEngine.anchoring_of_none q.recovery]
    exact .refl s
  · unfold completeRecovery
    split
    · exact State.haltQuiet_of_running hmode
    · exact State.haltQuiet_of_running (by simp [startModeOf_running])

theorem completeQuiesce_keepsHalt (s : State) : s.KeepsHalt (completeQuiesce s) := by
  refine .of_cases (fun _ q => ?_) fun hmode => ?_
  · simp only [completeQuiesce, q.commit]
    exact .refl s
  · unfold completeQuiesce
    split
    · split
      · exact State.haltQuiet_of_running (by simp)
      · exact State.haltQuiet_of_running hmode
    · exact State.haltQuiet_of_running hmode

theorem logAnchorFault_keepsHalt (target : Copy) (first second : LineAnswer) (s : State) :
    s.KeepsHalt (logAnchorFault target first second s) := by
  unfold logAnchorFault
  split_ifs
  · exact .of_eq
  · exact .of_eq
  · exact .refl s

/-- A change of the anchor unit that keeps what the halt left of it. -/
theorem setAnchor_keepsHalt {s : State} {x : AnchorUnit} (hpending : x.pendingUpdate = s.anchor.pendingUpdate)
    (hloading : x.loading = s.anchor.loading) : s.KeepsHalt (s.setAnchor x) :=
  .of_quiet rfl fun q =>
    { q with pendingUpdate := hpending.trans q.pendingUpdate, loading := hloading.trans q.loading }

theorem judgeUpdate_keepsHalt (w : AnchorWrite) (tail : Nat) (sequence : Word) (endsRecovery : Bool)
    (first second : LineAnswer) (s : State) :
    s.KeepsHalt (judgeUpdate w tail sequence endsRecovery first second s) := by
  unfold judgeUpdate
  split
  · cases endsRecovery <;> exact .of_quiet rfl fun q => { q with promised := q.promised }
  · refine State.KeepsHalt.trans (State.KeepsHalt.trans ?_ (logAnchorFault_keepsHalt _ _ _ _)) (raise_keepsHalt _ _)
    exact setAnchor_keepsHalt rfl rfl

theorem installStore_keepsHalt (w : AnchorWrite) (c : Configuration) (s : State) :
    s.KeepsHalt (installStore w c s) := by
  refine .of_quiet (by simp [installStore, makeCurrent]) fun q => ?_
  constructor <;> simp only [installStore, makeCurrent, reclassify_untouched, discardDeferred_untouched,
    State.setHold_epochs, State.setHold_ring, State.setHold_hold, State.setHold_capture, State.setHold_replay,
    State.setHold_anchor, raise_untouched, State.setRing_epochs, State.setRing_ring, State.setRing_hold,
    State.setRing_capture, State.setRing_replay, State.setRing_anchor, State.setAnchor_epochs, State.setAnchor_ring,
    State.setAnchor_hold, State.setAnchor_capture, State.setAnchor_replay, State.setAnchor_anchor,
    RingManager.resetTo, q.table, q.commit, q.heldTrigger, q.fullRequest, q.promised, q.writes, q.blocked, q.tags,
    q.slots, q.reads, q.rollback, q.recovery, q.requests, q.headLine, q.pendingUpdate, q.loading]
  exact fun e he => q.hold e (List.mem_filter.mp he).1

theorem judgeStore_keepsHalt (w : AnchorWrite) (c : Configuration) (first second : LineAnswer) (s : State) :
    s.KeepsHalt (judgeStore w c first second s) := by
  dsimp only [judgeStore]
  split_ifs
  · exact setAnchor_keepsHalt rfl rfl
  · exact installStore_keepsHalt w c s
  · exact logAnchorFault_keepsHalt _ _ _ s
  · exact (logAnchorFault_keepsHalt _ _ _ s).trans (raise_keepsHalt _ _)

theorem judgeAnchorWrite_keepsHalt (w : AnchorWrite) (first second : LineAnswer) (s : State) :
    s.KeepsHalt (judgeAnchorWrite w first second s) := by
  have hfree : s.KeepsHalt (s.setAnchor { s.anchor with write := none }) := setAnchor_keepsHalt rfl rfl
  dsimp only [judgeAnchorWrite]
  split
  · next tail sequence endsRecovery _ =>
    have hupdated := ((hfree.trans (judgeUpdate_keepsHalt w tail sequence endsRecovery first second _)).trans
      (buildPending_keepsHalt _)).trans (completeRecovery_keepsHalt _)
    split
    · exact hupdated
    · exact hupdated.trans (completeQuiesce_keepsHalt _)
  · exact (hfree.trans (judgeStore_keepsHalt w _ first second _)).trans (buildPending_keepsHalt _)

theorem anchorLineAnswered_keepsHalt (second : Bool) (a : LineAnswer) (s : State) :
    s.KeepsHalt (anchorLineAnswered second a s) := by
  unfold anchorLineAnswered
  split
  · exact .refl s
  · split
    · split
      · exact judgeAnchorWrite_keepsHalt _ _ a s
      · exact .refl s
    · exact setAnchor_keepsHalt rfl rfl

theorem judgeCopies_running {s : State} (h : s.modes.mode ≠ .halted) (answers : List (Option (List Byte))) :
    (judgeCopies s answers).modes.mode ≠ .halted := by
  unfold judgeCopies
  split
  · split
    · simp [loadCopy]
    · simp [loadNothing]
  · exact h

theorem anchorReadAnswered_keepsHalt (a : ReadAnswer) (s : State) : s.KeepsHalt (anchorReadAnswered a s) := by
  refine .of_cases (fun _ q => ?_) fun hmode => ?_
  · simp only [anchorReadAnswered, q.loading]
    exact .refl s
  · unfold anchorReadAnswered
    split
    · exact State.haltQuiet_of_running hmode
    · dsimp only
      split_ifs
      · exact State.haltQuiet_of_running (judgeCopies_running (by simpa using hmode) _)
      · exact .of_modes hmode rfl

/-! ### The replay engine -/

theorem anchorRecovery_haltQuiet {s : State} (h : s.modes.mode ≠ .halted) (q : Recovery) (closed : Word) :
    (anchorRecovery q closed s).HaltQuiet := .of_modes h (by simp [anchorRecovery])

theorem finishRestoring_haltQuiet {s : State} (h : s.modes.mode ≠ .halted) (q : Recovery) :
    (finishRestoring q s).HaltQuiet := by
  unfold finishRestoring
  split
  · exact anchorRecovery_haltQuiet h q _
  · exact requestMarker_haltQuiet h _ _ fun _ _ _ => rfl

theorem failCheck_haltQuiet {s : State} (h : s.modes.mode ≠ .halted) (slot : Nat) : (failCheck slot s).HaltQuiet :=
  (logError_halt_keepsHalt _ _ _ _ _ s).quiet (State.haltQuiet_of_running h)

theorem failReplayRead_haltQuiet {s : State} (h : s.modes.mode ≠ .halted) (slot : Nat) :
    (failReplayRead slot s).HaltQuiet :=
  (logError_halt_keepsHalt _ _ _ _ _ s).quiet (State.haltQuiet_of_running h)

theorem judgeRollbackSlot_haltQuiet {s : State} (h : s.modes.mode ≠ .halted) (r : Rollback) (w : Walk)
    (head body : List Byte) : (judgeRollbackSlot r w head body s).HaltQuiet := by
  dsimp only [judgeRollbackSlot]
  split
  · exact failCheck_haltQuiet h _
  · split
    · exact queueClose_haltQuiet (by simpa using h) _
    · exact .of_modes h rfl

theorem judgeRecoverySlot_haltQuiet {s : State} (h : s.modes.mode ≠ .halted) (q : Recovery) (w : Walk)
    (head body : List Byte) : (judgeRecoverySlot q w head body s).HaltQuiet := by
  dsimp only [judgeRecoverySlot]
  split
  · exact failCheck_haltQuiet h _
  · split
    · exact finishRestoring_haltQuiet (by simpa using h) _
    · exact .of_modes h rfl

theorem endScan_haltQuiet {s : State} (h : s.modes.mode ≠ .halted) (q : Recovery) (k : Nat) :
    (endScan q k s).HaltQuiet := by
  dsimp only [endScan]
  split
  · exact anchorRecovery_haltQuiet (by simpa using h) _ _
  · exact .of_modes h rfl

theorem judgeScanSlot_haltQuiet {s : State} (h : s.modes.mode ≠ .halted) (q : Recovery) (k : Nat)
    (head body : List Byte) : (judgeScanSlot q k head body s).HaltQuiet := by
  dsimp only [judgeScanSlot]
  split
  · exact endScan_haltQuiet (by simpa using h) _ _
  · split
    · exact endScan_haltQuiet (by simpa using h) _ _
    · exact .of_modes h rfl

theorem replayBodyRead_haltQuiet {s : State} (h : s.modes.mode ≠ .halted) (body : List Byte) :
    (replayBodyRead body s).HaltQuiet := by
  have hs := State.haltQuiet_of_running h
  unfold replayBodyRead
  split
  · split
    · exact judgeRollbackSlot_haltQuiet h _ _ _ _
    · exact hs
  · split
    · exact judgeScanSlot_haltQuiet h _ _ _ _
    · exact judgeRecoverySlot_haltQuiet h _ _ _ _
    · exact hs
  · exact hs

theorem State.Quiet.not_running {s : State} (q : s.Quiet) : s.replay.running = false := by
  simp [ReplayEngine.running, q.rollback, q.recovery]

theorem replayHeadAnswered_keepsHalt (a : ReadAnswer) (slot : Nat) (s : State) :
    s.KeepsHalt (replayHeadAnswered a slot s) := by
  unfold replayHeadAnswered
  refine .of_cases (fun _ q => ?_) fun hmode => ?_
  · simp only [q.not_running, Bool.false_eq_true, if_false]
    exact .refl s
  · split
    · cases a with
      | done data => exact .of_modes hmode rfl
      | fault => exact failReplayRead_haltQuiet hmode slot
    · exact State.haltQuiet_of_running hmode

theorem replayBodyAnswered_keepsHalt (a : ReadAnswer) (slot : Nat) (s : State) :
    s.KeepsHalt (replayBodyAnswered a slot s) := by
  unfold replayBodyAnswered
  refine .of_cases (fun _ q => ?_) fun hmode => ?_
  · simp only [q.not_running, Bool.false_eq_true, if_false]
    exact .refl s
  · split
    · cases a with
      | done data => exact replayBodyRead_haltQuiet hmode data
      | fault => exact failReplayRead_haltQuiet hmode slot
    · exact State.haltQuiet_of_running hmode

theorem restoreDone_haltQuiet {s : State} (h : s.modes.mode ≠ .halted) : (restoreDone s).HaltQuiet := by
  have hs := State.haltQuiet_of_running h
  unfold restoreDone
  split
  · split
    · dsimp only
      split
      · exact queueClose_haltQuiet (by simpa using h) _
      · exact .of_modes h rfl
    · exact hs
  · split
    · dsimp only
      split
      · exact finishRestoring_haltQuiet (by simpa using h) _
      · exact .of_modes h rfl
    · exact hs
  · exact hs

theorem restoreAnswered_keepsHalt (a : WriteAnswer) (slot : Nat) (epoch line : Word) (s : State) :
    s.KeepsHalt (restoreAnswered a slot epoch line s) := by
  cases a with
  | done =>
    refine .of_cases (fun _ q => ?_) restoreDone_haltQuiet
    simp only [restoreAnswered, restoreDone, q.rollback, q.recovery]
    exact .refl s
  | fault =>
    simp only [restoreAnswered, restoreFaulted]
    split
    · exact logError_halt_keepsHalt _ _ _ _ _ s
    · exact .refl s

/-! ### Captures, records and data writes -/

theorem endCapture_haltQuiet {s : State} (h : s.modes.mode ≠ .halted) (i : Fin 4) (c : Capture) :
    (endCapture i c s).HaltQuiet := noteCapturesSettled_haltQuiet (by simpa using h)

theorem releaseCapture_modes (i : Fin 4) (c : Capture) (s : State) : (releaseCapture i c s).modes = s.modes := by
  simp [releaseCapture]

theorem faultCapture_haltQuiet {s : State} (h : s.modes.mode ≠ .halted) (i : Fin 4) (c : Capture) :
    (faultCapture i c s).HaltQuiet := by
  refine noteCapturesSettled_haltQuiet ?_
  rw [releaseCapture_modes]
  simpa using reportDamage_running h _ _ _

theorem assignLine_haltQuiet {s : State} (h : s.modes.mode ≠ .halted) (i : Fin 4) (c : Capture) (data : List Byte) :
    (assignLine i c data s).HaltQuiet := by
  dsimp only [assignLine]
  split
  · exact (fireTrigger_keepsHalt _ _).quiet (.of_modes h rfl)
  · exact .of_modes h rfl

theorem commitPoint_haltQuiet {s : State} (h : s.modes.mode ≠ .halted) (info : RecordInfo) :
    (commitPoint info s).HaltQuiet := by
  have hs := State.haltQuiet_of_running h
  unfold commitPoint
  split
  · split
    · dsimp only
      split_ifs
      · exact (reexamine_keepsHalt _).quiet (.of_modes h (by simp))
      · exact .of_modes h (by simp)
    · exact hs
  · exact hs

theorem closeDurable_haltQuiet {s : State} (h : s.modes.mode ≠ .halted) (info : RecordInfo) :
    (closeDurable info s).HaltQuiet := by
  have hs := State.haltQuiet_of_running h
  unfold closeDurable
  split
  · split
    · exact .of_modes h (by simp [endRollback])
    · exact hs
  · split
    · exact anchorRecovery_haltQuiet h _ _
    · exact hs
  · exact hs

theorem recordDurable_keepsHalt (info : RecordInfo) (s : State) : s.KeepsHalt (recordDurable info s) := by
  unfold recordDurable
  split
  · exact .refl s
  · next hmode =>
    have hmode' : (bump .records s).modes.mode ≠ .halted := by simpa using hmode
    refine .of_running hmode ?_
    dsimp only
    split
    · split
      · exact endCapture_haltQuiet hmode' _ _
      · exact State.haltQuiet_of_running hmode'
    · exact commitPoint_haltQuiet hmode' info
    · exact closeDurable_haltQuiet hmode' info

theorem recordFaulted_keepsHalt (info : RecordInfo) (s : State) : s.KeepsHalt (recordFaulted info s) := by
  unfold recordFaulted
  split_ifs
  · exact .refl s
  · exact logError_halt_keepsHalt _ _ _ _ _ s
  · exact logError_halt_keepsHalt _ _ _ _ _ s

theorem setTable_modify_keepsHalt (n : Word) (f : LiveEpoch → LiveEpoch) (s : State) :
    s.KeepsHalt (s.setTable (s.epochs.table.modify n f)) :=
  .of_quiet rfl fun q => { q with table := by simp [q.table, EpochTable.modify_empty] }

theorem dataWriteAnswered_keepsHalt (a : WriteAnswer) (n : Word) (e : MemoryEntry) (s : State) :
    s.KeepsHalt (dataWriteAnswered a n e s) := by
  cases a with
  | done => exact (setTable_modify_keepsHalt n _ s).trans (drainNotice_keepsHalt _)
  | fault =>
    exact ((setTable_modify_keepsHalt n _ s).trans (reportDamage_keepsHalt _ _ _ _)).trans (drainNotice_keepsHalt _)

theorem passWriteAnswered_keepsHalt (a : WriteAnswer) (e : MemoryEntry) (s : State) :
    s.KeepsHalt (passWriteAnswered a e s) := by
  cases a with
  | done => exact .refl s
  | fault => exact logError_keepsHalt _ _ _ _ s

theorem foldl_endTimedOut_keepsHalt (ended : List MemoryEntry) (s : State) :
    s.KeepsHalt (ended.foldl endTimedOut s) := by
  have hone (e : MemoryEntry) (s : State) : s.KeepsHalt (endTimedOut s e) := by
    unfold endTimedOut
    split
    · exact .of_eq
    · split
      · exact .refl s
      · exact .of_eq
    · exact anchorLineAnswered_keepsHalt _ _ s
    all_goals exact .refl s
  induction ended generalizing s with
  | nil => exact .refl s
  | cons e rest ih => exact (hone e s).trans (ih _)

theorem setMemory_keepsHalt (x : MemoryPort) (s : State) : s.KeepsHalt (s.setMemory x) := .of_eq

theorem timeOut_keepsHalt (s : State) : s.KeepsHalt (timeOut s) := by
  unfold timeOut
  split
  · exact .refl s
  · exact ((logError_halt_keepsHalt _ _ _ _ _ s).trans (setMemory_keepsHalt _ _)).trans
      (foldl_endTimedOut_keepsHalt _ _)

/-! ### Writes, captures and grants -/

theorem takePass_keepsHalt (r : HostRequest) (s : State) : s.KeepsHalt (takePass r s) :=
  .of_quiet rfl fun q =>
    { q with hold := fun e he => (List.mem_append.mp he).elim (q.hold e) fun he => by rw [List.mem_singleton.mp he] }

theorem takeJournal_modes (r : HostRequest) (window : Fin 8) (n : Word) (s : State) :
    (takeJournal r window n s).modes = s.modes := by
  dsimp only [takeJournal]
  (repeat' split) <;> simp [appendHold]

theorem EpochTable.opened_empty : EpochTable.opened ⟨none, none⟩ = none := rfl

theorem takeWrite_keepsHalt (r : HostRequest) (journaled : Bool) (s : State) :
    s.KeepsHalt (takeWrite r journaled s) := by
  have hdiscard : s.KeepsHalt (discardDeferred (fun d => d.line == r.line) s) := .of_eq
  have hdone (u : State) : u.KeepsHalt (bump .hostWrites (answerHost (.done []) u)) := .of_eq
  unfold takeWrite
  refine State.KeepsHalt.trans ?_ (hdone _)
  refine hdiscard.trans ?_
  split
  · next e w hopened _ =>
    refine .of_cases (fun _ q => ?_) fun hmode => .of_modes hmode (by rw [takeJournal_modes])
    rw [q.table, EpochTable.opened_empty] at hopened
    cases hopened
  · exact takePass_keepsHalt r _

theorem offerWrite_keepsHalt (r : HostRequest) (journaled : Bool) (s : State) :
    s.KeepsHalt (offerWrite r journaled s) := by
  unfold offerWrite
  split
  · exact takeWrite_keepsHalt r journaled s
  · exact .of_eq

theorem expireRequest_keepsHalt (r : HostRequest) (s : State) : s.KeepsHalt (expireRequest r s) := .of_eq

theorem discardSlot_keepsHalt (i : Fin 4) (s : State) : s.KeepsHalt (discardSlot i s) := .of_eq

theorem hostReadAnswered_keepsHalt (owner : ReadOwner) (a : ReadAnswer) (s : State) :
    s.KeepsHalt (hostReadAnswered owner a s) := .of_eq

theorem fetchAnswered_keepsHalt (i : Fin 4) (a : ReadAnswer) (s : State) : s.KeepsHalt (fetchAnswered i a s) := .of_eq

theorem expireWait_keepsHalt (s : State) : s.KeepsHalt (expireWait s) := by
  unfold expireWait
  split
  · exact .refl s
  · exact (elapseTo_keepsHalt _ s).trans (expireRequest_keepsHalt _ _)

theorem expireDeferred_keepsHalt (i : Fin 4) (s : State) : s.KeepsHalt (expireDeferred i s) := by
  unfold expireDeferred
  split
  · exact .refl s
  · split
    · dsimp only
      split_ifs
      · exact .of_eq
      · exact .refl s
      · exact (elapse_keepsHalt _ s).trans (discardSlot_keepsHalt i _)
    · exact .refl s

theorem clearLine_keepsHalt (line : Word) (s : State) : s.KeepsHalt (clearLine line s) := by
  unfold clearLine
  split
  · exact .refl s
  · exact .of_eq

theorem firstEligible_of_pass (entries : List HoldEntry) (older : List Word) (h : ∀ e ∈ entries, e.cls = .pass) :
    firstEligible older entries = none := by
  induction entries generalizing older with
  | nil => rfl
  | cons e rest ih =>
    have hwants : ¬ e.wantsCapture = true := fun hw => ((HoldEntry.wantsCapture_iff e).mp hw).1 (h e (by simp))
    rw [firstEligible, if_neg (by simp [hwants])]
    exact ih _ fun x hx => h x (by simp [hx])

theorem offerCapture_keepsHalt (s : State) : s.KeepsHalt (offerCapture s) := by
  refine .of_cases (fun _ q => ?_) fun hmode => ?_
  · simp only [offerCapture, firstEligible_of_pass _ _ q.hold]
    exact .refl s
  · have hs := State.haltQuiet_of_running hmode
    unfold offerCapture
    split
    · split
      · split
        · exact (updateSpace_keepsHalt _).quiet (.of_modes hmode (by simp [startCapture]))
        · exact hs
      · exact hs
    · exact hs

theorem releaseHead_keepsHalt (s : State) : s.KeepsHalt (releaseHead s) := by
  unfold releaseHead
  split
  · exact .refl s
  · next e rest hentries =>
    have hrest : s.KeepsHalt (passTurn .host (enqueue (writeEntry (.holdRelease e.cls.epoch) e.line e.offset e.data)
        (s.setHold { s.hold with entries := rest }))) :=
      .of_quiet rfl fun q => { q with hold := fun x hx => q.hold x (hentries ▸ List.mem_cons_of_mem e hx) }
    dsimp only
    split
    · exact hrest
    · exact hrest.trans (setTable_modify_keepsHalt _ _ _)

theorem grantHostRead_keepsHalt (s : State) : s.KeepsHalt (grantHostRead s) := by
  unfold grantHostRead
  split
  · exact .refl s
  · exact .of_eq rfl rfl rfl rfl rfl rfl rfl

theorem grantFetch_keepsHalt (i : Fin 4) (s : State) : s.KeepsHalt (grantFetch i s) := by
  unfold grantFetch
  split
  · exact .refl s
  · exact .of_eq rfl rfl rfl rfl rfl rfl rfl

theorem grantCapture_keepsHalt (s : State) : s.KeepsHalt (grantCapture s) := by
  unfold grantCapture
  split
  · exact .refl s
  · next i rest hreads =>
    split
    · exact .refl s
    · exact .of_quiet rfl fun q => absurd (hreads.symm.trans q.reads) (by simp)

theorem grantRecord_keepsHalt (s : State) : s.KeepsHalt (grantRecord s) := by
  unfold grantRecord
  split
  · exact .refl s
  · next w rest hwrites => exact .of_quiet rfl fun q => absurd (hwrites.symm.trans q.writes) (by simp)

theorem grantAnchor_keepsHalt (s : State) : s.KeepsHalt (grantAnchor s) := by
  unfold grantAnchor
  split
  · exact .refl s
  · refine .of_quiet rfl fun q => ?_
    have hunit : s.anchor.lineGranted =
        { s.anchor with write := s.anchor.write.map fun w => { w with granted := w.granted + 1 } } := by
      simp [AnchorUnit.lineGranted, q.loading]
    rw [hunit]
    exact { q with pendingUpdate := q.pendingUpdate }

theorem grantReplay_keepsHalt (s : State) : s.KeepsHalt (grantReplay s) := by
  unfold grantReplay
  split
  · exact .refl s
  · next q rest hrequests => exact .of_quiet rfl fun q => absurd (hrequests.symm.trans q.requests) (by simp)

/-! ### Every move and every step -/

theorem judgeCommit_running {s : State} (h : s.judgeCommit ≠ .mode) : s.modes.mode = .active := by
  by_contra hmode
  exact h (by simp [State.judgeCommit, hmode])

theorem thaw_keepsHalt (s : State) : s.KeepsHalt (thaw s) := by
  have hclear : s.KeepsHalt (s.setModes { s.modes with freeze := false }) :=
    ⟨fun h => h, fun _ hmode => ⟨hmode, rfl⟩⟩
  dsimp only [thaw]
  split
  · exact (hclear.trans (reexamine_keepsHalt _)).trans (updateSpace_keepsHalt _)
  · exact hclear

theorem State.Quiet.slot {s : State} (q : s.Quiet) (i : Fin 4) : s.capture.slots[i] = none := by
  rw [q.slots]
  fin_cases i <;> rfl

/-- A capture read is answered for a busy slot outside HALTED only. -/
theorem capture_keepsHalt {s : State} {rest : List MemoryEntry} {i : Fin 4} {c : Capture} {f : State → State}
    (hslot : s.capture.slots[i] = some c)
    (h : (s.answered rest).modes.mode ≠ .halted → (f (s.answered rest)).HaltQuiet) :
    s.KeepsHalt (updateSpace (f (s.answered rest))) :=
  .of_cases (fun _ q => absurd (hslot.symm.trans (q.slot i)) (by simp))
    fun hmode => (updateSpace_keepsHalt _).quiet (h hmode)

/-- Every move keeps the quiet of HALTED, and none leaves HALTED or changes its cause. -/
theorem Moves.keepsHalt {s t : State} (hmove : Moves s t) : s.KeepsHalt t := by
  have hspace {u v : State} (h : u.KeepsHalt v) : u.KeepsHalt (updateSpace v) := h.trans (updateSpace_keepsHalt v)
  have hanswered {rest : List MemoryEntry} {v : State} (h : (s.answered rest).KeepsHalt v) : s.KeepsHalt v :=
    State.KeepsHalt.trans (t := s.answered rest) (.of_eq rfl rfl rfl rfl rfl rfl rfl) h
  /- A command that is taken outside HALTED only. -/
  have hcommand {v : State} (hs : s.modes.mode ≠ .halted) (h : v.HaltQuiet) :
      s.KeepsHalt (respond .ok [] (updateSpace v)) :=
    .of_running hs ((updateSpace_keepsHalt v).quiet h)
  cases hmove with
  | idle => exact .refl s
  | ticked => exact elapse_keepsHalt 1 s
  | refused a => exact .of_eq
  | readForwarded r => exact .of_eq
  | writeOffered r journaled hjudge => exact hspace (offerWrite_keepsHalt r journaled s)
  | waitingTaken r journaled hjudge hplace => exact hspace (takeWrite_keepsHalt r journaled s)
  | lineCleared line => exact clearLine_keepsHalt line s
  | waitExpired => exact expireWait_keepsHalt s
  | deferredExpired i => exact expireDeferred_keepsHalt i s
  | captureOffered => exact offerCapture_keepsHalt s
  | headReleased => exact hspace (releaseHead_keepsHalt s)
  | hostReadGranted => exact grantHostRead_keepsHalt s
  | fetchGranted i => exact grantFetch_keepsHalt i s
  | captureGranted => exact grantCapture_keepsHalt s
  | recordGranted => exact grantRecord_keepsHalt s
  | anchorGranted => exact grantAnchor_keepsHalt s
  | replayGranted => exact grantReplay_keepsHalt s
  | issued =>
    unfold issue
    split
    · exact .of_eq rfl rfl rfl rfl rfl rfl rfl
    · exact .refl s
  | hostReadAnswer _ _ a => exact hanswered (hostReadAnswered_keepsHalt _ a _)
  | fetchDropped => exact hanswered (.refl _)
  | fetchAnswer _ _ a => exact hanswered (fetchAnswered_keepsHalt _ a _)
  | dataWriteAnswer _ _ a => exact hanswered (hspace (dataWriteAnswered_keepsHalt a _ _ _))
  | passWriteAnswer _ _ a => exact hanswered (passWriteAnswered_keepsHalt a _ _)
  | captureDropped => exact hanswered (.refl _)
  | captureDone _ _ hslot _ data => exact capture_keepsHalt (f := assignLine _ _ data) hslot fun h => assignLine_haltQuiet h _ _ data
  | captureFault _ _ hslot => exact capture_keepsHalt (f := faultCapture _ _) hslot fun h => faultCapture_haltQuiet h _ _
  | captureCancelled _ _ hslot =>
    exact capture_keepsHalt (f := fun s => noteCapturesSettled (releaseCapture _ _ s)) hslot
      fun h => noteCapturesSettled_haltQuiet (by rwa [releaseCapture_modes])
  | recordHeadDone => exact hanswered (hspace (recordDurable_keepsHalt _ _))
  | recordBodyDone => exact hanswered (.refl _)
  | recordFault => exact hanswered (hspace (recordFaulted_keepsHalt _ _))
  | firstAnchorLine _ _ a => exact hanswered (anchorLineAnswered_keepsHalt _ a _)
  | secondAnchorLine _ _ a => exact hanswered (hspace (anchorLineAnswered_keepsHalt _ a _))
  | anchorReadAnswer _ _ a => exact hanswered (hspace (anchorReadAnswered_keepsHalt a _))
  | replayHeadAnswer _ _ a => exact hanswered (hspace (replayHeadAnswered_keepsHalt a _ _))
  | replayBodyAnswer _ _ a => exact hanswered (hspace (replayBodyAnswered_keepsHalt a _ _))
  | restoreAnswer _ _ a => exact hanswered (hspace (restoreAnswered_keepsHalt a _ _ _ _))
  | timedOut _ moment => exact hspace ((elapse_keepsHalt _ s).trans (timeOut_keepsHalt _))
  | unfit => exact hspace (timeOut_keepsHalt s)
  | ageExpired moment => exact hspace ((elapse_keepsHalt _ s).trans (fireTrigger_keepsHalt _ _))
  | managed => exact .of_eq
  | emptyCommitted e hjudge =>
    have hmode : s.modes.mode ≠ .halted := by simp [judgeCommit_running, hjudge]
    exact hcommand hmode (.of_modes hmode (by simp))
  | commitStarted e hjudge =>
    have hmode : s.modes.mode ≠ .halted := by simp [judgeCommit_running, hjudge]
    exact hcommand hmode (commitOpen_haltQuiet hmode _)
  | emptyQuiesced e hjudge =>
    have hmode : s.modes.mode ≠ .halted := by simp [judgeCommit_running, hjudge]
    exact hcommand hmode (State.haltQuiet_of_running (by simp [quiesceEmpty]))
  | quiesceStarted e hjudge =>
    have hmode : s.modes.mode ≠ .halted := by simp [judgeCommit_running, hjudge]
    exact hcommand hmode (drainNotice_haltQuiet (by simp))
  | aborted hmode =>
    have hmode' : s.modes.mode ≠ .halted := by simp [hmode]
    exact hcommand hmode' ((noteEpochsDrained_keepsHalt _).quiet (noteCapturesSettled_haltQuiet (by simp [hmode])))
  | resumed hmode =>
    have hmode' : s.modes.mode ≠ .halted := by rintro h; simp [h] at hmode
    exact hcommand hmode' (State.haltQuiet_of_running (by simp [resumeActive]))
  | bypassed hmode => exact .of_running (by simp [hmode]) (State.haltQuiet_of_running (by simp [respond]))
  | storeStarted => exact .of_quiet rfl fun q => { q with pendingUpdate := q.pendingUpdate }
  | pinned => exact .of_eq
  | frozen p =>
    have hset : s.KeepsHalt ((s.setPins p).setModes { s.modes with freeze := true }) :=
      ⟨fun h => h, fun _ hmode => ⟨hmode, rfl⟩⟩
    refine hset.trans ?_
    exact .of_eq
  | thawed p => exact State.KeepsHalt.trans (t := s.setPins p) .of_eq (thaw_keepsHalt _)
  | resetAsserted => exact .of_eq

theorem afterReset_haltQuiet (pfi : Bool) (straps : BitVec 2) (csLow : Bool) (rest : List Instr) :
    (State.afterReset pfi straps csLow rest).HaltQuiet := State.haltQuiet_of_running (by simp [State.afterReset])

/-- Settles O59: every move keeps the quiet of HALTED and the mode and cause with it, and the one command that is no move
is RESET_RELEASE. -/
theorem haltedUntilReset : Obligations.HaltedUntilReset := by
  refine ⟨fun s t h hnext => ?quiet, fun s t h hmode hnext => ?stands⟩
  case quiet =>
    exact step_keeps (P := State.HaltQuiet) (fun _ _ h => h) afterReset_haltQuiet
      (fun _ _ hmove h => hmove.keepsHalt.quiet h) h hnext
  case stands =>
    obtain ⟨rest, hmove⟩ | ⟨straps, csLow, rest, hqueue, -⟩ := step_moves hnext
    · exact .inl (hmove.keepsHalt.stands h hmode)
    · exact .inr ⟨straps, csLow, rest, hqueue⟩

end Sys2Proof.Machine

/-! The live epoch table in each mode (R4, R75, R82, R88, R98, R138): what each sequence makes of its shape, and the
settlement of O60. -/

namespace Sys2Proof.Machine

-- One theorem at a time: the proofs below would otherwise wait for one another in many threads.
set_option Elab.async false

/-! ### The numbers and states of the live epochs -/

/-- What the shape of the table speaks of: the number and the state of an epoch. -/
def LiveEpoch.key (e : LiveEpoch) : Word × EpochState := (e.number, e.state)

/-- The numbers and states of the live epochs. -/
def EpochTable.keys (t : EpochTable) : List (Word × EpochState) := t.epochs.map LiveEpoch.key

theorem EpochTable.keys_eq_nil {t : EpochTable} : t.keys = [] ↔ t.epochs = [] := List.map_eq_nil_iff

theorem EpochTable.epochs_eq_nil {t : EpochTable} (h : t.epochs = []) : t = ⟨none, none⟩ := by
  rcases t with ⟨a, b⟩
  cases a <;> cases b <;> simp [EpochTable.epochs] at h ⊢

theorem EpochTable.epochs_map (t : EpochTable) (f : LiveEpoch → LiveEpoch) : (t.map f).epochs = t.epochs.map f := by
  rcases t with ⟨a, b⟩
  cases a <;> cases b <;> rfl

theorem EpochTable.keys_map {t : EpochTable} {f : LiveEpoch → LiveEpoch} (hf : ∀ e, (f e).key = e.key) :
    (t.map f).keys = t.keys := by
  simp [EpochTable.keys, EpochTable.epochs_map, hf]

theorem EpochTable.keys_modify {t : EpochTable} {n : Word} {f : LiveEpoch → LiveEpoch} (hf : ∀ e, (f e).key = e.key) :
    (t.modify n f).keys = t.keys :=
  EpochTable.keys_map fun e => by split <;> simp [hf]

/-- A change of the state of epoch `n` alone. -/
theorem EpochTable.keys_setState (t : EpochTable) (n : Word) (st : EpochState) :
    (t.modify n fun e => { e with state := st }).keys = t.keys.map fun k => if k.1 = n then (n, st) else k := by
  simp only [EpochTable.keys, EpochTable.modify, EpochTable.epochs_map, List.map_map]
  refine List.map_congr_left fun e _ => ?_
  by_cases h : e.number = n <;> simp [LiveEpoch.key, h]

theorem EpochTable.epochs_remove (t : EpochTable) (n : Word) :
    (t.remove n).epochs = t.epochs.filter fun e => e.number != n := by
  rcases t with ⟨a, b⟩
  cases a <;> cases b <;> simp [EpochTable.remove, EpochTable.epochs, Option.filter, List.filter_cons] <;>
    (repeat' split) <;> simp_all

theorem EpochTable.keys_remove (t : EpochTable) (n : Word) :
    (t.remove n).keys = t.keys.filter fun k => k.1 != n := by
  simp [EpochTable.keys, EpochTable.epochs_remove, List.filter_map, Function.comp_def, LiveEpoch.key]

theorem EpochTable.epochs_insert_of_nil {t : EpochTable} (h : t.epochs = []) (e : LiveEpoch) :
    (t.insert e).epochs = [e] := by
  rw [EpochTable.epochs_eq_nil h]
  rfl

theorem EpochTable.epochs_insert_of_one {t : EpochTable} {x : LiveEpoch} (h : t.epochs = [x]) (e : LiveEpoch) :
    (t.insert e).epochs = [e, x] ∨ (t.insert e).epochs = [x, e] := by
  rcases t with ⟨a, b⟩
  cases a <;> cases b <;> simp_all [EpochTable.epochs, EpochTable.insert]

theorem EpochTable.keys_insert_of_nil {t : EpochTable} (h : t.keys = []) (e : LiveEpoch) :
    (t.insert e).keys = [e.key] := by
  simp [EpochTable.keys, EpochTable.epochs_insert_of_nil (EpochTable.keys_eq_nil.mp h)]

theorem EpochTable.keys_insert_of_one {t : EpochTable} {k : Word × EpochState} (h : t.keys = [k]) (e : LiveEpoch) :
    (t.insert e).keys = [e.key, k] ∨ (t.insert e).keys = [k, e.key] := by
  obtain ⟨x, hx, rfl⟩ := List.map_eq_singleton_iff.mp h
  exact (EpochTable.epochs_insert_of_one hx e).imp (fun h => by simp [EpochTable.keys, h])
    fun h => by simp [EpochTable.keys, h]

theorem EpochTable.mem_keys {t : EpochTable} {e : LiveEpoch} (h : e ∈ t.epochs) : e.key ∈ t.keys :=
  List.mem_map_of_mem h

theorem EpochTable.opened_mem {t : EpochTable} {e : LiveEpoch} (h : t.opened = some e) :
    e ∈ t.epochs ∧ e.state = .opened := by
  have hfind : t.epochs.find? (fun e => e.state == .opened) = some e := h
  exact ⟨List.mem_of_find?_eq_some hfind, by simpa using List.find?_some hfind⟩

theorem EpochTable.find_mem {t : EpochTable} {n : Word} {e : LiveEpoch} (h : t.find n = some e) :
    e ∈ t.epochs ∧ e.number = n :=
  ⟨List.mem_of_find?_eq_some h, by simpa using List.find?_some h⟩

/-- The number that follows a number is another. -/
theorem Word.succ_ne (n : Word) : n + 1#32 ≠ n := by bv_omega

/-! ### The shape, said of numbers and states -/

/-- `EpochController.ActiveShape` of the numbers and states. -/
def ActiveKeys (keys : List (Word × EpochState)) (commit : Option CommitSequence) : Prop :=
  (∃ n, keys = [(n, .opened)] ∧ commit = none) ∨
  (∃ x st, (keys = [(x + 1#32, .opened), (x, st)] ∨ keys = [(x, st), (x + 1#32, .opened)]) ∧
    ((st = .failed ∧ commit = none) ∨
     (st = .committing ∧ ∃ q, commit = some q ∧ q.epoch = x ∧ q.purpose = .commit ∧ q.phase ≠ .anchorWait)))

/-- `EpochController.RollbackShape` of the numbers and states. -/
def RollbackKeys (keys : List (Word × EpochState)) (commit : Option CommitSequence) : Prop :=
  commit = none ∧ keys ≠ [] ∧ ∀ k ∈ keys, k.2 = .rollingBack

/-- `EpochController.QuiescingShape` of the numbers and states. -/
def QuiescingKeys (keys : List (Word × EpochState)) (commit : Option CommitSequence) : Prop :=
  ∃ q, commit = some q ∧ q.purpose = .quiesce ∧
    ((q.phase = .anchorWait ∧ keys = []) ∨ (q.phase ≠ .anchorWait ∧ keys = [(q.epoch, .committing)]))

theorem LiveEpoch.key_eq_iff (e : LiveEpoch) (n : Word) (st : EpochState) :
    e.key = (n, st) ↔ e.number = n ∧ e.state = st := by
  simp [LiveEpoch.key]

theorem EpochController.activeShape_iff (e : EpochController) : e.ActiveShape ↔ ActiveKeys e.table.keys e.commit := by
  unfold EpochController.ActiveShape ActiveKeys EpochTable.keys
  constructor
  · rintro (⟨o, he, ho, hc⟩ | ⟨o, x, he, ho, hn, hc⟩)
    · exact .inl ⟨o.number, by simp [he, LiveEpoch.key, ho], hc⟩
    · exact .inr ⟨x.number, x.state, he.imp (fun h => by simp [h, LiveEpoch.key, ho, hn])
        fun h => by simp [h, LiveEpoch.key, ho, hn], hc⟩
  · rintro (⟨n, he, hc⟩ | ⟨n, st, he, hc⟩)
    · obtain ⟨o, ho, hkey⟩ := List.map_eq_singleton_iff.mp he
      exact .inl ⟨o, ho, ((o.key_eq_iff _ _).mp hkey).2, hc⟩
    · refine .inr ?_
      obtain he | he := he
      · obtain ⟨o, rest, hrest, ho, hx⟩ := List.map_eq_cons_iff.mp he
        obtain ⟨x, rfl, hkey⟩ := List.map_eq_singleton_iff.mp hx
        obtain ⟨hn, hstate⟩ := (o.key_eq_iff _ _).mp ho
        obtain ⟨rfl, rfl⟩ := (x.key_eq_iff _ _).mp hkey
        exact ⟨o, x, .inl hrest, hstate, hn, hc⟩
      · obtain ⟨x, rest, hrest, hx, ho⟩ := List.map_eq_cons_iff.mp he
        obtain ⟨o, rfl, hkey⟩ := List.map_eq_singleton_iff.mp ho
        obtain ⟨hn, hstate⟩ := (o.key_eq_iff _ _).mp hkey
        obtain ⟨rfl, rfl⟩ := (x.key_eq_iff _ _).mp hx
        exact ⟨o, x, .inr hrest, hstate, hn, hc⟩

theorem EpochController.rollbackShape_iff (e : EpochController) :
    e.RollbackShape ↔ RollbackKeys e.table.keys e.commit := by
  simp [EpochController.RollbackShape, RollbackKeys, EpochTable.keys, LiveEpoch.key]

theorem EpochController.quiescingShape_iff (e : EpochController) :
    e.QuiescingShape ↔ QuiescingKeys e.table.keys e.commit := by
  unfold EpochController.QuiescingShape QuiescingKeys EpochTable.keys
  refine exists_congr fun q => and_congr_right fun _ => and_congr_right fun _ => or_congr ?_ (and_congr_right fun _ => ?_)
  · rw [List.map_eq_nil_iff]
  · rw [List.map_eq_singleton_iff]
    refine exists_congr fun x => and_congr_right fun _ => ?_
    rw [x.key_eq_iff]
    exact and_comm

/-- The shape of the table that goes with a mode, `rolling` saying whether a rollback runs. -/
def ShapeOf (mode : Mode) (rolling : Bool) (keys : List (Word × EpochState)) (commit : Option CommitSequence) : Prop :=
  match mode with
  | .active => if rolling then RollbackKeys keys commit else ActiveKeys keys commit
  | .quiescing => QuiescingKeys keys commit
  | _ => keys = [] ∧ commit = none

/-- `State.EpochShape` in parts: which sequence runs in which mode, and the shape of the table. -/
theorem State.epochShape_iff (s : State) :
    s.EpochShape ↔
      (s.replay.rollback.isSome = true → s.modes.mode = .active) ∧
      (s.replay.recovery.isSome = true → s.modes.mode = .recovering) ∧
      (s.anchor.loading.isSome = true → s.modes.mode = .loading) ∧
      ShapeOf s.modes.mode s.replay.rollback.isSome s.epochs.table.keys s.epochs.commit := by
  unfold State.EpochShape ShapeOf
  refine and_congr_right fun _ => and_congr_right fun _ => and_congr_right fun _ => ?_
  cases s.modes.mode <;> simp only [EpochController.rollbackShape_iff, EpochController.activeShape_iff,
    EpochController.quiescingShape_iff, EpochTable.keys_eq_nil]

/-- From `s` to `t` nothing has changed of what the shape speaks of. -/
structure State.SameShape (s t : State) : Prop where
  mode : t.modes.mode = s.modes.mode
  rollback : t.replay.rollback.isSome = s.replay.rollback.isSome
  recovery : t.replay.recovery.isSome = s.replay.recovery.isSome
  loading : t.anchor.loading.isSome = s.anchor.loading.isSome
  keys : t.epochs.table.keys = s.epochs.table.keys
  commit : t.epochs.commit = s.epochs.commit

theorem State.SameShape.refl (s : State) : s.SameShape s := ⟨rfl, rfl, rfl, rfl, rfl, rfl⟩

theorem State.SameShape.trans {s t u : State} (h : s.SameShape t) (h' : t.SameShape u) : s.SameShape u :=
  ⟨h'.mode.trans h.mode, h'.rollback.trans h.rollback, h'.recovery.trans h.recovery, h'.loading.trans h.loading,
    h'.keys.trans h.keys, h'.commit.trans h.commit⟩

theorem State.SameShape.of_eq {s t : State} (hmode : t.modes.mode = s.modes.mode := by simp)
    (hepochs : t.epochs = s.epochs := by simp) (hreplay : t.replay = s.replay := by simp)
    (hloading : t.anchor.loading = s.anchor.loading := by simp) : s.SameShape t :=
  ⟨hmode, by rw [hreplay], by rw [hreplay], by rw [hloading], by rw [hepochs], by rw [hepochs]⟩

theorem State.EpochShape.same {s t : State} (h : s.EpochShape) (hsame : s.SameShape t) : t.EpochShape := by
  rw [State.epochShape_iff] at h ⊢
  rwa [hsame.mode, hsame.rollback, hsame.recovery, hsame.loading, hsame.keys, hsame.commit]

/-! ### What the shape says in each mode -/

theorem State.EpochShape.rollback_active {s : State} (h : s.EpochShape) (hr : s.replay.rollback.isSome = true) :
    s.modes.mode = .active := h.1 hr

theorem State.EpochShape.recovery_recovering {s : State} (h : s.EpochShape) (hr : s.replay.recovery.isSome = true) :
    s.modes.mode = .recovering := h.2.1 hr

theorem State.EpochShape.loading_loading {s : State} (h : s.EpochShape) (hl : s.anchor.loading.isSome = true) :
    s.modes.mode = .loading := h.2.2.1 hl

theorem State.EpochShape.rollback_none {s : State} (h : s.EpochShape) (hmode : s.modes.mode ≠ .active) :
    s.replay.rollback = none := by
  by_contra hr
  exact hmode (h.rollback_active (Option.isSome_iff_ne_none.mpr hr))

theorem State.EpochShape.recovery_none {s : State} (h : s.EpochShape) (hmode : s.modes.mode ≠ .recovering) :
    s.replay.recovery = none := by
  by_contra hr
  exact hmode (h.recovery_recovering (Option.isSome_iff_ne_none.mpr hr))

theorem State.EpochShape.loading_none {s : State} (h : s.EpochShape) (hmode : s.modes.mode ≠ .loading) :
    s.anchor.loading = none := by
  by_contra hl
  exact hmode (h.loading_loading (Option.isSome_iff_ne_none.mpr hl))

theorem State.EpochShape.activeKeys {s : State} (h : s.EpochShape) (hmode : s.modes.mode = .active)
    (hr : s.replay.rollback = none) : ActiveKeys s.epochs.table.keys s.epochs.commit := by
  have hshape := ((State.epochShape_iff s).mp h).2.2.2
  simpa [ShapeOf, hmode, hr] using hshape

theorem State.EpochShape.rollbackKeys {s : State} (h : s.EpochShape) (hr : s.replay.rollback.isSome = true) :
    RollbackKeys s.epochs.table.keys s.epochs.commit := by
  have hshape := ((State.epochShape_iff s).mp h).2.2.2
  simpa [ShapeOf, h.rollback_active hr, hr] using hshape

theorem State.EpochShape.quiescingKeys {s : State} (h : s.EpochShape) (hmode : s.modes.mode = .quiescing) :
    QuiescingKeys s.epochs.table.keys s.epochs.commit := by
  have hshape := ((State.epochShape_iff s).mp h).2.2.2
  simpa [ShapeOf, hmode] using hshape

/-- Outside ACTIVE and QUIESCING no epoch is live and no commit sequence runs. -/
theorem State.EpochShape.empty {s : State} (h : s.EpochShape) (hactive : s.modes.mode ≠ .active)
    (hquiescing : s.modes.mode ≠ .quiescing) : s.epochs.table.keys = [] ∧ s.epochs.commit = none := by
  have hshape := ((State.epochShape_iff s).mp h).2.2.2
  cases hmode : s.modes.mode <;> simp_all [ShapeOf]

/-- A state of ACTIVE or QUIESCING, with no sequence of another mode. -/
theorem State.epochShape_of_active {s : State} (hmode : s.modes.mode = .active) (hrollback : s.replay.rollback = none)
    (hrecovery : s.replay.recovery = none) (hloading : s.anchor.loading = none)
    (hkeys : ActiveKeys s.epochs.table.keys s.epochs.commit) : s.EpochShape := by
  rw [State.epochShape_iff]
  simp [hmode, hrollback, hrecovery, hloading, ShapeOf, hkeys]

theorem State.epochShape_of_rollback {s : State} (hmode : s.modes.mode = .active)
    (hrollback : s.replay.rollback.isSome = true) (hrecovery : s.replay.recovery = none)
    (hloading : s.anchor.loading = none) (hkeys : RollbackKeys s.epochs.table.keys s.epochs.commit) :
    s.EpochShape := by
  rw [State.epochShape_iff]
  simp [hmode, hrollback, hrecovery, hloading, ShapeOf, hkeys]

theorem State.epochShape_of_quiescing {s : State} (hmode : s.modes.mode = .quiescing)
    (hrollback : s.replay.rollback = none) (hrecovery : s.replay.recovery = none) (hloading : s.anchor.loading = none)
    (hkeys : QuiescingKeys s.epochs.table.keys s.epochs.commit) : s.EpochShape := by
  rw [State.epochShape_iff]
  simp [hmode, hrollback, hrecovery, hloading, ShapeOf, hkeys]

/-- A state of another mode: no rollback runs, and a recovery and the anchor reads only in theirs. -/
theorem State.epochShape_of_empty {s : State} (hactive : s.modes.mode ≠ .active)
    (hquiescing : s.modes.mode ≠ .quiescing) (hrollback : s.replay.rollback = none)
    (hrecovery : s.replay.recovery.isSome = true → s.modes.mode = .recovering)
    (hloading : s.anchor.loading.isSome = true → s.modes.mode = .loading)
    (hkeys : s.epochs.table.keys = []) (hcommit : s.epochs.commit = none) : s.EpochShape := by
  rw [State.epochShape_iff]
  refine ⟨by simp [hrollback], hrecovery, hloading, ?_⟩
  cases hmode : s.modes.mode <;> simp_all [ShapeOf]

end Sys2Proof.Machine

namespace Sys2Proof.Machine

-- One theorem at a time: the proofs below would otherwise wait for one another in many threads.
set_option Elab.async false

/-! ### Opening an epoch -/

theorem openEpoch_keys_of_nil {s : State} (h : s.epochs.table.keys = []) (n : Word) :
    (openEpoch n s).epochs.table.keys = [(n, .opened)] := EpochTable.keys_insert_of_nil h _

theorem openEpoch_keys_of_one {s : State} {k : Word × EpochState} (h : s.epochs.table.keys = [k]) (n : Word) :
    (openEpoch n s).epochs.table.keys = [(n, .opened), k] ∨ (openEpoch n s).epochs.table.keys = [k, (n, .opened)] :=
  EpochTable.keys_insert_of_one h _

@[simp] theorem openEpoch_commit (n : Word) (s : State) : (openEpoch n s).epochs.commit = s.epochs.commit := rfl

/-! ### The halt and the markers -/

theorem halt_epochShape {s : State} (h : s.EpochShape) (cause : Cause) : (halt cause s).EpochShape := by
  by_cases hmode : s.modes.mode = .halted
  · rwa [halt_of_halted hmode]
  · have q := halt_quiet hmode cause
    refine State.epochShape_of_empty (by simp) (by simp) q.rollback (by simp [q.recovery]) (by simp [q.loading]) ?_
      q.commit
    rw [q.table]
    rfl

theorem logError_halt_epochShape {s : State} (h : s.EpochShape) (cause : Cause) (kind : ErrorKind)
    (epoch line : Option Word) (slot : Option Nat) : (halt cause (logError kind epoch line slot s)).EpochShape :=
  halt_epochShape (h.same .of_eq) cause

theorem logged_epochShape {s : State} (h : s.EpochShape) (kind : ErrorKind) (epoch line : Option Word)
    (slot : Option Nat) : (logError kind epoch line slot s).EpochShape := h.same .of_eq

theorem requestMarker_epochShape {s : State} (h : s.EpochShape) {kind : RecordKind} {n : Word}
    {next : Nat → Word → State → State}
    (hnext : ∀ slot sequence, (next slot sequence (assignMarker kind n s)).EpochShape) :
    (requestMarker kind n next s).EpochShape := by
  unfold requestMarker
  split
  · exact hnext _ _
  · exact logError_halt_epochShape h _ _ _ _ _

/-- The commit sequence goes on, in a phase other than ANCHOR-WAIT before and after. -/
theorem State.EpochShape.setCommitPhase {s : State} (h : s.EpochShape) {q : CommitSequence}
    (hcommit : s.epochs.commit = some q) (hphase : q.phase ≠ .anchorWait) {phase : CommitPhase}
    (hphase' : phase ≠ .anchorWait) :
    (s.setEpochs { s.epochs with commit := some { q with phase := phase } }).EpochShape := by
  rw [State.epochShape_iff] at h ⊢
  obtain ⟨hrollback, hrecovery, hloading, hshape⟩ := h
  refine ⟨hrollback, hrecovery, hloading, ?_⟩
  simp only [State.setEpochs_modes, State.setEpochs_replay, State.setEpochs_epochs]
  rw [hcommit] at hshape
  unfold ShapeOf at hshape ⊢
  split at hshape
  · split_ifs at hshape ⊢
    · exact absurd hshape.1 (by simp)
    · obtain ⟨n, -, hc⟩ | ⟨x, st, hkeys, ⟨-, hc⟩ | ⟨hst, q', hq', hepoch, hpurpose, -⟩⟩ := hshape
      · cases hc
      · cases hc
      · cases hq'
        exact .inr ⟨x, st, hkeys, .inr ⟨hst, _, rfl, hepoch, hpurpose, hphase'⟩⟩
  · obtain ⟨q', hq', hpurpose, ⟨hwait, -⟩ | ⟨-, hkeys⟩⟩ := hshape
    · cases hq'
      exact absurd hwait hphase
    · cases hq'
      exact ⟨_, rfl, hpurpose, .inr ⟨hphase', hkeys⟩⟩
  · exact absurd hshape.2 (by simp)

theorem commitDrained_eq_some {s : State} {q : CommitSequence} (h : s.commitDrained = some q) :
    s.epochs.commit = some q ∧ q.phase = .draining := by
  unfold State.commitDrained at h
  split at h
  · next q' hq =>
    split at h
    · next hphase _ =>
      split at h
      · cases h
        exact ⟨hq, hphase⟩
      · cases h
    · cases h
  · cases h

theorem queueCommitRecord_epochShape {s : State} (h : s.EpochShape) {q : CommitSequence}
    (hcommit : s.epochs.commit = some q) (hphase : q.phase ≠ .anchorWait) : (queueCommitRecord q s).EpochShape :=
  requestMarker_epochShape h fun _ _ =>
    State.EpochShape.setCommitPhase (s := assignMarker _ _ s) (h.same .of_eq) (by simpa using hcommit) hphase
      (by simp)

theorem State.EpochShape.replaying {s : State} (h : s.EpochShape) {x : ReplayEngine}
    (hrollback : x.rollback.isSome = s.replay.rollback.isSome)
    (hrecovery : x.recovery.isSome = s.replay.recovery.isSome) : (s.setReplay x).EpochShape :=
  h.same ⟨rfl, hrollback, hrecovery, rfl, rfl, rfl⟩

theorem sameShape_setReplay {s : State} {x : ReplayEngine} (hrollback : x.rollback.isSome = s.replay.rollback.isSome)
    (hrecovery : x.recovery.isSome = s.replay.recovery.isSome) : s.SameShape (s.setReplay x) :=
  ⟨rfl, hrollback, hrecovery, rfl, rfl, rfl⟩

theorem queueClose_epochShape {s : State} (h : s.EpochShape) (hrollback : s.replay.rollback.isSome = true)
    (highest : Word) : (queueClose highest s).EpochShape :=
  requestMarker_epochShape h fun _ _ => h.same ⟨rfl, hrollback.symm, rfl, rfl, rfl, rfl⟩

theorem settle_epochShape {s : State} (h : s.EpochShape) (hrollback : s.replay.rollback.isSome = true)
    (captures epochs : Bool) (highest : Word) : (settle captures epochs highest s).EpochShape := by
  unfold settle startWalk
  split_ifs
  · exact queueClose_epochShape h hrollback highest
  · exact h.same (sameShape_setReplay hrollback.symm rfl)
  · exact h.same (sameShape_setReplay hrollback.symm rfl)

theorem noteCapturesSettled_epochShape {s : State} (h : s.EpochShape) : (noteCapturesSettled s).EpochShape := by
  unfold noteCapturesSettled
  split
  · next r hr =>
    split
    · split
      · exact settle_epochShape h (by simp [hr]) _ _ _
      · exact h
    · exact h
  · exact h

theorem noteEpochsDrained_epochShape {s : State} (h : s.EpochShape) : (noteEpochsDrained s).EpochShape := by
  unfold noteEpochsDrained
  split
  · next r hr =>
    split
    · split
      · exact settle_epochShape h (by simp [hr]) _ _ _
      · exact h
    · exact h
  · exact h

theorem drainNotice_epochShape {s : State} (h : s.EpochShape) : (drainNotice s).EpochShape := by
  unfold drainNotice
  split
  · next q hq =>
    obtain ⟨hcommit, hphase⟩ := commitDrained_eq_some hq
    exact queueCommitRecord_epochShape h hcommit (by simp [hphase])
  · exact noteEpochsDrained_epochShape h

/-! ### Damage -/

/-- A COMMITTING epoch is live in ACTIVE beside the OPEN epoch that follows it, or alone in QUIESCING. -/
theorem State.EpochShape.of_committing {s : State} (h : s.EpochShape) {n : Word}
    (hmem : (n, .committing) ∈ s.epochs.table.keys) :
    s.modes.mode = .active ∧ s.replay.rollback = none ∧
        (s.epochs.table.keys = [(n + 1#32, .opened), (n, .committing)] ∨
          s.epochs.table.keys = [(n, .committing), (n + 1#32, .opened)]) ∨
      s.modes.mode = .quiescing ∧ s.epochs.table.keys = [(n, .committing)] := by
  by_cases hactive : s.modes.mode = .active
  · refine .inl ?_
    cases hr : s.replay.rollback with
    | some r =>
      obtain ⟨-, -, hall⟩ := h.rollbackKeys (by simp [hr])
      exact absurd (hall _ hmem) (by simp)
    | none =>
      obtain ⟨m, hkeys, -⟩ | ⟨x, st, hkeys, -⟩ := h.activeKeys hactive hr
      · simp [hkeys] at hmem
      · refine ⟨hactive, rfl, ?_⟩
        obtain hkeys | hkeys := hkeys <;> simp [hkeys] at hmem <;> obtain ⟨rfl, rfl⟩ := hmem <;> simp [hkeys]
  · by_cases hquiescing : s.modes.mode = .quiescing
    · obtain ⟨q, -, -, ⟨-, hkeys⟩ | ⟨-, hkeys⟩⟩ := h.quiescingKeys hquiescing
      · simp [hkeys] at hmem
      · simp [hkeys] at hmem
        exact .inr ⟨hquiescing, by rw [hkeys, hmem]⟩
    · simp [(h.empty hactive hquiescing).1] at hmem

theorem failCommit_epochShape {s : State} (h : s.EpochShape) {n : Word}
    (hmem : (n, .committing) ∈ s.epochs.table.keys) : (failCommit n s).EpochShape := by
  have hkeys' := s.epochs.table.keys_setState n .failed
  unfold failCommit
  obtain ⟨hmode, hr, hkeys⟩ | ⟨hmode, hkeys⟩ := h.of_committing hmem
  · rw [if_neg (by simp [hmode])]
    refine State.epochShape_of_active (by simp [hmode]) (by simp [hr]) ?_ ?_ (.inr ⟨n, .failed, ?_, .inl ⟨rfl, rfl⟩⟩)
    · exact h.recovery_none (by simp [hmode])
    · exact h.loading_none (by simp [hmode])
    · refine hkeys.imp (fun hk => ?_) fun hk => ?_ <;>
        simp [hk] at hkeys' <;> simp [hkeys']
  · rw [if_pos hmode]
    rw [hkeys] at hkeys'
    simp only [List.map_cons, List.map_nil, if_true] at hkeys'
    refine State.epochShape_of_active (by simp) (by simp [h.rollback_none, hmode]) (by simp [h.recovery_none, hmode])
      (by simp [h.loading_none, hmode]) (.inr ⟨n, .failed, ?_, .inl ⟨rfl, by simp⟩⟩)
    rw [(setMode_untouched _ _).2.2.1]
    exact openEpoch_keys_of_one hkeys' _

theorem markDamaged_epochShape {s : State} (h : s.EpochShape) {e : LiveEpoch} (he : e ∈ s.epochs.table.epochs) :
    (markDamaged e s).EpochShape := by
  have hkeys : (s.epochs.table.modify e.number fun x => { x with damaged := true }).keys = s.epochs.table.keys :=
    EpochTable.keys_modify fun _ => rfl
  have hmarked : (raise .epochDamaged
      (s.setTable (s.epochs.table.modify e.number fun x => { x with damaged := true }))).EpochShape :=
    h.same ⟨rfl, rfl, rfl, rfl, hkeys, rfl⟩
  unfold markDamaged
  split
  · next hcommitting =>
    refine failCommit_epochShape hmarked ?_
    have hmem := EpochTable.mem_keys he
    rw [LiveEpoch.key, hcommitting, ← hkeys] at hmem
    exact hmem
  · exact hmarked

theorem reportDamage_epochShape {s : State} (h : s.EpochShape) (kind : ErrorKind) (epoch line : Word) :
    (reportDamage kind epoch line s).EpochShape := by
  have hlogged : (logError kind (some epoch) (some line) none s).EpochShape := h.same .of_eq
  dsimp only [reportDamage]
  split
  · next e hfind =>
    split
    · exact hlogged
    · exact markDamaged_epochShape hlogged (EpochTable.find_mem hfind).1
  · exact hlogged

/-! ### Commits and triggers -/

/-- When the verdict on a commit request is that of an OPEN epoch, that epoch is alone (R72). -/
theorem State.EpochShape.of_judgeCommit {s : State} (h : s.EpochShape) {e : LiveEpoch}
    (hjudge : s.judgeCommit = .empty e ∨ s.judgeCommit = .commits e) :
    s.modes.mode = .active ∧ s.replay.rollback = none ∧ s.epochs.table.keys = [(e.number, .opened)] ∧
      s.epochs.commit = none := by
  unfold State.judgeCommit at hjudge
  split_ifs at hjudge with hmode hroll hcommitting hfailed <;> try simp at hjudge
  have hmode : s.modes.mode = .active := not_not.mp hmode
  have hr : s.replay.rollback = none := by simpa [State.rollingBack] using hroll
  have hopened : s.epochs.table.opened = some e := by
    split at hjudge
    · simp at hjudge
    · next o ho =>
      split_ifs at hjudge <;> simp at hjudge
      · rw [ho, hjudge]
      · rw [ho, hjudge]
  have hno (st : EpochState) (hst : s.epochs.table.has st ≠ true) (x : Word) : (x, st) ∉ s.epochs.table.keys := by
    intro hx
    obtain ⟨y, hy, hkey⟩ := List.mem_map.mp hx
    exact hst ((EpochTable.has_iff _ _).mpr ⟨y, hy, ((y.key_eq_iff _ _).mp hkey).2⟩)
  obtain ⟨hmem, hstate⟩ := EpochTable.opened_mem hopened
  have hkey := EpochTable.mem_keys hmem
  rw [LiveEpoch.key, hstate] at hkey
  obtain ⟨n, hkeys, hcommit⟩ | ⟨x, st, hkeys, ⟨rfl, -⟩ | ⟨rfl, -⟩⟩ := h.activeKeys hmode hr
  · simp [hkeys] at hkey
    exact ⟨hmode, hr, by rw [hkeys, hkey], hcommit⟩
  · exact absurd (by obtain hk | hk := hkeys <;> simp [hk]) (hno .failed hfailed x)
  · exact absurd (by obtain hk | hk := hkeys <;> simp [hk]) (hno .committing hcommitting x)

/-- An OPEN epoch opens in the empty table of ACTIVE. -/
theorem openEpoch_active {s : State} (hmode : s.modes.mode = .active) (hr : s.replay.rollback = none)
    (hrecovery : s.replay.recovery = none) (hloading : s.anchor.loading = none) (hkeys : s.epochs.table.keys = [])
    (hcommit : s.epochs.commit = none) (n : Word) : (openEpoch n s).EpochShape :=
  State.epochShape_of_active (by simpa using hmode) (by simpa using hr) (by simpa using hrecovery)
    (by simpa using hloading) (.inl ⟨n, openEpoch_keys_of_nil hkeys n, hcommit⟩)

theorem EpochTable.keys_remove_one {t : EpochTable} {n : Word} {st : EpochState} (h : t.keys = [(n, st)]) :
    (t.remove n).keys = [] := by
  rw [EpochTable.keys_remove, h]
  simp

theorem commitEmpty_epochShape {s : State} (h : s.EpochShape) {e : LiveEpoch} (hjudge : s.judgeCommit = .empty e) :
    (commitEmpty e.number s).EpochShape := by
  obtain ⟨hmode, hr, hkeys, hcommit⟩ := h.of_judgeCommit (.inl hjudge)
  refine openEpoch_active (s := closeEmpty e.number s) (by simpa using hmode) (by simpa using hr)
    (by simp [h.recovery_none, hmode]) (by simp [h.loading_none, hmode]) ?_ hcommit _
  exact EpochTable.keys_remove_one hkeys

/-- A commit sequence starts: the one OPEN epoch is COMMITTING. -/
theorem startCommit_keys {s : State} {n : Word} (hkeys : s.epochs.table.keys = [(n, .opened)])
    (purpose : CommitPurpose) : (startCommit purpose n s).epochs.table.keys = [(n, .committing)] := by
  have hset := s.epochs.table.keys_setState n .committing
  simp only [hkeys, List.map_cons, List.map_nil, if_true] at hset
  exact hset

/-- Before its drain notice: the epoch COMMITTING, and the next one open. -/
theorem commitOpened_epochShape {s : State} (h : s.EpochShape) {e : LiveEpoch} (hjudge : s.judgeCommit = .commits e) :
    (openEpoch (e.number + 1#32) (startCommit .commit e.number s)).EpochShape := by
  obtain ⟨hmode, hr, hkeys, -⟩ := h.of_judgeCommit (.inr hjudge)
  refine State.epochShape_of_active (by simpa using hmode) (by simpa using hr)
    (by simp [h.recovery_none, hmode]) (by simp [h.loading_none, hmode]) (.inr ⟨e.number, .committing, ?_, .inr ⟨rfl, ?_⟩⟩)
  · exact openEpoch_keys_of_one (startCommit_keys hkeys .commit) _
  · exact ⟨_, rfl, rfl, rfl, by simp⟩

theorem commitOpen_epochShape {s : State} (h : s.EpochShape) {e : LiveEpoch} (hjudge : s.judgeCommit = .commits e) :
    (commitOpen e.number s).EpochShape := drainNotice_epochShape (commitOpened_epochShape h hjudge)

/-- A change of the epoch controller that keeps the table and the commit sequence. -/
theorem sameShape_setEpochs {s : State} {x : EpochController} (htable : x.table = s.epochs.table)
    (hcommit : x.commit = s.epochs.commit) : s.SameShape (s.setEpochs x) :=
  ⟨rfl, rfl, rfl, rfl, by rw [State.setEpochs_epochs, htable], hcommit⟩

theorem fireTrigger_epochShape {s : State} (h : s.EpochShape) (full : Bool) : (fireTrigger full s).EpochShape := by
  unfold fireTrigger
  split
  · split
    · next hjudge => exact commitEmpty_epochShape h hjudge
    · next hjudge => exact commitOpen_epochShape h hjudge
    · exact h.same (sameShape_setEpochs rfl rfl)
    · exact h.same (sameShape_setEpochs rfl rfl)
    · exact h
    · exact h
  · exact h

theorem reexamine_epochShape {s : State} (h : s.EpochShape) : (reexamine s).EpochShape := by
  have hcleared : (s.setEpochs { s.epochs with heldTrigger := false }).EpochShape := h.same (sameShape_setEpochs rfl rfl)
  dsimp only [reexamine]
  split
  · exact fireTrigger_epochShape hcleared _
  · exact hcleared

theorem updateLow_sameShape (s : State) : s.SameShape (updateLow s) := .of_eq

theorem updateBlocked_epochShape {s : State} (h : s.EpochShape) : (updateBlocked s).EpochShape := by
  dsimp only [updateBlocked]
  split_ifs
  · exact h.same .of_eq
  · exact fireTrigger_epochShape (h.same .of_eq) _
  · exact h.same .of_eq
  · exact h.same ⟨rfl, rfl, rfl, rfl, rfl, rfl⟩

theorem updateSpace_epochShape {s : State} (h : s.EpochShape) : (updateSpace s).EpochShape :=
  (updateBlocked_epochShape (h.same (updateLow_sameShape s))).same (updateLow_sameShape _)

/-! ### Anchor writes -/

@[simp] theorem buildUpdate_loading (s : State) : (buildUpdate s).anchor.loading = s.anchor.loading := by
  unfold buildUpdate
  split <;> rfl

@[simp] theorem requestUpdate_loading (s : State) : (requestUpdate s).anchor.loading = s.anchor.loading := by
  unfold requestUpdate
  split <;> simp

@[simp] theorem buildPending_loading (s : State) : (buildPending s).anchor.loading = s.anchor.loading := by
  unfold buildPending
  split <;> simp

theorem requestUpdate_sameShape (s : State) : s.SameShape (requestUpdate s) := .of_eq

theorem buildPending_sameShape (s : State) : s.SameShape (buildPending s) := .of_eq

theorem ReplayEngine.recovery_isSome_of_anchoring {r : ReplayEngine} {closed : Word} (h : r.anchoring = some closed) :
    r.recovery.isSome = true := by
  cases hr : r.recovery with
  | none => simp [ReplayEngine.anchoring_of_none hr] at h
  | some q => rfl

theorem startModeOf_cases (m : BitVec 2) : startModeOf m = .active ∨ startModeOf m = .quiesced := by
  unfold startModeOf
  split <;> simp

theorem completeRecovery_epochShape {s : State} (h : s.EpochShape) : (completeRecovery s).EpochShape := by
  unfold completeRecovery
  split
  · exact h
  · next closed hclosed =>
    have hmode := h.recovery_recovering (ReplayEngine.recovery_isSome_of_anchoring hclosed)
    have hr := h.rollback_none (by simp [hmode])
    have hloading := h.loading_none (by simp [hmode])
    obtain ⟨hkeys, hcommit⟩ := h.empty (by simp [hmode]) (by simp [hmode])
    dsimp only
    obtain hstart | hstart := startModeOf_cases s.anchor.working.startMode
    · rw [hstart, if_pos rfl]
      exact State.epochShape_of_active (by simp) (by simpa using hr) (by simp) (by simpa using hloading)
        (.inl ⟨closed + 1#32, by rw [(setMode_untouched _ _).2.2.1]; exact openEpoch_keys_of_nil hkeys _,
          by simpa using hcommit⟩)
    · rw [hstart, if_neg (by simp)]
      exact State.epochShape_of_empty (by simp) (by simp) (by simpa using hr) (by simp) (by simp [hloading])
        (by simpa using hkeys) (by simpa using hcommit)

theorem completeQuiesce_epochShape {s : State} (h : s.EpochShape) : (completeQuiesce s).EpochShape := by
  unfold completeQuiesce
  split
  · next q hq =>
    split
    · next hphase =>
      have hmode : s.modes.mode = .quiescing := by
        by_contra hquiescing
        by_cases hactive : s.modes.mode = .active
        · cases hr : s.replay.rollback with
          | some r => simp [(h.rollbackKeys (by simp [hr])).1] at hq
          | none =>
            obtain ⟨-, -, hc⟩ | ⟨-, -, -, ⟨-, hc⟩ | ⟨-, q', hq', -, -, hwait⟩⟩ := h.activeKeys hactive hr
            · simp [hc] at hq
            · simp [hc] at hq
            · cases hq.symm.trans hq'
              exact hwait hphase
        · simp [(h.empty hactive hquiescing).2] at hq
      obtain ⟨q', hq', -, ⟨-, hkeys⟩ | ⟨hwait, -⟩⟩ := h.quiescingKeys hmode
      · exact State.epochShape_of_empty (by simp) (by simp) (by simp [h.rollback_none, hmode])
          (by simp [h.recovery_none, hmode]) (by simp [h.loading_none, hmode]) (by simpa using hkeys) (by simp)
      · cases hq.symm.trans hq'
        exact absurd hphase hwait
    · exact h
  · exact h

theorem logAnchorFault_sameShape (target : Copy) (first second : LineAnswer) (s : State) :
    s.SameShape (logAnchorFault target first second s) := by
  unfold logAnchorFault
  split_ifs
  · exact .of_eq
  · exact .of_eq
  · exact .refl s

theorem raise_sameShape (v : Event) (s : State) : s.SameShape (raise v s) := .of_eq

theorem setAnchor_sameShape {s : State} {x : AnchorUnit} (hloading : x.loading.isSome = s.anchor.loading.isSome) :
    s.SameShape (s.setAnchor x) := ⟨rfl, rfl, rfl, hloading, rfl, rfl⟩

theorem judgeUpdate_sameShape (w : AnchorWrite) (tail : Nat) (sequence : Word) (endsRecovery : Bool)
    (first second : LineAnswer) (s : State) :
    s.SameShape (judgeUpdate w tail sequence endsRecovery first second s) := by
  unfold judgeUpdate
  split
  · exact .of_eq rfl rfl rfl rfl
  · refine State.SameShape.trans (State.SameShape.trans ?_ (logAnchorFault_sameShape _ _ _ _)) (raise_sameShape _ _)
    exact setAnchor_sameShape rfl

theorem installStore_sameShape (w : AnchorWrite) (c : Configuration) (s : State) :
    s.SameShape (installStore w c s) := by
  refine .of_eq ?_ ?_ ?_ ?_ <;> simp [installStore, makeCurrent]

theorem judgeStore_sameShape (w : AnchorWrite) (c : Configuration) (first second : LineAnswer) (s : State) :
    s.SameShape (judgeStore w c first second s) := by
  dsimp only [judgeStore]
  split_ifs
  · exact setAnchor_sameShape rfl
  · exact installStore_sameShape w c s
  · exact logAnchorFault_sameShape _ _ _ s
  · exact (logAnchorFault_sameShape _ _ _ s).trans (raise_sameShape _ _)

theorem judgeAnchorWrite_epochShape {s : State} (h : s.EpochShape) (w : AnchorWrite) (first second : LineAnswer) :
    (judgeAnchorWrite w first second s).EpochShape := by
  have hfree : s.SameShape (s.setAnchor { s.anchor with write := none }) := setAnchor_sameShape rfl
  dsimp only [judgeAnchorWrite]
  split
  · next tail sequence endsRecovery _ =>
    have hjudged := (hfree.trans (judgeUpdate_sameShape w tail sequence endsRecovery first second _)).trans
      (buildPending_sameShape _)
    have hrecovered := completeRecovery_epochShape (h.same hjudged)
    split
    · exact hrecovered
    · exact completeQuiesce_epochShape hrecovered
  · exact h.same ((hfree.trans (judgeStore_sameShape w _ first second _)).trans (buildPending_sameShape _))

theorem anchorLineAnswered_epochShape {s : State} (h : s.EpochShape) (second : Bool) (a : LineAnswer) :
    (anchorLineAnswered second a s).EpochShape := by
  unfold anchorLineAnswered
  split
  · exact h
  · split
    · split
      · exact judgeAnchorWrite_epochShape h _ _ a
      · exact h
    · exact h.same (setAnchor_sameShape rfl)

end Sys2Proof.Machine

namespace Sys2Proof.Machine

-- One theorem at a time: the proofs below would otherwise wait for one another in many threads.
set_option Elab.async false

/-! ### LOADING and the replay engine -/

theorem loadCopy_epochShape {s : State} (h : s.EpochShape) (hmode : s.modes.mode = .loading) (c : Copy)
    (f : AnchorFields) : (loadCopy c f s).EpochShape := by
  obtain ⟨hkeys, hcommit⟩ := h.empty (by simp [hmode]) (by simp [hmode])
  exact State.epochShape_of_empty (by simp [loadCopy]) (by simp [loadCopy])
    (by simpa [loadCopy] using h.rollback_none (by simp [hmode])) (by simp [loadCopy]) (by simp [loadCopy])
    (by simpa [loadCopy] using hkeys) (by simpa [loadCopy] using hcommit)

theorem loadNothing_epochShape {s : State} (h : s.EpochShape) (hmode : s.modes.mode = .loading) :
    (loadNothing s).EpochShape := by
  obtain ⟨hkeys, hcommit⟩ := h.empty (by simp [hmode]) (by simp [hmode])
  exact State.epochShape_of_empty (by simp [loadNothing]) (by simp [loadNothing])
    (by simpa [loadNothing] using h.rollback_none (by simp [hmode]))
    (by simp [loadNothing, h.recovery_none, hmode]) (by simp [loadNothing])
    (by simpa [loadNothing] using hkeys) (by simpa [loadNothing] using hcommit)

theorem anchorReadAnswered_epochShape {s : State} (h : s.EpochShape) (a : ReadAnswer) :
    (anchorReadAnswered a s).EpochShape := by
  unfold anchorReadAnswered
  split
  · exact h
  · next l hl =>
    have hmode := h.loading_loading (by simp [hl])
    have hkept (x : Loading) : (s.setAnchor { s.anchor with loading := some x }).EpochShape :=
      h.same (setAnchor_sameShape (by simp [hl]))
    dsimp only
    split_ifs
    · unfold judgeCopies
      split
      · split
        · exact loadCopy_epochShape (hkept _) hmode _ _
        · exact loadNothing_epochShape (hkept _) hmode
      · exact hkept _
    · exact hkept _

theorem anchorRecovery_epochShape {s : State} (h : s.EpochShape) (hrecovery : s.replay.recovery.isSome = true)
    (q : Recovery) (closed : Word) : (anchorRecovery q closed s).EpochShape := by
  refine State.EpochShape.same ?_ (requestUpdate_sameShape _)
  exact h.replaying rfl hrecovery.symm

theorem finishRestoring_epochShape {s : State} (h : s.EpochShape) (hrecovery : s.replay.recovery.isSome = true)
    (q : Recovery) : (finishRestoring q s).EpochShape := by
  unfold finishRestoring
  split
  · exact anchorRecovery_epochShape h hrecovery q _
  · exact requestMarker_epochShape h fun _ _ => h.same ⟨rfl, rfl, hrecovery.symm, rfl, rfl, rfl⟩

theorem judgeRollbackSlot_epochShape {s : State} (h : s.EpochShape) (hrollback : s.replay.rollback.isSome = true)
    (r : Rollback) (w : Walk) (head body : List Byte) : (judgeRollbackSlot r w head body s).EpochShape := by
  dsimp only [judgeRollbackSlot]
  split
  · exact logError_halt_epochShape h _ _ _ _ _
  · split
    · refine queueClose_epochShape ?_ rfl _
      exact h.replaying hrollback.symm rfl
    · exact h.replaying hrollback.symm rfl

theorem judgeRecoverySlot_epochShape {s : State} (h : s.EpochShape) (hrecovery : s.replay.recovery.isSome = true)
    (q : Recovery) (w : Walk) (head body : List Byte) : (judgeRecoverySlot q w head body s).EpochShape := by
  dsimp only [judgeRecoverySlot]
  split
  · exact logError_halt_epochShape h _ _ _ _ _
  · split
    · refine finishRestoring_epochShape ?_ rfl _
      exact h.replaying rfl hrecovery.symm
    · exact h.replaying rfl hrecovery.symm

theorem endScan_epochShape {s : State} (h : s.EpochShape) (hrecovery : s.replay.recovery.isSome = true)
    (q : Recovery) (k : Nat) : (endScan q k s).EpochShape := by
  have hscanned (x : RingManager) : (s.setRing x).EpochShape := h.same .of_eq
  dsimp only [endScan]
  split
  · refine anchorRecovery_epochShape (hscanned _) ?_ _ _
    exact hrecovery
  · exact State.EpochShape.replaying (hscanned _) rfl hrecovery.symm

theorem judgeScanSlot_epochShape {s : State} (h : s.EpochShape) (hrecovery : s.replay.recovery.isSome = true)
    (q : Recovery) (k : Nat) (head body : List Byte) : (judgeScanSlot q k head body s).EpochShape := by
  have hdropped : (s.setReplay { s.replay with headLine := none }).EpochShape := h.same (sameShape_setReplay rfl rfl)
  dsimp only [judgeScanSlot]
  split
  · exact endScan_epochShape hdropped hrecovery _ _
  · split
    · exact endScan_epochShape hdropped hrecovery _ _
    · exact hdropped.replaying rfl hrecovery.symm

theorem replayBodyRead_epochShape {s : State} (h : s.EpochShape) (body : List Byte) :
    (replayBodyRead body s).EpochShape := by
  unfold replayBodyRead
  split
  · next hr =>
    split
    · exact judgeRollbackSlot_epochShape h (by simp [hr]) _ _ _ _
    · exact h
  · next hr hq =>
    split
    · exact judgeScanSlot_epochShape h (by simp [hq]) _ _ _ _
    · exact judgeRecoverySlot_epochShape h (by simp [hq]) _ _ _ _
    · exact h
  · exact h

theorem replayHeadAnswered_epochShape {s : State} (h : s.EpochShape) (a : ReadAnswer) (slot : Nat) :
    (replayHeadAnswered a slot s).EpochShape := by
  unfold replayHeadAnswered
  split
  · cases a with
    | done data => exact h.same (sameShape_setReplay rfl rfl)
    | fault => exact logError_halt_epochShape h _ _ _ _ _
  · exact h

theorem replayBodyAnswered_epochShape {s : State} (h : s.EpochShape) (a : ReadAnswer) (slot : Nat) :
    (replayBodyAnswered a slot s).EpochShape := by
  unfold replayBodyAnswered
  split
  · cases a with
    | done data => exact replayBodyRead_epochShape h data
    | fault => exact logError_halt_epochShape h _ _ _ _ _
  · exact h

theorem restoreDone_epochShape {s : State} (h : s.EpochShape) : (restoreDone s).EpochShape := by
  unfold restoreDone
  split
  · next r _ hr =>
    split
    · have hkept (x : Rollback) : (s.setRollback (some x)).EpochShape := h.same (sameShape_setReplay (by simp [hr]) rfl)
      dsimp only
      split
      · exact queueClose_epochShape (hkept _) rfl _
      · exact hkept _
    · exact h
  · next q _ hq =>
    split
    · have hkept (x : Recovery) : (s.setReplay { s.replay with recovery := some x }).EpochShape :=
        h.same (sameShape_setReplay rfl (by simp [hq]))
      dsimp only
      split
      · exact finishRestoring_epochShape (hkept _) rfl _
      · exact hkept _
    · exact h
  · exact h

theorem restoreAnswered_epochShape {s : State} (h : s.EpochShape) (a : WriteAnswer) (slot : Nat) (epoch line : Word) :
    (restoreAnswered a slot epoch line s).EpochShape := by
  cases a with
  | done => exact restoreDone_epochShape h
  | fault =>
    simp only [restoreAnswered, restoreFaulted]
    split
    · exact logError_halt_epochShape h _ _ _ _ _
    · exact h

/-! ### Captures, records and data writes -/

theorem sameShape_modify {s : State} {n : Word} {f : LiveEpoch → LiveEpoch} (hf : ∀ e, (f e).key = e.key) :
    s.SameShape (s.setTable (s.epochs.table.modify n f)) :=
  ⟨rfl, rfl, rfl, rfl, EpochTable.keys_modify hf, rfl⟩

theorem releaseCapture_sameShape (i : Fin 4) (c : Capture) (s : State) : s.SameShape (releaseCapture i c s) := by
  refine State.SameShape.trans ?_ (updateLow_sameShape _)
  exact .of_eq

theorem endCapture_epochShape {s : State} (h : s.EpochShape) (i : Fin 4) (c : Capture) :
    (endCapture i c s).EpochShape :=
  noteCapturesSettled_epochShape (h.same (.of_eq rfl rfl rfl rfl))

theorem faultCapture_epochShape {s : State} (h : s.EpochShape) (i : Fin 4) (c : Capture) :
    (faultCapture i c s).EpochShape := by
  have hreported := reportDamage_epochShape h .captureReadFault c.epoch c.line
  refine noteCapturesSettled_epochShape (State.EpochShape.same ?_ (releaseCapture_sameShape i c _))
  refine State.EpochShape.same ?_ (sameShape_modify fun _ => rfl)
  exact hreported.same (.of_eq rfl rfl rfl rfl)

theorem assignLine_epochShape {s : State} (h : s.EpochShape) (i : Fin 4) (c : Capture) (data : List Byte) :
    (assignLine i c data s).EpochShape := by
  have hassigned (x : RingManager) (y : CaptureUnit) (f : LiveEpoch → LiveEpoch) (hf : ∀ e, (f e).key = e.key) :
      (((s.setRing x).setCapture y).setTable (s.epochs.table.modify c.epoch f)).EpochShape :=
    h.same ⟨rfl, rfl, rfl, rfl, EpochTable.keys_modify hf, rfl⟩
  dsimp only [assignLine]
  split
  · refine fireTrigger_epochShape ?_ _
    exact hassigned _ _ _ fun _ => rfl
  · exact hassigned _ _ _ fun _ => rfl

theorem commitNoticed_sameShape (s : State) : s.SameShape (bump .commits (raise .commitDone s)) := .of_eq

/-- The epoch controller at the commit point of sequence `q`: its epoch leaves the table (R78). -/
def EpochController.committed (e : EpochController) (q : CommitSequence) : EpochController :=
  { e with
    closedThrough := q.epoch
    table := e.table.remove q.epoch
    commit := match q.purpose with
      | .commit => none
      | .quiesce => some { q with phase := .anchorWait } }

/-- The commit point: the COMMITTING epoch leaves the table (R78). -/
theorem committed_epochShape {s : State} (h : s.EpochShape) {q : CommitSequence} (hq : s.epochs.commit = some q) :
    (s.setEpochs (s.epochs.committed q)).EpochShape := by
  by_cases hactive : s.modes.mode = .active
  · cases hr : s.replay.rollback with
    | some r => simp [(h.rollbackKeys (by simp [hr])).1] at hq
    | none =>
      obtain ⟨-, -, hc⟩ | ⟨x, st, hkeys, ⟨-, hc⟩ | ⟨-, q', hq', hepoch, hpurpose, -⟩⟩ := h.activeKeys hactive hr
      · simp [hc] at hq
      · simp [hc] at hq
      · cases hq.symm.trans hq'
        refine State.epochShape_of_active hactive hr (h.recovery_none (by simp [hactive]))
          (h.loading_none (by simp [hactive])) (.inl ⟨x + 1#32, ?_, by simp [EpochController.committed, hpurpose]⟩)
        simp only [State.setEpochs_epochs, EpochController.committed, EpochTable.keys_remove, hepoch]
        obtain hkeys | hkeys := hkeys <;> simp [hkeys, Word.succ_ne]
  · by_cases hquiescing : s.modes.mode = .quiescing
    · obtain ⟨q', hq', hpurpose, hkeys⟩ := h.quiescingKeys hquiescing
      cases hq.symm.trans hq'
      refine State.epochShape_of_quiescing hquiescing (h.rollback_none hactive)
        (h.recovery_none (by simp [hquiescing])) (h.loading_none (by simp [hquiescing]))
        ⟨{ q with phase := .anchorWait }, by simp [EpochController.committed, hpurpose], hpurpose, .inl ⟨rfl, ?_⟩⟩
      simp only [State.setEpochs_epochs, EpochController.committed, EpochTable.keys_remove]
      obtain ⟨-, hkeys⟩ | ⟨-, hkeys⟩ := hkeys <;> simp [hkeys]
    · simp [(h.empty hactive hquiescing).2] at hq

theorem commitPoint_epochShape {s : State} (h : s.EpochShape) (info : RecordInfo) :
    (commitPoint info s).EpochShape := by
  unfold commitPoint
  split
  · next q hq =>
    split
    · have hrequested := (committed_epochShape h hq).same
        ((commitNoticed_sameShape _).trans (requestUpdate_sameShape _))
      dsimp only
      split_ifs
      · exact reexamine_epochShape hrequested
      · exact hrequested
    · exact h
  · exact h

theorem rollbackNoticed_sameShape (s : State) : s.SameShape (bump .rollbacks (raise .rollbackDone s)) := .of_eq

theorem endRollback_epochShape {s : State} (h : s.EpochShape) (hr : s.replay.rollback.isSome = true) (r : Rollback) :
    (endRollback r s).EpochShape := by
  have hmode := h.rollback_active hr
  have hopened : (openEpoch (r.highest + 1#32)
      ((s.setEpochs { s.epochs with closedThrough := r.highest, table := ⟨none, none⟩ }).setRollback none)).EpochShape :=
    openEpoch_active (by exact hmode) rfl (by exact h.recovery_none (by simp [hmode]))
      (by exact h.loading_none (by simp [hmode])) rfl (by exact (h.rollbackKeys hr).1) _
  exact hopened.same ((requestUpdate_sameShape _).trans (rollbackNoticed_sameShape _))

theorem closeDurable_epochShape {s : State} (h : s.EpochShape) (info : RecordInfo) :
    (closeDurable info s).EpochShape := by
  unfold closeDurable
  split
  · next r _ hr =>
    split
    · exact endRollback_epochShape h (by simp [hr]) _
    · exact h
  · next q _ hq =>
    split
    · exact anchorRecovery_epochShape h (by simp [hq]) _ _
    · exact h
  · exact h

theorem recordDurable_epochShape {s : State} (h : s.EpochShape) (info : RecordInfo) :
    (recordDurable info s).EpochShape := by
  have hcounted : (bump .records s).EpochShape := h.same .of_eq
  unfold recordDurable
  split
  · exact h
  · dsimp only
    split
    · split
      · exact endCapture_epochShape hcounted _ _
      · exact hcounted
    · exact commitPoint_epochShape hcounted info
    · exact closeDurable_epochShape hcounted info

theorem recordFaulted_epochShape {s : State} (h : s.EpochShape) (info : RecordInfo) :
    (recordFaulted info s).EpochShape := by
  unfold recordFaulted
  split_ifs
  · exact h
  · exact logError_halt_epochShape h _ _ _ _ _
  · exact logError_halt_epochShape h _ _ _ _ _

theorem dataWriteAnswered_epochShape {s : State} (h : s.EpochShape) (a : WriteAnswer) (n : Word) (e : MemoryEntry) :
    (dataWriteAnswered a n e s).EpochShape := by
  have hcounted : (s.setTable (s.epochs.table.modify n fun x => { x with out := x.out - 1 })).EpochShape :=
    h.same (sameShape_modify fun _ => rfl)
  cases a with
  | done => exact drainNotice_epochShape hcounted
  | fault => exact drainNotice_epochShape (reportDamage_epochShape hcounted _ _ _)

theorem endTimedOut_epochShape {s : State} (h : s.EpochShape) (e : MemoryEntry) : (endTimedOut s e).EpochShape := by
  unfold endTimedOut
  split
  · exact h.same .of_eq
  · split
    · exact h
    · exact h.same .of_eq
  · exact anchorLineAnswered_epochShape h _ _
  all_goals exact h

theorem timeOut_epochShape {s : State} (h : s.EpochShape) : (timeOut s).EpochShape := by
  have hfold (ended : List MemoryEntry) {u : State} (hu : u.EpochShape) : (ended.foldl endTimedOut u).EpochShape := by
    induction ended generalizing u with
    | nil => exact hu
    | cons e rest ih => exact ih (endTimedOut_epochShape hu e)
  unfold timeOut
  split
  · exact h
  · exact hfold _ ((logError_halt_epochShape h _ _ _ _ _).same (.of_eq rfl rfl rfl rfl))

/-! ### Control commands and the hold queue -/

theorem setMode_freeze_epochShape {s : State} (h : s.EpochShape) (freeze : Bool) :
    (s.setModes { s.modes with freeze := freeze }).EpochShape := h.same (.of_eq rfl rfl rfl rfl)

theorem quiesceEmpty_epochShape {s : State} (h : s.EpochShape) {e : LiveEpoch} (hjudge : s.judgeCommit = .empty e) :
    (quiesceEmpty e.number s).EpochShape := by
  obtain ⟨hmode, hr, hkeys, hcommit⟩ := h.of_judgeCommit (.inl hjudge)
  refine State.epochShape_of_empty (by simp [quiesceEmpty]) (by simp [quiesceEmpty]) (by simp [quiesceEmpty, hr])
    (by simp [quiesceEmpty, h.recovery_none, hmode]) (by simp [quiesceEmpty, h.loading_none, hmode]) ?_ ?_
  · simp only [quiesceEmpty, raise_untouched, setMode_untouched]
    exact EpochTable.keys_remove_one hkeys
  · simp only [quiesceEmpty, raise_untouched, setMode_untouched]
    exact hcommit

/-- Before its drain notice: the epoch COMMITTING, in QUIESCING. -/
theorem quiesceOpened_epochShape {s : State} (h : s.EpochShape) {e : LiveEpoch} (hjudge : s.judgeCommit = .commits e) :
    (setMode .quiescing (startCommit .quiesce e.number s)).EpochShape := by
  obtain ⟨hmode, hr, hkeys, -⟩ := h.of_judgeCommit (.inr hjudge)
  refine State.epochShape_of_quiescing (by simp) (by simpa using hr)
    (by simp [h.recovery_none, hmode]) (by simp [h.loading_none, hmode]) ?_
  simp only [setMode_untouched]
  exact ⟨_, rfl, rfl, .inr ⟨by simp, startCommit_keys hkeys .quiesce⟩⟩

theorem quiesceOpen_epochShape {s : State} (h : s.EpochShape) {e : LiveEpoch} (hjudge : s.judgeCommit = .commits e) :
    (quiesceOpen e.number s).EpochShape := drainNotice_epochShape (quiesceOpened_epochShape h hjudge)

theorem resumeActive_epochShape {s : State} (h : s.EpochShape) (hmode : s.modes.mode = .quiesced ∨ s.modes.mode = .bypass) :
    (resumeActive s).EpochShape := by
  have hactive : s.modes.mode ≠ .active := by rintro h; simp [h] at hmode
  obtain ⟨hkeys, hcommit⟩ := h.empty hactive (by rintro h; simp [h] at hmode)
  refine State.epochShape_of_active (by simp [resumeActive]) (by simpa [resumeActive] using h.rollback_none hactive)
    (by simpa [resumeActive] using h.recovery_none (by rintro h; simp [h] at hmode))
    (by simpa [resumeActive] using h.loading_none (by rintro h; simp [h] at hmode)) (.inl ⟨s.epochs.closedThrough + 1#32, ?_, ?_⟩)
  · simp only [resumeActive, setMode_untouched]
    exact openEpoch_keys_of_nil hkeys _
  · simpa [resumeActive] using hcommit

theorem setMode_bypass_epochShape {s : State} (h : s.EpochShape) (hmode : s.modes.mode = .quiesced) :
    (setMode .bypass s).EpochShape := by
  obtain ⟨hkeys, hcommit⟩ := h.empty (by simp [hmode]) (by simp [hmode])
  exact State.epochShape_of_empty (by simp) (by simp) (by simpa using h.rollback_none (by simp [hmode]))
    (by simp [h.recovery_none, hmode]) (by simp [h.loading_none, hmode]) (by simpa using hkeys) (by simpa using hcommit)

/-- The blocks as an ABORT leaves them, SETTLING begun and no notice taken (R88). -/
def abortBlocks (s : State) : State :=
  { s with
    epochs := { s.epochs with
      table := s.epochs.table.map LiveEpoch.rollBack, heldTrigger := false, fullRequest := false }
    hold := s.hold.withoutJournal
    capture := s.capture.abort (s.epochs.table.epochs.map (·.number))
    replay := { s.replay with
      rollback := some { phase := .settling false false, highest := highestNumber s.epochs.table.epochs } } }

theorem startRollback_eq_notices (s : State) :
    startRollback s =
      noteEpochsDrained (noteCapturesSettled (rejudge
        (discardDeferred (fun d => (s.anchor.working.classify d.line).1 == .journal) (abortBlocks s)))) := rfl

/-- With no COMMITTING epoch, no commit sequence runs in ACTIVE. -/
theorem State.EpochShape.commit_none {s : State} (h : s.EpochShape) (hmode : s.modes.mode = .active)
    (hroll : s.rollingBack = false) (hcommitting : s.epochs.table.has .committing = false) :
    s.replay.rollback = none ∧ s.epochs.table.keys ≠ [] ∧ s.epochs.commit = none := by
  have hr : s.replay.rollback = none := by simpa [State.rollingBack] using hroll
  refine ⟨hr, ?_⟩
  obtain ⟨n, hkeys, hcommit⟩ | ⟨x, st, hkeys, ⟨-, hcommit⟩ | ⟨rfl, -⟩⟩ := h.activeKeys hmode hr
  · exact ⟨by simp [hkeys], hcommit⟩
  · exact ⟨by obtain hk | hk := hkeys <;> simp [hk], hcommit⟩
  · have hmem : (x, EpochState.committing) ∈ s.epochs.table.keys := by obtain hk | hk := hkeys <;> simp [hk]
    obtain ⟨y, hy, hkey⟩ := List.mem_map.mp hmem
    exact absurd ((EpochTable.has_iff _ _).mpr ⟨y, hy, ((y.key_eq_iff _ _).mp hkey).2⟩) (by simp [hcommitting])

/-- An ABORT makes every live epoch ROLLING-BACK, and no commit sequence runs (R87, R88). -/
theorem abortBlocks_epochShape {s : State} (h : s.EpochShape) (hmode : s.modes.mode = .active)
    (hroll : s.rollingBack = false) (hcommitting : s.epochs.table.has .committing = false) :
    (abortBlocks s).EpochShape := by
  obtain ⟨-, hkeys, hcommit⟩ := h.commit_none hmode hroll hcommitting
  refine State.epochShape_of_rollback hmode rfl (h.recovery_none (by simp [hmode])) (h.loading_none (by simp [hmode]))
    ⟨hcommit, ?_, ?_⟩
  · simpa [EpochTable.keys, EpochTable.epochs_map, abortBlocks] using hkeys
  · simp [EpochTable.keys, EpochTable.epochs_map, LiveEpoch.rollBack, LiveEpoch.key, abortBlocks]

theorem abortBegun_sameShape (s : State) (p : Deferred → Bool) : s.SameShape (rejudge (discardDeferred p s)) := .of_eq

theorem startRollback_epochShape {s : State} (h : s.EpochShape) (hmode : s.modes.mode = .active)
    (hroll : s.rollingBack = false) (hcommitting : s.epochs.table.has .committing = false) :
    (startRollback s).EpochShape := by
  rw [startRollback_eq_notices]
  exact noteEpochsDrained_epochShape (noteCapturesSettled_epochShape
    ((abortBlocks_epochShape h hmode hroll hcommitting).same (abortBegun_sameShape _ _)))

theorem elapse_sameShape (d : Nat) (s : State) : s.SameShape (elapse d s) := by
  dsimp only [elapse]
  split
  · exact ⟨rfl, rfl, rfl, rfl, EpochTable.keys_map fun _ => rfl, rfl⟩
  · exact .of_eq rfl rfl rfl rfl

theorem takeJournal_sameShape (r : HostRequest) (window : Fin 8) (n : Word) (s : State) :
    s.SameShape (takeJournal r window n s) := by
  have hcounted : s.SameShape (s.setTable (s.epochs.table.modify n fun e => { e with held := e.held + 1 })) :=
    sameShape_modify fun _ => rfl
  dsimp only [takeJournal]
  (repeat' split) <;> exact hcounted.trans (.of_eq rfl rfl rfl rfl)

theorem takeWrite_sameShape (r : HostRequest) (journaled : Bool) (s : State) :
    s.SameShape (takeWrite r journaled s) := by
  have hdiscard : s.SameShape (discardDeferred (fun d => d.line == r.line) s) := .of_eq
  have hdone (u : State) : u.SameShape (bump .hostWrites (answerHost (.done []) u)) := .of_eq
  unfold takeWrite
  refine State.SameShape.trans ?_ (hdone _)
  refine hdiscard.trans ?_
  split
  · exact takeJournal_sameShape _ _ _ _
  · exact .of_eq rfl rfl rfl rfl

theorem offerWrite_sameShape (r : HostRequest) (journaled : Bool) (s : State) :
    s.SameShape (offerWrite r journaled s) := by
  unfold offerWrite
  split
  · exact takeWrite_sameShape r journaled s
  · exact .of_eq

theorem releaseHead_sameShape (s : State) : s.SameShape (releaseHead s) := by
  unfold releaseHead
  split
  · exact .refl s
  · next e rest _ =>
    have hreleased : s.SameShape (passTurn .host (enqueue (writeEntry (.holdRelease e.cls.epoch) e.line e.offset e.data)
        (s.setHold { s.hold with entries := rest }))) := .of_eq rfl rfl rfl rfl
    dsimp only
    split
    · exact hreleased
    · exact hreleased.trans (sameShape_modify fun _ => rfl)

theorem grantAnchor_sameShape (s : State) : s.SameShape (grantAnchor s) := by
  unfold grantAnchor
  split
  · exact .refl s
  · refine ⟨rfl, rfl, rfl, ?_, rfl, rfl⟩
    show s.anchor.lineGranted.loading.isSome = _
    unfold AnchorUnit.lineGranted
    split
    · next hl => simp [hl]
    · rfl

theorem thaw_epochShape {s : State} (h : s.EpochShape) : (thaw s).EpochShape := by
  dsimp only [thaw]
  split
  · exact updateSpace_epochShape (reexamine_epochShape (setMode_freeze_epochShape h _))
  · exact setMode_freeze_epochShape h _

theorem startCapture_sameShape (i : Fin 4) (e : HoldEntry) (epoch : Word) (window : Fin 8) (s : State) :
    s.SameShape (startCapture i e epoch window s) := .of_eq rfl rfl rfl rfl

theorem offerCapture_epochShape {s : State} (h : s.EpochShape) : (offerCapture s).EpochShape := by
  unfold offerCapture
  split
  · split
    · split
      · exact updateSpace_epochShape (h.same (startCapture_sameShape _ _ _ _ s))
      · exact h
    · exact h
  · exact h

theorem elapsedTo_epochShape {s : State} (h : s.EpochShape) (moment : Nat) : (elapseTo moment s).EpochShape :=
  h.same (elapse_sameShape _ s)

theorem expireRequest_sameShape (r : HostRequest) (s : State) : s.SameShape (expireRequest r s) := .of_eq

theorem discardSlot_sameShape (i : Fin 4) (s : State) : s.SameShape (discardSlot i s) := .of_eq

theorem hostReadAnswered_sameShape (owner : ReadOwner) (a : ReadAnswer) (s : State) :
    s.SameShape (hostReadAnswered owner a s) := .of_eq

theorem fetchAnswered_sameShape (i : Fin 4) (a : ReadAnswer) (s : State) : s.SameShape (fetchAnswered i a s) := .of_eq

/-! ### Every move and every step -/

theorem Moves.epochShape {s t : State} (hmove : Moves s t) (h : s.EpochShape) : t.EpochShape := by
  have hspace {u : State} (hu : u.EpochShape) : (updateSpace u).EpochShape := updateSpace_epochShape hu
  have hanswered (rest : List MemoryEntry) : (s.answered rest).EpochShape := h.same (.of_eq rfl rfl rfl rfl)
  have hcommand {u : State} (hu : u.EpochShape) : (respond .ok [] (updateSpace u)).EpochShape :=
    (hspace hu).same (.of_eq rfl rfl rfl rfl)
  have helapsed (d : Nat) : (elapse d s).EpochShape := h.same (elapse_sameShape d s)
  cases hmove with
  | idle => exact h
  | ticked => exact helapsed 1
  | refused a => exact h.same .of_eq
  | readForwarded r => exact h.same .of_eq
  | writeOffered r journaled => exact hspace (h.same (offerWrite_sameShape r journaled s))
  | waitingTaken r journaled => exact hspace (h.same (takeWrite_sameShape r journaled s))
  | lineCleared line =>
    unfold clearLine
    split
    · exact h
    · exact h.same .of_eq
  | waitExpired =>
    unfold expireWait
    split
    · exact h
    · exact (elapsedTo_epochShape h _).same (expireRequest_sameShape _ _)
  | deferredExpired i =>
    unfold expireDeferred
    split
    · exact h
    · split
      · dsimp only
        split_ifs
        · exact h.same .of_eq
        · exact h
        · exact (helapsed _).same (discardSlot_sameShape _ _)
      · exact h
  | captureOffered => exact offerCapture_epochShape h
  | headReleased => exact hspace (h.same (releaseHead_sameShape s))
  | hostReadGranted =>
    unfold grantHostRead
    split
    · exact h
    · exact h.same (.of_eq rfl rfl rfl rfl)
  | fetchGranted i =>
    unfold grantFetch
    split
    · exact h
    · exact h.same (.of_eq rfl rfl rfl rfl)
  | captureGranted =>
    unfold grantCapture
    split
    · exact h
    · split
      · exact h
      · exact h.same (.of_eq rfl rfl rfl rfl)
  | recordGranted =>
    unfold grantRecord
    split
    · exact h
    · exact h.same (.of_eq rfl rfl rfl rfl)
  | anchorGranted => exact h.same (grantAnchor_sameShape s)
  | replayGranted =>
    unfold grantReplay
    split
    · exact h
    · exact h.same ⟨rfl, rfl, rfl, rfl, rfl, rfl⟩
  | issued =>
    unfold issue
    split
    · exact h.same (.of_eq rfl rfl rfl rfl)
    · exact h
  | hostReadAnswer => exact (hanswered _).same (hostReadAnswered_sameShape _ _ _)
  | fetchDropped => exact hanswered _
  | fetchAnswer => exact (hanswered _).same (fetchAnswered_sameShape _ _ _)
  | dataWriteAnswer _ _ a => exact hspace (dataWriteAnswered_epochShape (hanswered _) a _ _)
  | passWriteAnswer _ _ a =>
    cases a with
    | done => exact hanswered _
    | fault => exact logged_epochShape (hanswered _) _ _ _ _
  | captureDropped => exact hanswered _
  | captureDone _ _ _ _ data => exact hspace (assignLine_epochShape (hanswered _) _ _ data)
  | captureFault => exact hspace (faultCapture_epochShape (hanswered _) _ _)
  | captureCancelled =>
    exact hspace (noteCapturesSettled_epochShape ((hanswered _).same (releaseCapture_sameShape _ _ _)))
  | recordHeadDone => exact hspace (recordDurable_epochShape (hanswered _) _)
  | recordBodyDone => exact hanswered _
  | recordFault => exact hspace (recordFaulted_epochShape (hanswered _) _)
  | firstAnchorLine _ _ a => exact anchorLineAnswered_epochShape (hanswered _) _ a
  | secondAnchorLine _ _ a => exact hspace (anchorLineAnswered_epochShape (hanswered _) _ a)
  | anchorReadAnswer _ _ a => exact hspace (anchorReadAnswered_epochShape (hanswered _) a)
  | replayHeadAnswer _ _ a => exact hspace (replayHeadAnswered_epochShape (hanswered _) a _)
  | replayBodyAnswer _ _ a => exact hspace (replayBodyAnswered_epochShape (hanswered _) a _)
  | restoreAnswer _ _ a => exact hspace (restoreAnswered_epochShape (hanswered _) a _ _ _)
  | timedOut _ moment => exact hspace (timeOut_epochShape (helapsed _))
  | unfit => exact hspace (timeOut_epochShape h)
  | ageExpired moment => exact hspace (fireTrigger_epochShape (helapsed _) _)
  | managed => exact h.same .of_eq
  | emptyCommitted e hjudge => exact hcommand (commitEmpty_epochShape h hjudge)
  | commitStarted e hjudge => exact hcommand (commitOpen_epochShape h hjudge)
  | emptyQuiesced e hjudge => exact hcommand (quiesceEmpty_epochShape h hjudge)
  | quiesceStarted e hjudge => exact hcommand (quiesceOpen_epochShape h hjudge)
  | aborted hmode hroll hcommitting => exact hcommand (startRollback_epochShape h hmode hroll hcommitting)
  | resumed hmode => exact hcommand (resumeActive_epochShape h hmode)
  | bypassed hmode => exact (setMode_bypass_epochShape h hmode).same (.of_eq rfl rfl rfl rfl)
  | storeStarted => exact h.same (.of_eq rfl rfl rfl rfl)
  | pinned => exact h.same (.of_eq rfl rfl rfl rfl)
  | frozen p =>
    refine State.EpochShape.same (s := (s.setPins p).setModes { s.modes with freeze := true }) ?_ .of_eq
    exact h.same (.of_eq rfl rfl rfl rfl)
  | thawed p => exact thaw_epochShape (h.same (t := s.setPins p) (.of_eq rfl rfl rfl rfl))
  | resetAsserted => exact h.same (.of_eq rfl rfl rfl rfl)

/-- After a reset no epoch is live, and the anchor reads of LOADING begin (R118, R138, R158). -/
theorem afterReset_epochShape (pfi : Bool) (straps : BitVec 2) (csLow : Bool) (rest : List Instr) :
    (State.afterReset pfi straps csLow rest).EpochShape :=
  State.epochShape_of_empty (by simp [State.afterReset]) (by simp [State.afterReset]) rfl (by simp [State.afterReset])
    (fun _ => rfl) rfl rfl

/-- Settles O60: each sequence that changes the table takes the shape of one mode to the shape of the next. -/
theorem epochShapeKept : Obligations.EpochShapeKept := by
  intro s t h hnext
  exact step_keeps (P := State.EpochShape) (fun _ _ h => h) afterReset_epochShape
    (fun _ _ hmove h => hmove.epochShape h) h hnext

end Sys2Proof.Machine

/-! The step, the tick, the queue of commands and reset (R13, R133, R156, R158): the settlements of O1, O2, O3, O4 and
O5. -/

namespace Sys2Proof.Machine

-- One theorem at a time: the proofs below would otherwise wait for one another in many threads.
set_option Elab.async false

/-! ### The step and the tick -/

/-- Settles O1: the branch of `step` on a queue that is not empty. -/
theorem stepRunsFrontCommand : Obligations.StepRunsFrontCommand := by
  intro c rest s h
  simp [step, h]

theorem step_of_empty {s : State} (h : s.pending = []) : step s = .next (tick s) := by simp [step, h]

theorem tick_of_inReset {s : State} (h : s.pins.inReset = true) : tick s = s := by simp [tick, h]

theorem tick_of_running {s : State} (h : s.Running) : tick s = elapse 1 s := by
  have h' : s.pins.inReset = false := h
  simp [tick, h']

theorem elapse_of_clear {s : State} (h : s.modes.freeze = false) (d : Nat) :
    elapse d s =
      { s with
        pins := { s.pins with now := s.pins.now + d }
        host := { s.host with deferred := mapDeferred (Deferred.grow d) s.host.deferred } } := by
  simp only [elapse, h]
  rfl

theorem elapse_of_frozen {s : State} (h : s.modes.freeze = true) (d : Nat) :
    elapse d s =
      { s with
        pins := { s.pins with now := s.pins.now + d }
        epochs := { s.epochs with table := s.epochs.table.map (LiveEpoch.holdAge d) } } := by
  simp only [elapse, h]
  rfl

@[simp] theorem elapse_now (d : Nat) (s : State) : (elapse d s).pins.now = s.pins.now + d := by
  cases h : s.modes.freeze
  · rw [elapse_of_clear h]
  · rw [elapse_of_frozen h]

@[simp] theorem elapseTo_now (t : Nat) (s : State) : (elapseTo t s).pins.now = max t s.pins.now := by
  simp only [elapseTo, elapse_now]
  omega

theorem Deferred.grow_of_ready {x : Deferred} {data : List Byte} {age : Nat} (h : x.state = .ready data age) (d : Nat) :
    x.grow d = { x with state := .ready data (age + d) } := by
  simp [Deferred.grow, h]

theorem Deferred.grow_of_fetching {x : Deferred} {stage : FetchStage} (h : x.state = .fetching stage) (d : Nat) :
    x.grow d = x := by
  simp [Deferred.grow, h]

@[simp] theorem mapDeferred_getElem (f : Deferred → Deferred) (v : Vector (Option Deferred) 4) (i : Fin 4) :
    (mapDeferred f v)[i] = v[i].map f := by
  fin_cases i <;> rfl

/-- Settles O2: the idle tick and the passing of time, in reset, while the freeze flag is clear, and while it is set. -/
theorem idleStepPassesOneTick : Obligations.IdleStepPassesOneTick := by
  refine ⟨fun s h => ⟨fun hreset => ?_, fun hrun hfreeze => ?_, fun hrun hfreeze => ?_⟩,
    fun s d => ⟨fun h => elapse_of_clear h d, fun h => elapse_of_frozen h d⟩,
    fun s t => ⟨rfl, elapseTo_now t s⟩,
    fun d x e f slots i => ⟨fun data age h => Deferred.grow_of_ready h d, fun stage h => Deferred.grow_of_fetching h d,
      rfl, mapDeferred_getElem f slots i⟩⟩
  · rw [step_of_empty h, tick_of_inReset hreset]
  · rw [step_of_empty h, tick_of_running hrun, elapse_of_clear hfreeze]
  · rw [step_of_empty h, tick_of_running hrun, elapse_of_frozen hfreeze]

/-! ### The queue of commands -/

@[simp] theorem completeRecovery_pending (s : State) : (completeRecovery s).pending = s.pending := by
  unfold completeRecovery
  split
  · rfl
  · dsimp only
    split_ifs <;> simp

@[simp] theorem completeQuiesce_pending (s : State) : (completeQuiesce s).pending = s.pending := by
  unfold completeQuiesce
  (repeat' split) <;> simp

@[simp] theorem logAnchorFault_pending (target : Copy) (first second : LineAnswer) (s : State) :
    (logAnchorFault target first second s).pending = s.pending := by
  unfold logAnchorFault
  split_ifs <;> simp

@[simp] theorem judgeUpdate_pending (w : AnchorWrite) (tail : Nat) (sequence : Word) (endsRecovery : Bool)
    (first second : LineAnswer) (s : State) :
    (judgeUpdate w tail sequence endsRecovery first second s).pending = s.pending := by
  unfold judgeUpdate
  split
  · rfl
  · simp

@[simp] theorem installStore_pending (w : AnchorWrite) (c : Configuration) (s : State) :
    (installStore w c s).pending = s.pending := by
  simp [installStore, makeCurrent]

@[simp] theorem judgeStore_pending (w : AnchorWrite) (c : Configuration) (first second : LineAnswer) (s : State) :
    (judgeStore w c first second s).pending = s.pending := by
  dsimp only [judgeStore]
  split_ifs <;> simp [makeCurrent]

@[simp] theorem judgeAnchorWrite_pending (w : AnchorWrite) (first second : LineAnswer) (s : State) :
    (judgeAnchorWrite w first second s).pending = s.pending := by
  dsimp only [judgeAnchorWrite]
  (repeat' split) <;> simp

@[simp] theorem anchorLineAnswered_pending (second : Bool) (a : LineAnswer) (s : State) :
    (anchorLineAnswered second a s).pending = s.pending := by
  unfold anchorLineAnswered
  (repeat' split) <;> simp

@[simp] theorem loadCopy_pending (c : Copy) (f : AnchorFields) (s : State) : (loadCopy c f s).pending = s.pending := by
  simp [loadCopy]

@[simp] theorem loadNothing_pending (s : State) : (loadNothing s).pending = s.pending := by simp [loadNothing]

@[simp] theorem judgeCopies_pending (s : State) (answers : List (Option (List Byte))) :
    (judgeCopies s answers).pending = s.pending := by
  unfold judgeCopies
  (repeat' split) <;> simp

@[simp] theorem anchorReadAnswered_pending (a : ReadAnswer) (s : State) :
    (anchorReadAnswered a s).pending = s.pending := by
  unfold anchorReadAnswered
  split
  · rfl
  · dsimp only
    split_ifs <;> simp

@[simp] theorem requestMarker_pending {kind : RecordKind} {n : Word} {next : Nat → Word → State → State} {s : State}
    (hnext : ∀ slot sequence t, (next slot sequence t).pending = t.pending) :
    (requestMarker kind n next s).pending = s.pending := by
  unfold requestMarker
  split_ifs <;> simp [hnext]

@[simp] theorem anchorRecovery_pending (q : Recovery) (closed : Word) (s : State) :
    (anchorRecovery q closed s).pending = s.pending := by
  simp [anchorRecovery]

@[simp] theorem finishRestoring_pending (q : Recovery) (s : State) : (finishRestoring q s).pending = s.pending := by
  unfold finishRestoring
  split
  · simp
  · exact requestMarker_pending fun _ _ _ => rfl

@[simp] theorem judgeRollbackSlot_pending (r : Rollback) (w : Walk) (head body : List Byte) (s : State) :
    (judgeRollbackSlot r w head body s).pending = s.pending := by
  dsimp only [judgeRollbackSlot]
  (repeat' split) <;> simp [failCheck]

@[simp] theorem judgeRecoverySlot_pending (q : Recovery) (w : Walk) (head body : List Byte) (s : State) :
    (judgeRecoverySlot q w head body s).pending = s.pending := by
  dsimp only [judgeRecoverySlot]
  (repeat' split) <;> simp [failCheck]

@[simp] theorem endScan_pending (q : Recovery) (k : Nat) (s : State) : (endScan q k s).pending = s.pending := by
  dsimp only [endScan]
  split_ifs <;> simp

@[simp] theorem judgeScanSlot_pending (q : Recovery) (k : Nat) (head body : List Byte) (s : State) :
    (judgeScanSlot q k head body s).pending = s.pending := by
  dsimp only [judgeScanSlot]
  (repeat' split) <;> simp

@[simp] theorem replayBodyRead_pending (body : List Byte) (s : State) :
    (replayBodyRead body s).pending = s.pending := by
  unfold replayBodyRead
  (repeat' split) <;> simp

@[simp] theorem restoreDone_pending (s : State) : (restoreDone s).pending = s.pending := by
  dsimp only [restoreDone]
  (repeat' split) <;> simp [State.setRollback]

@[simp] theorem endCapture_pending (i : Fin 4) (c : Capture) (s : State) :
    (endCapture i c s).pending = s.pending := by
  simp [endCapture]

@[simp] theorem releaseCapture_pending (i : Fin 4) (c : Capture) (s : State) :
    (releaseCapture i c s).pending = s.pending := by
  simp [releaseCapture]

@[simp] theorem faultCapture_pending (i : Fin 4) (c : Capture) (s : State) :
    (faultCapture i c s).pending = s.pending := by
  simp [faultCapture, State.setTable]

@[simp] theorem assignLine_pending (i : Fin 4) (c : Capture) (data : List Byte) (s : State) :
    (assignLine i c data s).pending = s.pending := by
  dsimp only [assignLine]
  split_ifs <;> simp [State.setTable]

@[simp] theorem commitPoint_pending (info : RecordInfo) (s : State) : (commitPoint info s).pending = s.pending := by
  unfold commitPoint
  split
  · split
    · dsimp only
      split_ifs <;> simp
    · rfl
  · rfl

@[simp] theorem closeDurable_pending (info : RecordInfo) (s : State) : (closeDurable info s).pending = s.pending := by
  unfold closeDurable
  (repeat' split) <;> simp [endRollback, State.setRollback]

@[simp] theorem recordDurable_pending (info : RecordInfo) (s : State) :
    (recordDurable info s).pending = s.pending := by
  unfold recordDurable
  split
  · rfl
  · dsimp only
    (repeat' split) <;> simp

@[simp] theorem recordFaulted_pending (info : RecordInfo) (s : State) :
    (recordFaulted info s).pending = s.pending := by
  unfold recordFaulted
  split_ifs <;> simp

@[simp] theorem dataWriteAnswered_pending (a : WriteAnswer) (n : Word) (e : MemoryEntry) (s : State) :
    (dataWriteAnswered a n e s).pending = s.pending := by
  cases a <;> simp [dataWriteAnswered, State.setTable]

@[simp] theorem endTimedOut_pending (e : MemoryEntry) (s : State) : (endTimedOut s e).pending = s.pending := by
  unfold endTimedOut
  (repeat' split) <;> simp

@[simp] theorem foldl_endTimedOut_pending (ended : List MemoryEntry) (s : State) :
    (ended.foldl endTimedOut s).pending = s.pending := by
  induction ended generalizing s with
  | nil => rfl
  | cons e rest ih => rw [List.foldl_cons, ih, endTimedOut_pending]

@[simp] theorem timeOut_pending (s : State) : (timeOut s).pending = s.pending := by
  unfold timeOut
  split <;> simp

@[simp] theorem quiesceOpen_pending (n : Word) (s : State) : (quiesceOpen n s).pending = s.pending := by
  simp [quiesceOpen]

@[simp] theorem startRollback_pending (s : State) : (startRollback s).pending = s.pending := by
  simp [startRollback]

theorem Moves.pending {s t : State} (hmove : Moves s t) : t.pending = s.pending := by
  cases hmove with
  | lineCleared line =>
    unfold clearLine
    split <;> simp
  | waitExpired =>
    unfold expireWait
    split <;> simp
  | deferredExpired i =>
    dsimp only [expireDeferred]
    (repeat' split) <;> simp
  | captureOffered =>
    unfold offerCapture
    (repeat' split) <;> simp [startCapture]
  | headReleased =>
    unfold releaseHead
    split
    · simp
    · dsimp only
      split <;> simp [passTurn, State.setTable]
  | hostReadGranted =>
    unfold grantHostRead
    split <;> simp [passTurn]
  | fetchGranted i =>
    unfold grantFetch
    split <;> simp [passTurn]
  | captureGranted =>
    unfold grantCapture
    (repeat' split) <;> simp
  | recordGranted =>
    unfold grantRecord
    split <;> simp
  | anchorGranted =>
    unfold grantAnchor
    split <;> simp
  | replayGranted =>
    unfold grantReplay
    split <;> simp
  | issued =>
    unfold issue
    split <;> simp
  | passWriteAnswer _ _ a => cases a <;> simp [passWriteAnswered, State.answered]
  | replayHeadAnswer _ _ a =>
    unfold replayHeadAnswered
    (repeat' split) <;> simp [failReplayRead, State.answered]
  | replayBodyAnswer _ _ a =>
    unfold replayBodyAnswered
    (repeat' split) <;> simp [failReplayRead, State.answered]
  | restoreAnswer _ _ a =>
    unfold restoreAnswered restoreFaulted
    (repeat' split) <;> simp [State.answered]
  | thawed p =>
    dsimp only [thaw]
    split <;> simp
  | emptyQuiesced => simp [respond, quiesceEmpty]
  | resumed => simp [respond, resumeActive]
  | _ => simp [respond, State.answered]

/-- No command faults, and none is refused. -/
theorem exec_answers (c : Instr) (s : State) : ∃ t : State, exec c s = .next t := by
  cases c <;> exact ⟨_, rfl⟩

/-! ### Reset -/

theorem next_of_inReset {s : State} (h : s.pins.inReset = true) (t : State) :
    (.next (if s.pins.inReset then s else t) : Host.Outcome State Fault Refusal) = .next s := by
  simp [h]

theorem exec_of_inReset {s : State} (h : s.pins.inReset = true) {c : Instr} (hassert : c ≠ .pfiAssert)
    (hdeassert : c ≠ .pfiDeassert) (hreset : c ≠ .resetAssert) (hrelease : ∀ straps csLow, c ≠ .resetRelease straps csLow) :
    exec c s = .next s := by
  cases c with
  | pfiAssert => exact absurd rfl hassert
  | pfiDeassert => exact absurd rfl hdeassert
  | resetAssert => exact absurd rfl hreset
  | resetRelease straps csLow => exact absurd rfl (hrelease straps csLow)
  | _ => exact next_of_inReset h _

section
variable (pfi : Bool) (straps : BitVec 2) (csLow : Bool) (queue : List Instr)

theorem afterReset_slots (i : Fin 4) : (State.afterReset pfi straps csLow queue).capture.slots[i] = none := by
  fin_cases i <;> rfl

theorem afterReset_deferred (i : Fin 4) : (State.afterReset pfi straps csLow queue).host.deferred[i] = none := by
  fin_cases i <;> rfl

theorem afterReset_counter (c : Counter) : (State.afterReset pfi straps csLow queue).counter c = 0#32 := by
  cases c <;> rfl

theorem afterReset_anchorRequest :
    (State.afterReset pfi straps csLow queue).anchorRequest =
      some
        { source := .anchorRead .a false, line := (State.afterReset pfi straps csLow queue).anchorBase, offset := 0,
          length := 64, data := [], issued := none } := by
  simp [State.anchorRequest, State.afterReset, loadingRead, readEntry, State.copyAddress, State.anchorBase,
    Config.lineBytes]

theorem afterReset_arbiter :
    (State.afterReset pfi straps csLow queue).arbiter = if pfi then none else some .anchor := by
  cases pfi <;> rfl

end

/-- Settles O4: what acts in reset, and every field of the state after it. -/
theorem resetLines : Obligations.ResetLines := by
  refine ⟨fun s => ?_, fun c s h => ⟨fun h1 h2 h3 h4 => exec_of_inReset h h1 h2 h3 h4, ?_, ?_⟩,
    fun s straps csLow => ⟨rfl, State.afterReset s.pins.pfi straps csLow s.pending, rfl, ?_⟩⟩
  · refine ⟨fun h => ?_, fun h => ?_, fun h => ?_, fun h => ?_⟩ <;> simp [State.anchorBase, Config.anchorBase, h]
  · simp [exec, execPfiAssert, h, State.setPins]
  · simp [exec, execPfiDeassert, h, State.setPins]
  · refine ⟨rfl, rfl, rfl, rfl, rfl, rfl, rfl, rfl, rfl, rfl, rfl, rfl, rfl, ?_, rfl, rfl, rfl, rfl, rfl, rfl, rfl, ?_, rfl,
      rfl, rfl, rfl, rfl, rfl, rfl, rfl, rfl, rfl, rfl, rfl, ?_, rfl, rfl, rfl, rfl, ?_, ?_⟩
    · exact afterReset_slots _ _ _ _
    · exact afterReset_deferred _ _ _ _
    · exact afterReset_counter _ _ _ _
    · exact afterReset_anchorRequest _ _ _ _
    · exact afterReset_arbiter _ _ _ _

/-! ### The invariants after reset -/

section
variable (pfi : Bool) (straps : BitVec 2) (csLow : Bool) (queue : List Instr)

theorem afterReset_bounded : (State.afterReset pfi straps csLow queue).Bounded := by
  simp [State.Bounded, State.afterReset]

theorem afterReset_issueOrdered : (State.afterReset pfi straps csLow queue).IssueOrdered :=
  ⟨List.Pairwise.nil, Nat.zero_le _⟩

theorem afterReset_countsRight : (State.afterReset pfi straps csLow queue).CountsRight := by
  intro _
  refine ⟨?_, ?_, ?_, List.Pairwise.nil, ?_, fun i c h => ?_, ?_, ?_, ?_⟩
  · simp [State.afterReset, EpochTable.epochs]
  · simp [State.afterReset]
  · simp [State.afterReset]
  · simp [State.afterReset]
  · rw [afterReset_slots] at h
    cases h
  · simp [State.afterReset]
  · simp [State.afterReset]
  · simp [State.afterReset]

theorem afterReset_journalBounds : (State.afterReset pfi straps csLow queue).JournalBounds := by
  refine ⟨Nat.zero_le _, rfl, fun _ => rfl, ?_, ?_, fun _ => ⟨List.nodup_nil, ?_, ?_, List.Perm.nil, Nat.zero_le _, ?_⟩⟩
  · simp [State.afterReset]
  · simp [State.afterReset]
  · simp [State.afterReset, State.captureReads]
  · simp [State.afterReset]
  · simp [State.afterReset, State.recordHeads]

end

/-- Settles O5: each invariant after any reset, by the lemma of that invariant. -/
theorem invariantsHoldAtReset : Obligations.InvariantsHoldAtReset :=
  ⟨fun pfi straps csLow queue =>
    ⟨afterReset_irqRight pfi straps csLow queue, afterReset_bounded pfi straps csLow queue,
      afterReset_issueOrdered pfi straps csLow queue, afterReset_haltQuiet pfi straps csLow queue,
      afterReset_epochShape pfi straps csLow queue, afterReset_countsRight pfi straps csLow queue,
      afterReset_journalBounds pfi straps csLow queue⟩,
    rfl, rfl⟩

/-- Settles O3: RESET_RELEASE keeps the queue, and so does every move of the other commands. -/
theorem everyCommandAnswersAndKeepsQueue : Obligations.EveryCommandAnswersAndKeepsQueue := by
  intro c s
  obtain ⟨t, ht⟩ := exec_answers c s
  refine ⟨t, ht, ?_⟩
  by_cases hc : ∃ straps csLow, c = .resetRelease straps csLow
  · obtain ⟨straps, csLow, rfl⟩ := hc
    cases ht
    rfl
  · exact (exec_moves (fun straps csLow h => hc ⟨straps, csLow, h⟩) ht).pending

end Sys2Proof.Machine

/-! The host port's operands (R122, R124, R125): the settlements of O11, O12 and O13. -/

namespace Sys2Proof.Machine

-- One theorem at a time: the proofs below would otherwise wait for one another in many threads.
set_option Elab.async false

/-! ### Searches in order of number -/

/-- The first number that a condition picks. -/
theorem find?_finRange_eq_some {n : Nat} {p : Fin n → Bool} {i : Fin n} (hi : p i = true)
    (hj : ∀ j, j < i → p j = false) : (List.finRange n).find? p = some i := by
  refine List.find?_eq_some_iff_getElem.mpr ⟨hi, i.val, by simp, by simp, fun j hji => ?_⟩
  simpa using hj ⟨j, by omega⟩ hji

theorem find?_finRange_eq_none {n : Nat} {p : Fin n → Bool} (h : ∀ i, p i = false) : (List.finRange n).find? p = none := by
  simpa using h

theorem windowOrder_eq : windowOrder = List.finRange 8 := rfl

theorem slotOrder_eq : slotOrder = List.finRange 4 := rfl

/-! ### Classification -/

theorem Configuration.classify_of_window {c : Configuration} {address : Word} {i : Fin 8}
    (hi : c.windows[i].contains address = true) (hj : ∀ j, j < i → c.windows[j].contains address = false) :
    c.classify address = (classOfMode c.windows[i].mode, some i) := by
  unfold Configuration.classify
  rw [windowOrder_eq, find?_finRange_eq_some (p := fun i => c.windows[i].contains address) hi hj]

theorem Configuration.classify_of_none {c : Configuration} {address : Word}
    (h : ∀ i : Fin 8, c.windows[i].contains address = false) :
    c.classify address = (if c.defaultMode = 0#2 then .pass else .readonly, none) := by
  unfold Configuration.classify
  rw [windowOrder_eq, find?_finRange_eq_none (p := fun i : Fin 8 => c.windows[i].contains address) h]

/-- Settles O11: the search through the windows in index order. -/
theorem lowestWindowClassifies : Obligations.LowestWindowClassifies := by
  intro c address
  refine ⟨fun i => ?_, fun i hi hj => ?_, fun h => ?_⟩
  · rw [Window.contains_iff]
    refine and_congr_right fun _ => and_congr_right fun _ => ?_
    omega
  · rw [Configuration.classify_of_window hi hj]
    exact ⟨rfl, congrArg classOfMode, congrArg classOfMode, congrArg classOfMode⟩
  · rw [Configuration.classify_of_none h]
    refine ⟨rfl, fun h => ?_, fun h => ?_⟩ <;> simp [h]

/-! ### The tests on arrival -/

theorem State.guarded_iff (s : State) (address : Word) :
    s.guarded address = true ↔
      (s.anchorBase.toNat ≤ address.toNat ∧ address.toNat < s.anchorBase.toNat + 256) ∨
      (16 ≤ s.anchor.working.slots.toNat ∧ s.anchor.working.slots.toNat ≤ 1048576 ∧
        s.anchor.working.basePage.toNat * 4096 ≤ address.toNat ∧
        address.toNat < s.anchor.working.basePage.toNat * 4096 + s.anchor.working.slots.toNat * 128) := by
  rw [State.guarded, Bool.or_eq_true, inAnchorRegion_iff, Configuration.inArea_iff, and_assoc]

section
variable {s : State} {r : HostRequest}

theorem State.judgeArrival_of_frozen (h : s.modes.freeze = true) : s.judgeArrival r = .retry := by
  simp [State.judgeArrival, h]

theorem State.judgeArrival_of_boundary (h : s.modes.freeze = false) (hb : 64 < r.offset + r.length) :
    s.judgeArrival r = .fault .boundary := by
  simp [State.judgeArrival, h, hb]

theorem State.judgeArrival_of_start (h : s.modes.freeze = false) (hb : r.offset + r.length ≤ 64)
    (hmode : s.modes.mode = .loading ∨ s.modes.mode = .recovering) : s.judgeArrival r = .retry := by
  simp [State.judgeArrival, h, Nat.not_lt.mpr hb, hmode]

theorem State.judgeArrival_of_guarded (h : s.modes.freeze = false) (hb : r.offset + r.length ≤ 64)
    (hloading : s.modes.mode ≠ .loading) (hrecovering : s.modes.mode ≠ .recovering)
    (hg : s.guarded r.address = true) : s.judgeArrival r = .fault .guarded := by
  simp [State.judgeArrival, h, Nat.not_lt.mpr hb, hloading, hrecovering, hg]

theorem State.judgeArrival_of_passed (h : s.modes.freeze = false) (hb : r.offset + r.length ≤ 64)
    (hloading : s.modes.mode ≠ .loading) (hrecovering : s.modes.mode ≠ .recovering)
    (hg : s.guarded r.address = false) : s.judgeArrival r = s.judge r.kind r.cls := by
  simp [State.judgeArrival, h, Nat.not_lt.mpr hb, hloading, hrecovering, hg]

end

/-! ### Answers at once -/

theorem answerHost_retry (s : State) :
    answerHost .retry s = bump .retries { s with host := { s.host with current := none, answer := some .retry } } := rfl

theorem answerHost_fault (k : FaultKind) (s : State) :
    answerHost (.fault k) s =
      bump .faults { s with host := { s.host with current := none, answer := some (.fault k) } } := rfl

theorem answerHost_done (data : List Byte) (s : State) :
    answerHost (.done data) s = { s with host := { s.host with current := none, answer := some (.done data) } } := rfl

/-- With no request current, an answer changes the answer given and its counter. -/
theorem answerHost_retry_of_free {s : State} (h : s.host.current = none) :
    answerHost .retry s = bump .retries { s with host := { s.host with answer := some .retry } } := by
  rw [answerHost_retry, ← h]

theorem answerHost_fault_of_free {s : State} (h : s.host.current = none) (k : FaultKind) :
    answerHost (.fault k) s = bump .faults { s with host := { s.host with answer := some (.fault k) } } := by
  rw [answerHost_fault, ← h]

section
variable {s : State} {r : HostRequest} (hfree : s.host.current = none) (forward : Judgement → State → State)
include hfree

theorem arriveRequest_of_retry (h : s.judgeArrival r = .retry) :
    arriveRequest r forward s = bump .retries { s with host := { s.host with answer := some .retry } } := by
  simp [arriveRequest, hfree, h, answerHost_retry_of_free hfree]

theorem arriveRequest_of_fault {k : FaultKind} (h : s.judgeArrival r = .fault k) :
    arriveRequest r forward s = bump .faults { s with host := { s.host with answer := some (.fault k) } } := by
  simp [arriveRequest, hfree, h, answerHost_fault_of_free hfree]

theorem arriveRequest_of_forward (h : s.judgeArrival r = .forward) :
    arriveRequest r forward s = forward .forward s := by
  simp [arriveRequest, hfree, h]

theorem arriveRequest_of_journal (h : s.judgeArrival r = .journal) :
    arriveRequest r forward s = forward .journal s := by
  simp [arriveRequest, hfree, h]

end

theorem exec_hostReadRequest {s : State} (h : s.Running) (q : BitVec 4) (address : Word) (length : Nat) :
    exec (.hostReadRequest q address length) s =
      .next (arriveRequest (s.arrive .read q address length []) (fun _ => startRead (s.arrive .read q address length []))
        s) :=
  whileRunning_of_running h _

theorem exec_hostWriteRequest {s : State} (h : s.Running) (q : BitVec 4) (address : Word) (data : List Byte) :
    exec (.hostWriteRequest q address data) s =
      .next (arriveRequest (s.arrive .write q address data.length data)
        (fun j s' => updateSpace (offerWrite (s.arrive .write q address data.length data) (j == .journal) s')) s) :=
  whileRunning_of_running h _

/-- Settles O12: one lemma for each test, in their order. -/
theorem arrivalTestsInOrder : Obligations.ArrivalTestsInOrder := by
  refine ⟨fun s r => ⟨s.guarded_iff r.address, State.judgeArrival_of_frozen, State.judgeArrival_of_boundary,
      fun h hb => ⟨State.judgeArrival_of_start h hb, fun hl hr =>
        ⟨State.judgeArrival_of_guarded h hb hl hr, State.judgeArrival_of_passed h hb hl hr⟩⟩⟩,
    fun s q address length data kind hrun hfree => ⟨fun h => ?_, fun h => ?_, fun h => ?_, fun h => ?_⟩⟩
  · rw [exec_hostReadRequest hrun, arriveRequest_of_retry hfree _ h]
  · rw [exec_hostReadRequest hrun, arriveRequest_of_fault hfree _ h]
  · rw [exec_hostWriteRequest hrun, arriveRequest_of_retry hfree _ h]
  · rw [exec_hostWriteRequest hrun, arriveRequest_of_fault hfree _ h]

/-! ### The answer table -/

/-- Of two live epochs, one OPEN: the search finds one. -/
theorem EpochTable.opened_isSome_iff (t : EpochTable) :
    t.opened.isSome = true ↔ ∃ e ∈ t.epochs, e.state = .opened := by
  have hopened : t.opened = t.epochs.find? fun e => e.state == .opened := rfl
  simp [hopened, List.find?_isSome]

/-- Settles O13: the table of `State.judge`, mode by mode. -/
theorem answerTable : Obligations.AnswerTable := by
  intro s hloading hrecovering
  cases hmode : s.modes.mode with
  | loading => exact absurd hmode hloading
  | recovering => exact absurd hmode hrecovering
  | active =>
    have hopen := s.epochs.table.opened_isSome_iff
    cases hr : s.replay.rollback <;> simp [State.judge, State.rollingBack, hmode, hr]
    exact fun e he hstate => Option.isSome_iff_ne_none.mp (hopen.mpr ⟨e, he, hstate⟩)
  | _ => simp [State.judge, hmode]

end Sys2Proof.Machine

/-! The request in hand, forwarded reads and deferred entries (R127 to R132): the settlements of O14, O15, O16, O19, O20
and O21. -/

namespace Sys2Proof.Machine

-- One theorem at a time: the proofs below would otherwise wait for one another in many threads.
set_option Elab.async false

/-! ### The request in hand judged afresh -/

theorem rejudge_of_free {s : State} (h : s.host.current = none) : rejudge s = s := by simp [rejudge, h]

theorem reclassify_of_free {s : State} (h : s.host.current = none) : reclassify s = s := by simp [reclassify, h]

section
variable {s : State} {r : HostRequest} (h : s.host.current = some r)
include h

theorem rejudge_of_retry (hretry : s.modes.freeze = true ∨ s.judge r.kind r.cls = .retry) :
    rejudge s = answerWaiting .retry s := by
  unfold rejudge
  obtain hretry | hretry := hretry
  · simp [h, hretry]
  · cases hfreeze : s.modes.freeze <;> simp [h, hretry, hfreeze]

theorem rejudge_of_fault {k : FaultKind} (hfreeze : s.modes.freeze = false) (hfault : s.judge r.kind r.cls = .fault k) :
    rejudge s = answerWaiting (.fault k) s := by
  simp [rejudge, h, hfreeze, hfault]

theorem rejudge_of_passed (hfreeze : s.modes.freeze = false)
    (hpass : s.judge r.kind r.cls = .forward ∨ s.judge r.kind r.cls = .journal) : rejudge s = s := by
  obtain hpass | hpass := hpass <;> simp [rejudge, h, hfreeze, hpass]

theorem reclassify_of_guarded (hg : s.guarded r.address = true) :
    reclassify s = answerWaiting (.fault .guarded) s := by
  simp [reclassify, h, hg]

theorem reclassify_of_unguarded (hg : s.guarded r.address = false) :
    reclassify s =
      rejudge
        { s with
          host :=
            { s.host with
              current := some
                { r with
                  cls := (s.anchor.working.classify r.address).1
                  window := (s.anchor.working.classify r.address).2 } } } := by
  simp [reclassify, h, hg, State.setHost]

end

/-- Settles O14: the branches of `rejudge` and `reclassify`. -/
theorem requestInHandJudgedAfresh : Obligations.RequestInHandJudgedAfresh := by
  refine fun s => ⟨fun h => ⟨rejudge_of_free h, reclassify_of_free h⟩, fun r h => ⟨fun hretry => ?_, fun k hf hk => ?_,
    fun hf hp => rejudge_of_passed h hf hp, fun hg => ?_, fun hg => reclassify_of_unguarded h hg⟩⟩
  · rw [rejudge_of_retry h hretry]
    rfl
  · rw [rejudge_of_fault h hf hk]
    rfl
  · rw [reclassify_of_guarded h hg]
    rfl

/-! ### Deferred slots -/

theorem HostPort.freeSlot_eq_some {p : HostPort} {i : Fin 4} (hi : p.deferred[i] = none)
    (hj : ∀ j : Fin 4, j < i → p.deferred[j] ≠ none) : p.freeSlot = some i := by
  unfold HostPort.freeSlot
  rw [slotOrder_eq]
  exact find?_finRange_eq_some (by simpa using hi) fun j hji =>
    Option.isNone_eq_false_iff.mpr (Option.isSome_iff_ne_none.mpr (hj j hji))

theorem HostPort.freeSlot_eq_none {p : HostPort} (h : ∀ i : Fin 4, p.deferred[i] ≠ none) : p.freeSlot = none := by
  unfold HostPort.freeSlot
  rw [slotOrder_eq]
  exact find?_finRange_eq_none fun i => Option.isNone_eq_false_iff.mpr (Option.isSome_iff_ne_none.mpr (h i))

theorem HostPort.findSlot_eq_some {p : HostPort} {pick : Deferred → Bool} {i : Fin 4} (h : p.findSlot pick = some i) :
    ∃ d, p.deferred[i] = some d ∧ pick d = true := by
  have hpick := List.find?_some h
  cases hd : p.deferred[i] with
  | none => simp [hd] at hpick
  | some d => exact ⟨d, rfl, by simpa [hd] using hpick⟩

theorem Deferred.matchesRequest_iff (d : Deferred) (r : HostRequest) :
    d.matchesRequest r = true ↔
      d.requester = r.requester ∧ d.line = r.line ∧ d.offset = r.offset ∧ d.length = r.length := by
  simp [Deferred.matchesRequest, and_assoc]

/-! ### The queue entries of a slot and of the current read -/

/-- The source of an entry of the current read, with its owner changed. -/
def Source.owned (owner : ReadOwner) : Source → Source
  | .hostRead q .current => .hostRead q owner
  | source => source

/-- The source of an entry of a slot that `picked` picks, abandoned. -/
def Source.abandonedIf (picked : Fin 4 → Bool) : Source → Source
  | .hostRead q (.slot i) => if picked i then .hostRead q .abandoned else .hostRead q (.slot i)
  | .deferredFetch i b => if picked i then .deferredFetch i true else .deferredFetch i b
  | source => source

theorem ownCurrentRead_eq (owner : ReadOwner) (s : State) :
    ownCurrentRead owner s =
      { s with
        memory :=
          { s.memory with
            queue := s.memory.queue.map fun e => { e with source := e.source.owned owner } } } := by
  unfold ownCurrentRead
  refine congrArg (fun q => s.setMemory { s.memory with queue := q }) (List.map_congr_left fun e _ => ?_)
  rcases e with ⟨source, line, offset, length, data, issued⟩
  cases source with
  | hostRead q o => cases o <;> rfl
  | _ => rfl

theorem abandonFetch_eq (i : Fin 4) (s : State) :
    abandonFetch i s =
      { s with
        memory :=
          { s.memory with
            queue := s.memory.queue.map fun e => { e with source := e.source.abandonedIf (· == i) } } } := by
  unfold abandonFetch
  refine congrArg (fun q => s.setMemory { s.memory with queue := q }) (List.map_congr_left fun e _ => ?_)
  rcases e with ⟨source, line, offset, length, data, issued⟩
  cases source with
  | hostRead q o =>
    cases o with
    | slot j => by_cases h : j = i <;> simp [Source.abandonedIf, h]
    | _ => rfl
  | deferredFetch j b => by_cases h : j = i <;> simp [Source.abandonedIf, h]
  | _ => rfl

theorem Source.abandonedIf_abandonedIf (p q : Fin 4 → Bool) (x : Source) :
    (x.abandonedIf p).abandonedIf q = x.abandonedIf fun i => p i || q i := by
  cases x with
  | hostRead r o =>
    cases o with
    | slot i => cases hp : p i <;> cases hq : q i <;> simp [Source.abandonedIf, hp, hq]
    | _ => rfl
  | deferredFetch i b => cases hp : p i <;> cases hq : q i <;> simp [Source.abandonedIf, hp, hq]
  | _ => rfl

@[simp] theorem Source.abandonedIf_false (x : Source) : x.abandonedIf (fun _ => false) = x := by
  cases x with
  | hostRead r o => cases o <;> rfl
  | _ => rfl

/-- With no read of the current request in the queue, its owner is nobody's to change. -/
theorem ownCurrentRead_of_none {s : State} (h : s.NoCurrentRead) (owner : ReadOwner) : ownCurrentRead owner s = s := by
  have hmap : (s.memory.queue.map fun e => { e with source := e.source.owned owner }) = s.memory.queue := by
    refine (List.map_congr_left fun e he => ?_).trans (List.map_id _)
    rcases e with ⟨source, line, offset, length, data, issued⟩
    cases source with
    | hostRead q o =>
      cases o with
      | current => exact absurd rfl (h _ he q)
      | _ => rfl
    | _ => rfl
  rw [ownCurrentRead_eq, hmap]

/-! ### Discards -/

/-- From `s` to `t` the deferred entries of the slots that `picked` picks have been discarded, `count` of them. -/
structure State.Discards (s : State) (picked : Fin 4 → Bool) (count : Nat) (t : State) : Prop where
  deferred : ∀ i : Fin 4, t.host.deferred[i] = if picked i then none else s.host.deferred[i]
  current : t.host.current = s.host.current
  answer : t.host.answer = s.host.answer
  turn : t.memory.turn = s.memory.turn
  queue : t.memory.queue = s.memory.queue.map fun e => { e with source := e.source.abandonedIf picked }
  discarded : t.counter .deferredDiscarded = saturatingSucc^[count] (s.counter .deferredDiscarded)
  counters : ∀ c : Counter, c ≠ .deferredDiscarded → t.counter c = s.counter c
  management : t.management = { s.management with counters := t.management.counters }

theorem State.Discards.refl (s : State) : s.Discards (fun _ => false) 0 s := by
  constructor <;> simp

theorem State.Discards.trans {s t u : State} {p q : Fin 4 → Bool} {m n : Nat} (h : s.Discards p m t)
    (h' : t.Discards q n u) : s.Discards (fun i => p i || q i) (n + m) u where
  deferred i := by
    rw [h'.deferred, h.deferred]
    cases p i <;> cases q i <;> rfl
  current := h'.current.trans h.current
  answer := h'.answer.trans h.answer
  turn := h'.turn.trans h.turn
  queue := by simp [h'.queue, h.queue, Source.abandonedIf_abandonedIf]
  discarded := by rw [h'.discarded, h.discarded, Function.iterate_add_apply]
  counters c hc := (h'.counters c hc).trans (h.counters c hc)
  management := by rw [h'.management, h.management]

theorem bump_counter (c d : Counter) (s : State) :
    (bump c s).counter d = if d = c then saturatingSucc (s.counter c) else s.counter d := by
  unfold State.counter bump
  by_cases h : d = c
  · simp [h]
  · have hindex : c.index.val ≠ d.index.val := by
      revert h
      cases c <;> cases d <;> decide
    simp [h, Vector.getElem_set_ne _ _ hindex]

@[simp] theorem bump_counter_self (c : Counter) (s : State) : (bump c s).counter c = saturatingSucc (s.counter c) := by
  simp [bump_counter]

theorem bump_counter_of_ne {c d : Counter} (h : d ≠ c) (s : State) : (bump c s).counter d = s.counter d := by
  simp [bump_counter, h]

theorem discardSlot_of_some {s : State} {i : Fin 4} {d : Deferred} (h : s.host.deferred[i] = some d) :
    discardSlot i s =
      bump .deferredDiscarded
        { s with
          host := { s.host with deferred := s.host.deferred.set i none }
          memory := (abandonFetch i s).memory } := by
  unfold discardSlot
  rw [h]
  rfl

theorem discardSlot_discards {s : State} {i : Fin 4} {d : Deferred} (h : s.host.deferred[i] = some d) :
    s.Discards (· == i) 1 (discardSlot i s) := by
  rw [discardSlot_of_some h, abandonFetch_eq]
  constructor
  · intro j
    by_cases hj : j = i
    · subst hj
      simp
    · have hval : i.val ≠ j.val := fun hv => hj (Fin.ext hv.symm)
      simp [hj, Vector.getElem_set_ne _ _ hval]
  · rfl
  · rfl
  · rfl
  · rfl
  · exact bump_counter_self _ _
  · exact fun c hc => bump_counter_of_ne hc _
  · rfl

/-- The slot holds an entry that `p` picks. -/
def State.picks (s : State) (p : Deferred → Bool) (i : Fin 4) : Bool := (s.host.deferred[i].map p).getD false

theorem discardIf_discards (p : Deferred → Bool) (i : Fin 4) (s : State) :
    s.Discards (fun j => j == i && s.picks p i) (s.picks p i).toNat (discardIf p i s) := by
  unfold discardIf
  split
  · next h => simpa [State.picks, h] using State.Discards.refl s
  · next d h =>
    split
    · next hp => simpa [State.picks, h, hp] using discardSlot_discards h
    · next hp => simpa [State.picks, h, hp] using State.Discards.refl s

/-- A slot that was not picked is picked afterwards as before. -/
theorem State.Discards.picks {s t : State} {picked : Fin 4 → Bool} {n : Nat} (h : s.Discards picked n t) {i : Fin 4}
    (hi : picked i = false) (p : Deferred → Bool) : t.picks p i = s.picks p i := by
  simp [State.picks, h.deferred, hi]

theorem countP_slotOrder (p : Fin 4 → Bool) :
    (slotOrder.filter p).length = (p 3).toNat + ((p 2).toNat + ((p 1).toNat + (p 0).toNat)) := by
  simp [slotOrder, ← List.countP_eq_length_filter, List.countP_cons, Bool.toNat, Bool.cond_eq_ite, Nat.add_assoc]

theorem discardDeferred_discards (p : Deferred → Bool) (s : State) :
    s.Discards (s.picks p) (slotOrder.filter (s.picks p)).length (discardDeferred p s) := by
  have h0 := discardIf_discards p 0 s
  have h1 := h0.trans (discardIf_discards p 1 _)
  have h2 := h1.trans (discardIf_discards p 2 _)
  have h3 := h2.trans (discardIf_discards p 3 _)
  rw [h2.picks rfl, h1.picks rfl, h0.picks rfl, ← countP_slotOrder] at h3
  convert h3 using 1
  · funext i
    fin_cases i <;> simp
  · rfl

/-- Settles O19: what the four slots give, one after the other. -/
theorem deferredDiscard : Obligations.DeferredDiscard := by
  intro p s
  have h := discardDeferred_discards p s
  refine ⟨h.deferred, h.current, h.answer, h.turn, ?_, h.discarded, h.counters, h.management, by simp⟩
  rw [h.queue]
  refine List.map_congr_left fun e _ => ?_
  rcases e with ⟨source, line, offset, length, data, issued⟩
  cases source with
  | hostRead q o => cases o <;> rfl
  | _ => rfl

/-! ### Waiting and the host wait limit -/

/-- What the host wait limit makes of a read that is kept, with a slot free or none (R126, R130). -/
theorem keepRead_of_free {s : State} {i : Fin 4} (hi : s.host.deferred[i] = none)
    (hj : ∀ j : Fin 4, j < i → s.host.deferred[j] ≠ none) (r : HostRequest) (stage : FetchStage) :
    keepRead r stage s =
      { s with
        host := { s.host with
          deferred := s.host.deferred.set i (some
            { requester := r.requester, line := r.line, offset := r.offset, length := r.length,
              state := .fetching stage }) }
        memory := (ownCurrentRead (.slot i) s).memory } := by
  unfold keepRead
  rw [HostPort.freeSlot_eq_some hi hj]
  rfl

theorem keepRead_of_full {s : State} (h : ∀ i : Fin 4, s.host.deferred[i] ≠ none) (r : HostRequest)
    (stage : FetchStage) :
    keepRead r stage s = { s with memory := (ownCurrentRead .abandoned s).memory } := by
  unfold keepRead
  rw [HostPort.freeSlot_eq_none h]
  rfl

theorem expireRequest_of_stage {r : HostRequest} {stage : FetchStage} (h : r.wait.stage = some stage) (s : State) :
    expireRequest r s =
      answerHost .retry (keepRead r stage (discardDeferred (fun d => d.requester == r.requester) s)) := by
  simp [expireRequest, h]

theorem expireRequest_of_none {r : HostRequest} (h : r.wait.stage = none) (s : State) :
    expireRequest r s = answerHost .retry s := by
  simp [expireRequest, h]

theorem beginWait_of_limit {s : State} (h : s.anchor.working.waitLimit ≠ 0#8) (r : HostRequest) :
    beginWait r s = { s with host := { s.host with current := some r, answer := none } } := by
  simp [beginWait, h, State.setHost]

theorem beginWait_of_zero {s : State} (h : s.anchor.working.waitLimit = 0#8) (r : HostRequest) :
    beginWait r s = expireRequest r { s with host := { s.host with current := some r, answer := none } } := by
  simp [beginWait, h, State.setHost]

/-- A discard does not look at the current request. -/
theorem discardDeferred_setCurrent (p : Deferred → Bool) (s : State) (current : Option HostRequest)
    (answer : Option HostAnswer) :
    discardDeferred p { s with host := { s.host with current := current, answer := answer } } =
      { discardDeferred p s with
        host := { (discardDeferred p s).host with current := current, answer := answer } } := by
  have hslot (i : Fin 4) (u : State) :
      discardIf p i { u with host := { u.host with current := current, answer := answer } } =
        { discardIf p i u with host := { (discardIf p i u).host with current := current, answer := answer } } := by
    unfold discardIf discardSlot
    cases h : u.host.deferred[i] with
    | none => simp [h]
    | some d => by_cases hp : p d = true <;> simp [h, hp] <;> rfl
  simp only [discardDeferred, hslot]

theorem State.Discards.noCurrentRead {s t : State} {picked : Fin 4 → Bool} {n : Nat} (h : s.Discards picked n t)
    (hread : s.NoCurrentRead) : t.NoCurrentRead := by
  intro e he q
  rw [h.queue] at he
  obtain ⟨x, hx, rfl⟩ := List.mem_map.mp he
  have hne := hread x hx q
  rcases x with ⟨source, line, offset, length, data, issued⟩
  cases source with
  | hostRead r o =>
    cases o with
    | slot i => cases hp : picked i <;> simp [Source.abandonedIf, hp]
    | _ => exact hne
  | deferredFetch i b => cases hp : picked i <;> simp [Source.abandonedIf, hp]
  | _ => simp [Source.abandonedIf]

/-- With nothing picked, a discard changes nothing. -/
theorem discardDeferred_of_none {p : Deferred → Bool} {s : State}
    (h : ∀ (i : Fin 4) (d : Deferred), s.host.deferred[i] = some d → p d = false) : discardDeferred p s = s := by
  have hslot (i : Fin 4) : discardIf p i s = s := by
    unfold discardIf
    split
    · rfl
    · next d hd => simp [h i d hd]
  simp [discardDeferred, hslot]

section
variable {s v : State} {r : HostRequest} {stage : FetchStage} (hstage : r.wait.stage = some stage)
  (hv : discardDeferred (fun d => d.requester == r.requester) s = v)
include hstage hv

theorem expireRequest_of_free {i : Fin 4} (hi : v.host.deferred[i] = none)
    (hj : ∀ j : Fin 4, j < i → v.host.deferred[j] ≠ none) :
    expireRequest r s =
      bump .retries
        { v with
          host :=
            { current := none
              deferred := v.host.deferred.set i (some
                { requester := r.requester, line := r.line, offset := r.offset, length := r.length,
                  state := .fetching stage })
              answer := some .retry }
          memory := (ownCurrentRead (.slot i) v).memory } := by
  rw [expireRequest_of_stage hstage, hv, keepRead_of_free hi hj]
  rfl

theorem expireRequest_of_full (hfull : ∀ i : Fin 4, v.host.deferred[i] ≠ none) :
    expireRequest r s =
      bump .retries
        { v with
          host := { v.host with current := none, answer := some .retry }
          memory := (ownCurrentRead .abandoned v).memory } := by
  rw [expireRequest_of_stage hstage, hv, keepRead_of_full hfull]
  rfl

end

/-! ### Reads that arrive -/

theorem startRead_of_unmatched {s : State} {r : HostRequest}
    (h : s.host.findSlot (fun d => d.matchesRequest r) = none) :
    startRead r s = beginWait { r with wait := if s.lineHeld r.line then .lineWait else .grantWait } s := by
  simp [startRead, h]

section
variable {s : State} {r : HostRequest} {i : Fin 4} {d : Deferred}
  (h : s.host.findSlot (fun d => d.matchesRequest r) = some i) (hd : s.host.deferred[i] = some d)
include h hd

theorem startRead_of_ready {data : List Byte} {age : Nat} (hstate : d.state = .ready data age) :
    startRead r s =
      bump .deferredServed (bump .hostReads
        { s with
          host := { current := none, deferred := s.host.deferred.set i none, answer := some (.done data) } }) := by
  unfold startRead
  simp only [h, hd, hstate]
  rfl

theorem startRead_of_fetching {stage : FetchStage} (hstate : d.state = .fetching stage) :
    startRead r s = beginWait { r with wait := .slotWait i } s := by
  unfold startRead
  simp only [h, hd, hstate]

end

/-- With a host wait limit of 0, a read that matches no entry is kept at once (R126, R130). -/
theorem startRead_of_zero {s : State} {r : HostRequest} (h : s.host.findSlot (fun d => d.matchesRequest r) = none)
    (hzero : s.anchor.working.waitLimit = 0#8) :
    startRead r s =
      expireRequest { r with wait := if s.lineHeld r.line then .lineWait else .grantWait }
        { s with host := { s.host with
            current := some { r with wait := if s.lineHeld r.line then .lineWait else .grantWait }, answer := none } } := by
  rw [startRead_of_unmatched h, beginWait_of_zero hzero]

/-- The fetch stage that follows the wait state of a read as it arrives. -/
theorem stage_of_lineHeld (held : Bool) :
    WaitState.stage (if held then .lineWait else .grantWait) = some (if held then .lineWait else .grantWait) := by
  cases held <;> rfl

section
variable {s v : State} {r : HostRequest} (h : s.host.findSlot (fun d => d.matchesRequest r) = none)
  (hzero : s.anchor.working.waitLimit = 0#8) (hread : s.NoCurrentRead)
  (hv : discardDeferred (fun d => d.requester == r.requester) s = v)
include h hzero hread hv

theorem startRead_of_free {i : Fin 4} (hi : v.host.deferred[i] = none)
    (hj : ∀ j : Fin 4, j < i → v.host.deferred[j] ≠ none) :
    startRead r s =
      bump .retries
        { v with
          host :=
            { current := none
              deferred := v.host.deferred.set i (some
                { requester := r.requester, line := r.line, offset := r.offset, length := r.length,
                  state := .fetching (if s.lineHeld r.line then .lineWait else .grantWait) })
              answer := some .retry } } := by
  have hv' : v.NoCurrentRead := hv ▸ (discardDeferred_discards _ s).noCurrentRead hread
  rw [startRead_of_zero h hzero,
    expireRequest_of_free (stage_of_lineHeld (s.lineHeld r.line)) (discardDeferred_setCurrent _ s _ _)
      (by rw [hv]; exact hi) (by rw [hv]; exact hj), hv, ownCurrentRead_of_none (by exact hv')]

theorem startRead_of_full (hfull : ∀ i : Fin 4, v.host.deferred[i] ≠ none) :
    startRead r s = bump .retries { v with host := { v.host with current := none, answer := some .retry } } := by
  have hv' : v.NoCurrentRead := hv ▸ (discardDeferred_discards _ s).noCurrentRead hread
  rw [startRead_of_zero h hzero,
    expireRequest_of_full (stage_of_lineHeld (s.lineHeld r.line)) (discardDeferred_setCurrent _ s _ _)
      (by rw [hv]; exact hfull), hv, ownCurrentRead_of_none (by exact hv')]

end

/-- Settles O15: a limit that is on, a limit of 0 with no older entry, and one with an older entry. -/
theorem hostReadForwarded : Obligations.HostReadForwarded := by
  intro s q address length r held hrun hfree hforward hmatch
  have hexec : exec (.hostReadRequest q address length) s = .next (startRead r s) := by
    rw [exec_hostReadRequest hrun, arriveRequest_of_forward hfree _ hforward]
  refine ⟨fun hlimit => ?_, fun hzero hread hothers => ⟨fun i hi hj => ?_, fun hfull => ?_⟩,
    fun hzero hread old d hd hq => ⟨?_, fun i hi hj => ?_⟩⟩
  · rw [hexec, startRead_of_unmatched hmatch, beginWait_of_limit hlimit]
    rfl
  · have hnone := discardDeferred_of_none (p := fun d => d.requester == r.requester) fun i d hd =>
      beq_eq_false_iff_ne.mpr (hothers i d hd)
    rw [hexec, startRead_of_free hmatch hzero hread hnone hi hj]
    rfl
  · have hnone := discardDeferred_of_none (p := fun d => d.requester == r.requester) fun i d hd =>
      beq_eq_false_iff_ne.mpr (hothers i d hd)
    rw [hexec, startRead_of_full hmatch hzero hread hnone hfull]
    simp only [hfree]
  · have hpicked : s.picks (fun d => d.requester == q) old = true := by simp [State.picks, hd, hq]
    rw [(discardDeferred_discards _ s).deferred, hpicked]
    rfl
  · rw [hexec, startRead_of_free hmatch hzero hread rfl hi hj]
    rfl

/-- Settles O16: what the matching entry holds, and its two states. -/
theorem hostReadMatchesDeferred : Obligations.HostReadMatchesDeferred := by
  intro s q address length i d r hrun hfree hforward hmatch hd
  have hexec : exec (.hostReadRequest q address length) s = .next (startRead r s) := by
    rw [exec_hostReadRequest hrun, arriveRequest_of_forward hfree _ hforward]
  obtain ⟨d', hd', hpick⟩ := HostPort.findSlot_eq_some hmatch
  cases hd.symm.trans hd'
  refine ⟨(d.matchesRequest_iff r).mp hpick, fun data age hstate => ?_, fun stage hstate =>
    ⟨fun hlimit => ?_, fun hzero => ?_⟩⟩
  · rw [hexec, startRead_of_ready hmatch hd hstate]
  · rw [hexec, startRead_of_fetching hmatch hd hstate, beginWait_of_limit hlimit]
  · rw [hexec, startRead_of_fetching hmatch hd hstate, beginWait_of_zero hzero, expireRequest_of_none rfl,
      answerHost_retry]
    simp only [hfree]

/-! ### Reads behind writes -/

theorem clearLine_of_held {s : State} {line : Word} (h : s.lineHeld line = true) : clearLine line s = s := by
  simp [clearLine, h]

theorem clearLine_of_free {s : State} {line : Word} (h : s.lineHeld line = false) :
    clearLine line s =
      { s with
        host := { s.host with
          current := s.host.current.map (HostRequest.lineCleared line)
          deferred := mapDeferred (Deferred.lineCleared line) s.host.deferred } } := by
  simp [clearLine, h, State.setHost]

/-- Settles O20: the line held or not. -/
theorem lineWaitCleared : Obligations.LineWaitCleared := by
  intro s line hrun
  have hexec : exec (.lineWaitCleared line) s = .next (clearLine line s) := whileRunning_of_running hrun _
  refine ⟨fun hheld => ?_, fun hfree => ?_⟩
  · rw [hexec, clearLine_of_held ((s.lineHeld_iff line).mpr hheld)]
  · have hline : s.lineHeld line = false := by
      rw [← Bool.not_eq_true, s.lineHeld_iff]
      rintro ⟨e, he, hline⟩
      exact hfree e he hline
    rw [clearLine_of_free hline] at hexec
    refine ⟨_, hexec, rfl, fun r hr => ?_, fun hnone => ?_, fun i d hd => ?_, fun i hnone => ?_⟩
    · simp [hr, HostRequest.lineCleared]
    · simp [hnone]
    · rw [mapDeferred_getElem, hd]
      rfl
    · rw [mapDeferred_getElem, hnone]
      rfl

/-! ### The two limits -/

theorem exec_hostWaitLimitExpiry {s : State} (h : s.Running) {r : HostRequest} (hr : s.host.current = some r) :
    exec .hostWaitLimitExpiry s =
      .next (expireRequest r (elapseTo (r.arrival + s.anchor.working.waitLimit.toNat) s)) := by
  refine (whileRunning_of_running h expireWait).trans ?_
  simp [expireWait, hr]

section
variable {s : State} {i : Fin 4} {d : Deferred} {data : List Byte} {age : Nat} (h : s.host.deferred[i] = some d)
  (hstate : d.state = .ready data age)
include h hstate

theorem expireDeferred_of_frozen (hfreeze : s.modes.freeze = true) :
    expireDeferred i s = if s.anchor.working.discardLimit.toNat ≤ age then discardSlot i s else s := by
  unfold expireDeferred
  simp only [h, hstate, hfreeze]
  rfl

theorem expireDeferred_of_clear (hfreeze : s.modes.freeze = false) :
    expireDeferred i s = discardSlot i (elapse (s.anchor.working.discardLimit.toNat - age) s) := by
  unfold expireDeferred
  simp only [h, hstate, hfreeze]
  rfl

end

theorem elapse_deferred_of_clear {s : State} (h : s.modes.freeze = false) {i : Fin 4} {d : Deferred}
    (hd : s.host.deferred[i] = some d) (n : Nat) : (elapse n s).host.deferred[i] = some (d.grow n) := by
  rw [elapse_of_clear h]
  exact (mapDeferred_getElem _ _ i).trans (by rw [hd]; rfl)

theorem abandonFetch_memory_elapse (i : Fin 4) (n : Nat) (s : State) :
    (abandonFetch i (elapse n s)).memory = (abandonFetch i s).memory := by
  simp [abandonFetch]

/-- Settles O21: the queue entries an owner change and a discard touch, the discard limit, and the host wait limit in
each wait state. -/
theorem hostPortLimits : Obligations.HostPortLimits := by
  refine ⟨fun s i owner => ⟨?_, ?_⟩, fun s i d data age hrun hd hstate => ?_, fun s r hrun hr => ⟨fun hwait => ?_,
    fun stage hstage => ?_⟩⟩
  · rw [ownCurrentRead_eq]
    refine congrArg (fun q => { s with memory := { s.memory with queue := q } }) (List.map_congr_left fun e _ => ?_)
    rcases e with ⟨source, line, offset, length, data, issued⟩
    cases source with
    | hostRead q o => cases o <;> rfl
    | _ => rfl
  · rw [abandonFetch_eq]
    refine congrArg (fun q => { s with memory := { s.memory with queue := q } }) (List.map_congr_left fun e _ => ?_)
    rcases e with ⟨source, line, offset, length, data, issued⟩
    cases source with
    | hostRead q o =>
      cases o with
      | slot j => simp [Source.abandonedIf]
      | _ => rfl
    | deferredFetch j b => simp [Source.abandonedIf]
    | _ => rfl
  · have hexec : exec (.deferredDiscardLimitExpiry i) s = .next (expireDeferred i s) := whileRunning_of_running hrun _
    rw [hexec]
    refine ⟨fun hfreeze hage => ?_, fun hfreeze hage => ?_, fun hfreeze => ?_⟩
    · rw [expireDeferred_of_frozen hd hstate hfreeze, if_neg (by omega)]
    · rw [expireDeferred_of_frozen hd hstate hfreeze, if_pos hage, discardSlot_of_some hd]
    · rw [expireDeferred_of_clear hd hstate hfreeze, discardSlot_of_some (elapse_deferred_of_clear hfreeze hd _),
        abandonFetch_memory_elapse]
  · have hnone : r.wait.stage = none := by
      obtain hwait | ⟨i, hwait⟩ := hwait <;> rw [hwait] <;> rfl
    rw [exec_hostWaitLimitExpiry hrun hr, expireRequest_of_none hnone]
    rfl
  · have hstage : r.wait.stage = some stage := by
      obtain ⟨hwait, rfl⟩ | ⟨hwait, rfl⟩ | ⟨hwait, rfl⟩ := hstage <;> rw [hwait] <;> rfl
    rw [exec_hostWaitLimitExpiry hrun hr]
    refine ⟨fun i hi hj => ?_, fun hfull => ?_⟩
    · rw [expireRequest_of_free hstage rfl hi hj]
    · rw [expireRequest_of_full hstage rfl hfull]

end Sys2Proof.Machine

/-! Writes taken, answers to reads and data writes, events, counters, the error log, damage and PFI#: the settlements of
O17, O18, O27, O28, O29, O30 and O54. -/

namespace Sys2Proof.Machine

-- One theorem at a time: the proofs below would otherwise wait for one another in many threads.
set_option Elab.async false

/-! ### Writes offered -/

theorem offerWrite_of_room {s : State} (h : s.hold.entries.length < 16) (r : HostRequest) (journaled : Bool) :
    offerWrite r journaled s = takeWrite r journaled s := by
  simp [offerWrite, Config.holdPlaces, h]

theorem offerWrite_of_full {s : State} (h : 16 ≤ s.hold.entries.length) (r : HostRequest) (journaled : Bool) :
    offerWrite r journaled s = bump .holdFullWaits (beginWait { r with wait := .placeWait } s) := by
  simp [offerWrite, Config.holdPlaces, Nat.not_lt.mpr h]

section
variable {s : State} (hrun : s.Running) (q : BitVec 4) (address : Word) (data : List Byte)
include hrun

theorem exec_hostWriteRequest_of_forward (hfree : s.host.current = none)
    (h : s.judgeArrival (s.arrive .write q address data.length data) = .forward) :
    exec (.hostWriteRequest q address data) s =
      .next (updateSpace (offerWrite (s.arrive .write q address data.length data) false s)) := by
  rw [exec_hostWriteRequest hrun, arriveRequest_of_forward hfree _ h]
  rfl

theorem exec_hostWriteRequest_of_journal (hfree : s.host.current = none)
    (h : s.judgeArrival (s.arrive .write q address data.length data) = .journal) :
    exec (.hostWriteRequest q address data) s =
      .next (updateSpace (offerWrite (s.arrive .write q address data.length data) true s)) := by
  rw [exec_hostWriteRequest hrun, arriveRequest_of_journal hfree _ h]
  rfl

end

section
variable {s : State} {x : HostRequest} (hx : s.host.current = some x) (hwait : x.wait = .placeWait)
include hx hwait

theorem takeWaiting_of_full (h : 16 ≤ s.hold.entries.length) : takeWaiting s = s := by
  simp [takeWaiting, hx, hwait, Config.holdPlaces, Nat.not_lt.mpr h]

theorem takeWaiting_of_forward (h : s.hold.entries.length < 16) (hjudge : s.judge x.kind x.cls = .forward) :
    takeWaiting s = updateSpace (takeWrite x false s) := by
  simp [takeWaiting, hx, hwait, Config.holdPlaces, h, hjudge]

theorem takeWaiting_of_journal (h : s.hold.entries.length < 16) (hjudge : s.judge x.kind x.cls = .journal) :
    takeWaiting s = updateSpace (takeWrite x true s) := by
  simp [takeWaiting, hx, hwait, Config.holdPlaces, h, hjudge]

end

/-- A write that waits for a place with a host wait limit of 0 is answered RETRY (R43, R126). -/
theorem beginWait_placeWait_of_zero {s : State} (hfree : s.host.current = none)
    (hzero : s.anchor.working.waitLimit = 0#8) (r : HostRequest) :
    beginWait { r with wait := .placeWait } s =
      bump .retries { s with host := { s.host with answer := some .retry } } := by
  rw [beginWait_of_zero hzero, expireRequest_of_none rfl, answerHost_retry]
  simp only [hfree]

/-- Settles O17: a place free or none, on arrival and in PLACE-WAIT. -/
theorem writesOffered : Obligations.WritesOffered := by
  intro s q address data r hrun
  refine ⟨fun hfree hroom => ⟨fun h => ?_, fun h => ?_⟩, fun hfree hfull h => ?_, fun x hx hwait => ?_⟩
  · rw [exec_hostWriteRequest_of_forward hrun q address data hfree h, offerWrite_of_room hroom]
  · rw [exec_hostWriteRequest_of_journal hrun q address data hfree h, offerWrite_of_room hroom]
  · have hexec : exec (.hostWriteRequest q address data) s =
        .next (updateSpace (bump .holdFullWaits (beginWait { r with wait := .placeWait } s))) := by
      obtain h | h := h
      · rw [exec_hostWriteRequest_of_forward hrun q address data hfree h, offerWrite_of_full hfull]
      · rw [exec_hostWriteRequest_of_journal hrun q address data hfree h, offerWrite_of_full hfull]
    refine ⟨fun hlimit => ?_, fun hzero => ?_⟩
    · rw [hexec, beginWait_of_limit hlimit]
    · rw [hexec, beginWait_placeWait_of_zero hfree hzero]
  · have hexec : exec .waitingWriteTaken s = .next (takeWaiting s) := whileRunning_of_running hrun _
    rw [hexec]
    refine ⟨fun hfull => ?_, fun hroom => ⟨fun h => ?_, fun h => ?_⟩⟩
    · rw [takeWaiting_of_full hx hwait hfull]
    · rw [takeWaiting_of_forward hx hwait hroom h]
    · rw [takeWaiting_of_journal hx hwait hroom h]

/-! ### Writes taken -/

theorem takeWrite_pass (r : HostRequest) (s : State) :
    takeWrite r false s =
      bump .hostWrites (answerHost (.done []) (takePass r (discardDeferred (fun d => d.line == r.line) s))) := rfl

theorem takeWrite_journal {s : State} {r : HostRequest} {w : Fin 8} {o : LiveEpoch} (hw : r.window = some w)
    (ho : s.epochs.table.opened = some o) :
    takeWrite r true s =
      bump .hostWrites
        (answerHost (.done []) (takeJournal r w o.number (discardDeferred (fun d => d.line == r.line) s))) := by
  simp [takeWrite, hw, ho]

/-- The hold entry that the tag lookup has not set up yet (R40, R41). -/
def State.journalEntry (s : State) (r : HostRequest) (w : Fin 8) (n : Word) : HoldEntry :=
  { id := s.hold.nextId, cls := .journal n w, line := r.line, offset := r.offset, data := r.data,
    state := .needsCapture, tag := none, capture := none }

/-- The state with the held entries of epoch `n` risen by one (R11). -/
def State.countHeld (s : State) (n : Word) : State :=
  s.setTable (s.epochs.table.modify n fun e => { e with held := e.held + 1 })

section
variable {s : State} {r : HostRequest} {n : Word} (w : Fin 8)

theorem takeJournal_of_saved (h : s.capture.tagState ⟨r.line, n⟩ = some .saved) :
    takeJournal r w n s =
      bump .tagHits (appendHold { s.journalEntry r w n with state := .ready } (s.countHeld n)) := by
  have h' : (s.countHeld n).capture.tagState ⟨r.line, n⟩ = some .saved := h
  dsimp only [takeJournal]
  rw [State.countHeld] at h'
  rw [h']
  rfl

theorem takeJournal_of_capturing {owner : Option Nat} {slot : Option (Fin 4)}
    (h : s.capture.tagState ⟨r.line, n⟩ = some (.capturing owner slot)) :
    takeJournal r w n s =
      bump .tagHits
        (appendHold { s.journalEntry r w n with state := .waitCapture, tag := some ⟨r.line, n⟩ } (s.countHeld n)) := by
  have h' : (s.countHeld n).capture.tagState ⟨r.line, n⟩ = some (.capturing owner slot) := h
  dsimp only [takeJournal]
  rw [State.countHeld] at h'
  rw [h']
  rfl

theorem takeJournal_of_room (h : s.capture.tagState ⟨r.line, n⟩ = none) (hroom : s.capture.tags.length < 256) :
    takeJournal r w n s =
      appendHold { s.journalEntry r w n with tag := some ⟨r.line, n⟩ }
        ((s.countHeld n).setCapture { s.capture with
          tags := s.capture.tags ++ [{ key := ⟨r.line, n⟩, state := .capturing (some s.hold.nextId) none }] }) := by
  have h' : (s.countHeld n).capture.tagState ⟨r.line, n⟩ = none := h
  dsimp only [takeJournal]
  rw [State.countHeld] at h'
  rw [h']
  exact if_pos hroom

theorem takeJournal_of_full (h : s.capture.tagState ⟨r.line, n⟩ = none) (hfull : 256 ≤ s.capture.tags.length) :
    takeJournal r w n s = bump .tagFullMisses (appendHold (s.journalEntry r w n) (s.countHeld n)) := by
  have h' : (s.countHeld n).capture.tagState ⟨r.line, n⟩ = none := h
  dsimp only [takeJournal]
  rw [State.countHeld] at h'
  rw [h']
  exact if_neg (Nat.not_lt.mpr hfull)

end

/-! What each outcome does to the hold queue, the tag table and the two counters. -/

section
variable {s : State} {r : HostRequest} {n : Word} (w : Fin 8)

theorem takeJournal_saved_effects (h : s.capture.tagState ⟨r.line, n⟩ = some .saved) :
    (takeJournal r w n s).hold.entries = s.hold.entries ++ [{ s.journalEntry r w n with state := .ready }] ∧
    (takeJournal r w n s).capture.tags = s.capture.tags ∧
    (takeJournal r w n s).counter .tagHits = saturatingSucc (s.counter .tagHits) ∧
    (takeJournal r w n s).counter .tagFullMisses = s.counter .tagFullMisses := by
  rw [takeJournal_of_saved w h]
  exact ⟨rfl, rfl, bump_counter_self _ _, bump_counter_of_ne (by simp) _⟩

theorem takeJournal_capturing_effects {owner : Option Nat} {slot : Option (Fin 4)}
    (h : s.capture.tagState ⟨r.line, n⟩ = some (.capturing owner slot)) :
    (takeJournal r w n s).hold.entries =
      s.hold.entries ++ [{ s.journalEntry r w n with state := .waitCapture, tag := some ⟨r.line, n⟩ }] ∧
    (takeJournal r w n s).capture.tags = s.capture.tags ∧
    (takeJournal r w n s).counter .tagHits = saturatingSucc (s.counter .tagHits) ∧
    (takeJournal r w n s).counter .tagFullMisses = s.counter .tagFullMisses := by
  rw [takeJournal_of_capturing w h]
  exact ⟨rfl, rfl, bump_counter_self _ _, bump_counter_of_ne (by simp) _⟩

theorem takeJournal_room_effects (h : s.capture.tagState ⟨r.line, n⟩ = none) (hroom : s.capture.tags.length < 256) :
    (takeJournal r w n s).hold.entries = s.hold.entries ++ [{ s.journalEntry r w n with tag := some ⟨r.line, n⟩ }] ∧
    (takeJournal r w n s).capture.tags =
      s.capture.tags ++ [{ key := ⟨r.line, n⟩, state := .capturing (some s.hold.nextId) none }] ∧
    (takeJournal r w n s).counter .tagHits = s.counter .tagHits ∧
    (takeJournal r w n s).counter .tagFullMisses = s.counter .tagFullMisses := by
  rw [takeJournal_of_room w h hroom]
  exact ⟨rfl, rfl, rfl, rfl⟩

theorem takeJournal_full_effects (h : s.capture.tagState ⟨r.line, n⟩ = none) (hfull : 256 ≤ s.capture.tags.length) :
    (takeJournal r w n s).hold.entries = s.hold.entries ++ [s.journalEntry r w n] ∧
    (takeJournal r w n s).capture.tags = s.capture.tags ∧
    (takeJournal r w n s).counter .tagHits = s.counter .tagHits ∧
    (takeJournal r w n s).counter .tagFullMisses = saturatingSucc (s.counter .tagFullMisses) := by
  rw [takeJournal_of_full w h hfull]
  exact ⟨rfl, rfl, bump_counter_of_ne (by simp) _, bump_counter_self _ _⟩

end

section
variable (r : HostRequest) (w : Fin 8) (n : Word) (s : State)

@[simp] theorem takeJournal_epochs : (takeJournal r w n s).epochs = (s.countHeld n).epochs := by
  dsimp only [takeJournal]
  (repeat' split) <;> simp [State.countHeld]

@[simp] theorem takeJournal_nextId : (takeJournal r w n s).hold.nextId = s.hold.nextId + 1 := by
  dsimp only [takeJournal]
  (repeat' split) <;> simp [appendHold, State.setTable]

@[simp] theorem takeJournal_slots : (takeJournal r w n s).capture.slots = s.capture.slots := by
  dsimp only [takeJournal]
  (repeat' split) <;> simp [appendHold, State.setTable]

@[simp] theorem takeJournal_reads : (takeJournal r w n s).capture.reads = s.capture.reads := by
  dsimp only [takeJournal]
  (repeat' split) <;> simp [appendHold, State.setTable]

theorem takeJournal_management :
    (takeJournal r w n s).management = { s.management with counters := (takeJournal r w n s).management.counters } := by
  dsimp only [takeJournal]
  (repeat' split) <;> rfl

theorem takeJournal_counter {c : Counter} (hhits : c ≠ .tagHits) (hmisses : c ≠ .tagFullMisses) :
    (takeJournal r w n s).counter c = s.counter c := by
  dsimp only [takeJournal]
  (repeat' split)
  · exact bump_counter_of_ne hhits _
  · exact bump_counter_of_ne hhits _
  · rfl
  · exact bump_counter_of_ne hmisses _

end

theorem bump_management (c : Counter) (s : State) :
    (bump c s).management = { s.management with counters := (bump c s).management.counters } := rfl

theorem answerHost_done_management (s : State) : (answerHost (.done []) s).management = s.management := rfl

theorem answerHost_done_counter (c : Counter) (s : State) : (answerHost (.done []) s).counter c = s.counter c := rfl

/-- Settles O18: the PASS entry, and the JOURNAL entry in each outcome of the tag lookup. -/
theorem takenWrites : Obligations.TakenWrites := by
  refine ⟨fun s r => ?_, ?_⟩
  · rw [takeWrite_pass, answerHost_done]
    simp [takePass, appendHold, State.setHold]
  · intro s r w o key u t entry hw ho
    have hdiscard := discardDeferred_discards (fun d => d.line == r.line) s
    have ht : t = bump .hostWrites (answerHost (.done []) (takeJournal r w o.number u)) := takeWrite_journal hw ho
    have hentry : u.journalEntry r w o.number = entry := by simp [State.journalEntry, u, entry]
    have htags : u.capture = s.capture := by simp [u]
    have hhold : u.hold = s.hold := by simp [u]
    have hcount (c : Counter) (hc : c ≠ .hostWrites) : t.counter c = (takeJournal r w o.number u).counter c := by
      rw [ht, bump_counter_of_ne hc]
      rfl
    have hthold : t.hold = (takeJournal r w o.number u).hold := by simp [ht]
    have htcapture : t.capture = (takeJournal r w o.number u).capture := by simp [ht]
    have hsame (c : Counter) (hc : c ≠ .deferredDiscarded) : u.counter c = s.counter c := hdiscard.counters c hc
    refine ⟨?_, ?_, ?_, ?_, ?_, ?_, ?_, ?_, ?_, ?_, ?_, ?_, ?_, ?_, ?_, fun h => ?_, fun owner slot h => ?_,
      fun h hroom => ?_, fun h hfull => ?_⟩
    · simp [ht, State.countHeld, u, State.setTable, EpochTable.modify]
    · simp [ht, answerHost_done]
    · simp [ht]
    · rw [ht, bump_counter_self, answerHost_done_counter, takeJournal_counter _ _ _ _ (by simp) (by simp),
        hsame _ (by simp)]
    · intro c hwrites hhits hmisses
      rw [hcount c hwrites, takeJournal_counter _ _ _ _ hhits hmisses]
    · rw [ht, bump_management, answerHost_done_management, takeJournal_management, hdiscard.management]
    · simp [ht, hhold, answerHost_done]
    · simp [ht, u]
    · simp [ht, u]
    · simp [ht, u]
    · simp [ht, u]
    · simp [ht, u]
    · simp [ht, u]
    · simp [ht, u]
    · simp [ht, u]
    · obtain ⟨hentries, htag, hhits, hmisses⟩ := takeJournal_saved_effects w (by rw [htags]; exact h)
      exact ⟨by rw [hthold, hentries, hhold, hentry], by rw [htcapture, htag, htags],
        by rw [hcount _ (by simp), hhits, hsame _ (by simp)], by rw [hcount _ (by simp), hmisses, hsame _ (by simp)]⟩
    · obtain ⟨hentries, htag, hhits, hmisses⟩ := takeJournal_capturing_effects w (by rw [htags]; exact h)
      exact ⟨by rw [hthold, hentries, hhold, hentry], by rw [htcapture, htag, htags],
        by rw [hcount _ (by simp), hhits, hsame _ (by simp)], by rw [hcount _ (by simp), hmisses, hsame _ (by simp)]⟩
    · obtain ⟨hentries, htag, hhits, hmisses⟩ :=
        takeJournal_room_effects w (by rw [htags]; exact h) (by rw [htags]; exact hroom)
      exact ⟨by rw [hthold, hentries, hhold, hentry], by rw [htcapture, htag, htags, hhold],
        by rw [hcount _ (by simp), hhits, hsame _ (by simp)], by rw [hcount _ (by simp), hmisses, hsame _ (by simp)]⟩
    · obtain ⟨hentries, htag, hhits, hmisses⟩ :=
        takeJournal_full_effects w (by rw [htags]; exact h) (by rw [htags]; exact hfull)
      exact ⟨by rw [hthold, hentries, hhold, hentry], by rw [htcapture, htag, htags],
        by rw [hcount _ (by simp), hhits, hsame _ (by simp)], by rw [hcount _ (by simp), hmisses, hsame _ (by simp)]⟩

/-! ### Answer rows -/

/-- An answer row takes the awaited entry when its source is the row's. -/
theorem whileRunning_onAnswer {α : Type} {s : State} {e : MemoryEntry} {rest : List MemoryEntry} (hrun : s.Running)
    (h : s.Awaits e rest) {select : Source → Option α} {a : α} (ha : select e.source = some a)
    (act : α → MemoryEntry → State → State) :
    whileRunning (onAnswer select act) s = .next (act a e (s.answered rest)) := by
  rw [whileRunning_of_running hrun, onAnswer_of_awaits h ha]

section
variable {s : State} {e : MemoryEntry} {rest : List MemoryEntry} (hrun : s.Running) (h : s.Awaits e rest)
include hrun h

theorem exec_hostReadAnswer {q : BitVec 4} {owner : ReadOwner} (hsource : e.source = .hostRead q owner)
    (a : ReadAnswer) : exec (.hostReadAnswer a) s = .next (hostReadAnswered owner a (s.answered rest)) :=
  whileRunning_onAnswer hrun h (by rw [hsource]; rfl) _

theorem exec_deferredFetchAnswer {i : Fin 4} {abandoned : Bool} (hsource : e.source = .deferredFetch i abandoned)
    (a : ReadAnswer) :
    exec (.deferredFetchAnswer a) s =
      .next (if abandoned then s.answered rest else fetchAnswered i a (s.answered rest)) :=
  whileRunning_onAnswer hrun h (a := (i, abandoned)) (by rw [hsource]; rfl) _

theorem exec_dataWriteAnswer {n : Word} (hsource : e.source = .holdRelease (some n)) (a : WriteAnswer) :
    exec (.dataWriteAnswer a) s = .next (updateSpace (dataWriteAnswered a n e (s.answered rest))) :=
  whileRunning_onAnswer hrun h (by rw [hsource]; rfl) _

theorem exec_passWriteAnswer (hsource : e.source = .holdRelease none) (a : WriteAnswer) :
    exec (.passWriteAnswer a) s = .next (passWriteAnswered a e (s.answered rest)) :=
  whileRunning_onAnswer hrun h (a := ()) (by rw [hsource]; rfl) _

end

/-! ### Answers to host reads and deferred fetches -/

theorem currentReadAnswered_of_some {s : State} {r : HostRequest} (h : s.host.current = some r) (a : ReadAnswer) :
    currentReadAnswered a s =
      match a with
      | .done data => answerRead (sliceOf data r.offset r.length) s
      | .fault => answerHost (.fault .memory) s := by
  cases a <;> simp [currentReadAnswered, h]

theorem State.awaitsSlot_iff (s : State) (i : Fin 4) :
    s.awaitsSlot i = true ↔ ∃ r, s.host.current = some r ∧ r.wait = .slotWait i := by
  unfold State.awaitsSlot
  cases s.host.current <;> simp

section
variable {s : State} {i : Fin 4} {d : Deferred} (h : s.host.deferred[i] = some d) (data : List Byte)
include h

theorem fetchDone_of_awaited (hwait : s.awaitsSlot i = true) :
    fetchDone i data s =
      bump .deferredServed (bump .hostReads
        { s with
          host :=
            { current := none, deferred := s.host.deferred.set i none,
              answer := some (.done ((data.drop d.offset).take d.length)) } }) := by
  unfold fetchDone
  rw [h]
  simp only [hwait, if_true]
  rfl

theorem fetchDone_of_unawaited (hwait : s.awaitsSlot i = false) :
    fetchDone i data s =
      { s with
        host :=
          { s.host with
            deferred := s.host.deferred.set i
              (some { d with state := .ready ((data.drop d.offset).take d.length) 0 }) } } := by
  unfold fetchDone
  rw [h]
  simp only [hwait]
  rfl

omit data in
theorem fetchFaulted_of_awaited (hwait : s.awaitsSlot i = true) :
    fetchFaulted i s =
      bump .faults (bump .deferredDiscarded
        { s with
          host := { current := none, deferred := s.host.deferred.set i none, answer := some (.fault .memory) }
          memory := (abandonFetch i s).memory }) := by
  unfold fetchFaulted
  rw [hwait, if_pos rfl, discardSlot_of_some h]
  rfl

omit data in
theorem fetchFaulted_of_unawaited (hwait : s.awaitsSlot i = false) :
    fetchFaulted i s =
      bump .deferredDiscarded
        { s with
          host := { s.host with deferred := s.host.deferred.set i none }
          memory := (abandonFetch i s).memory } := by
  unfold fetchFaulted
  rw [hwait, if_neg (by simp), discardSlot_of_some h]

end

/-- Settles O27: the owner of the answered read, and whether the current read waits on its slot. -/
theorem hostReadAnswers : Obligations.HostReadAnswers := by
  intro s e rest hrun h a
  refine ⟨fun q r hsource hr => ?_, fun q answer hsource => ?_, fun i answer hsource => ?_,
    fun i d row hd hrow => ?_⟩
  · have hr' : (s.answered rest).host.current = some r := hr
    refine ⟨fun data => ?_, ?_⟩
    · rw [exec_hostReadAnswer hrun h hsource]
      exact congrArg Host.Outcome.next (currentReadAnswered_of_some hr' (.done data))
    · rw [exec_hostReadAnswer hrun h hsource]
      exact congrArg Host.Outcome.next (currentReadAnswered_of_some hr' .fault)
  · exact exec_hostReadAnswer hrun h hsource answer
  · exact exec_deferredFetchAnswer hrun h hsource answer
  · have hd' : (s.answered rest).host.deferred[i] = some d := hd
    have hexec (answer : ReadAnswer) : exec (row answer) s = .next (fetchAnswered i answer (s.answered rest)) := by
      obtain ⟨⟨q, hsource⟩, rfl⟩ | ⟨hsource, rfl⟩ := hrow
      · exact exec_hostReadAnswer hrun h hsource answer
      · exact exec_deferredFetchAnswer hrun h hsource answer
    refine ⟨fun hother => ?_, fun r hr hwait => ?_⟩
    · have hwait : (s.answered rest).awaitsSlot i = false := by
        rw [← Bool.not_eq_true, State.awaitsSlot_iff]
        rintro ⟨r, hr, hw⟩
        exact hother r hr hw
      refine ⟨fun data => ?_, ?_⟩
      · exact (hexec _).trans (congrArg Host.Outcome.next (fetchDone_of_unawaited hd' data hwait))
      · exact (hexec _).trans (congrArg Host.Outcome.next (fetchFaulted_of_unawaited hd' hwait))
    · have hwait : (s.answered rest).awaitsSlot i = true := (State.awaitsSlot_iff _ i).mpr ⟨r, hr, hwait⟩
      refine ⟨fun data => ?_, ?_⟩
      · exact (hexec _).trans (congrArg Host.Outcome.next (fetchDone_of_awaited hd' data hwait))
      · exact (hexec _).trans (congrArg Host.Outcome.next (fetchFaulted_of_awaited hd' hwait))

/-- Settles O28: the rows of JOURNAL and of PASS data writes. -/
theorem dataWriteAnswers : Obligations.DataWriteAnswers := fun _ _ _ hrun h =>
  ⟨fun _ hsource => ⟨exec_dataWriteAnswer hrun h hsource .done, exec_dataWriteAnswer hrun h hsource .fault⟩,
    fun hsource => ⟨exec_passWriteAnswer hrun h hsource .done, exec_passWriteAnswer hrun h hsource .fault⟩⟩

/-! ### Events, counters and the error log -/

theorem Event.mask_getLsbD (v : Event) (b : Fin 14) :
    v.mask.getLsbD b.val = true ↔
      v = #v[Event.commitDone, .commitFailed, .rollbackDone, .recoveryDone, .noAnchor, .storeDone, .storeFailed,
        .journalLow, .journalFull, .epochDamaged, .quiesced, .anchorStale, .halted, .errorLogged][b] := by
  revert b
  cases v <;> decide

theorem saturatingSucc_eq (w : Word) : saturatingSucc w = BitVec.ofNat 32 (min (w.toNat + 1) 4294967295) := by
  unfold saturatingSucc
  split
  · next h => subst h; rfl
  · next h =>
    apply BitVec.eq_of_toNat_eq
    have hlt := w.isLt
    have hne : w.toNat ≠ 4294967295 := fun hw => h (BitVec.eq_of_toNat_eq hw)
    simp only [BitVec.toNat_add, BitVec.toNat_ofNat]
    omega

/-- Settles O29: the flag of an event, a counter, and an entry of the error log with room or none. -/
theorem eventsCountersAndLog : Obligations.EventsCountersAndLog := by
  refine fun s => ⟨fun v b => ⟨s.management.flags ||| v.mask, rfl, ?_⟩, fun c => ⟨_, rfl, ?_, fun d hd => ?_⟩,
    fun kind epoch line slot => ⟨fun hroom => ?_, fun hfull => ?_⟩⟩
  · rw [BitVec.getLsbD_or, Bool.or_eq_true, Event.mask_getLsbD]
  · rw [bump_counter_self, saturatingSucc_eq]
  · exact bump_counter_of_ne hd s
  · unfold logError
    rw [ManagementPort.appendError_of_room hroom]
    rfl
  · unfold logError
    rw [ManagementPort.appendError_of_full hfull]
    rfl

/-! ### Damage -/

theorem reportDamage_of_none {s : State} {n : Word} (h : s.epochs.table.find n = none) (kind : ErrorKind) (line : Word) :
    reportDamage kind n line s = logError kind (some n) (some line) none s := by
  simp [reportDamage, h]

theorem reportDamage_of_damaged {s : State} {n : Word} {e : LiveEpoch} (h : s.epochs.table.find n = some e)
    (hd : e.damaged = true) (kind : ErrorKind) (line : Word) :
    reportDamage kind n line s = logError kind (some n) (some line) none s := by
  simp [reportDamage, h, hd]

theorem reportDamage_of_first {s : State} {n : Word} {e : LiveEpoch} (h : s.epochs.table.find n = some e)
    (hd : e.damaged = false) (kind : ErrorKind) (line : Word) :
    reportDamage kind n line s = markDamaged e (logError kind (some n) (some line) none s) := by
  simp [reportDamage, h, hd]

/-- The table of a first damage that fails a commit: the epoch is damaged and FAILED. -/
theorem EpochTable.modify_damaged_failed (t : EpochTable) (n : Word) :
    (t.modify n fun x => { x with damaged := true }).modify n (fun x => { x with state := .failed }) =
      t.map fun x => if x.number = n then { x with damaged := true, state := .failed } else x :=
  t.modify_modify _ _ n fun _ => rfl

theorem markDamaged_of_live {e : LiveEpoch} (h : e.state ≠ .committing) (s : State) :
    markDamaged e s =
      raise .epochDamaged (s.setTable (s.epochs.table.modify e.number fun x => { x with damaged := true })) := by
  simp [markDamaged, h]

theorem markDamaged_of_committing {e : LiveEpoch} (h : e.state = .committing) (s : State) :
    markDamaged e s =
      failCommit e.number
        (raise .epochDamaged (s.setTable (s.epochs.table.modify e.number fun x => { x with damaged := true }))) := by
  simp [markDamaged, h]

/-- Settles O30: the branches of a damage report. -/
theorem damageReports : Obligations.DamageReports := by
  intro s kind n line t marked failed
  refine ⟨fun h => reportDamage_of_none h kind line, fun e h => ?_⟩
  obtain ⟨hmem, hnumber⟩ := EpochTable.find_mem h
  have hfailed : raise .commitFailed
      ((raise .epochDamaged (t.setTable (t.epochs.table.modify n fun x => { x with damaged := true }))).setEpochs
        { s.epochs with
          table := (s.epochs.table.modify n fun x => { x with damaged := true }).modify n
            fun x => { x with state := .failed }
          commit := none }) = failed := by
    rw [EpochTable.modify_damaged_failed]
    rfl
  refine ⟨hnumber, hmem, fun hd => reportDamage_of_damaged h hd kind line, fun hd hstate => ?_,
    fun hd hstate hmode => ?_, fun hd hstate hmode => ?_⟩
  · rw [reportDamage_of_first h hd, markDamaged_of_live hstate, hnumber]
    rfl
  · rw [reportDamage_of_first h hd, markDamaged_of_committing hstate, hnumber, ← hfailed]
    exact if_neg hmode
  · rw [reportDamage_of_first h hd, markDamaged_of_committing hstate, hnumber, ← hfailed]
    exact if_pos hmode

/-! ### The power-fail input -/

theorem rejudge_of_frozen {s : State} {r : HostRequest} (h : s.host.current = some r) (hfreeze : s.modes.freeze = true) :
    (rejudge s).host.current = none ∧ (rejudge s).host.answer = some .retry := by
  rw [rejudge_of_retry h (.inl hfreeze)]
  exact ⟨rfl, rfl⟩

theorem exec_pfiDeassert {s : State} (h : s.Running) :
    exec .pfiDeassert s =
      .next (if s.modes.freeze then thaw (s.setPins { s.pins with pfi := false })
        else s.setPins { s.pins with pfi := false }) := by
  have h' : s.pins.inReset = false := h
  exact congrArg Host.Outcome.next (if_neg (by simp [h']))

/-- Settles O54: PFI# asserted, and deasserted with the freeze flag clear, set, and set with a trigger that acts. -/
theorem powerFailInput : Obligations.PowerFailInput := by
  intro s hrun
  have hrun' : s.pins.inReset = false := hrun
  have hassert : exec .pfiAssert s =
      .next (rejudge { s with pins := { s.pins with pfi := true }, modes := { s.modes with freeze := true } }) := by
    simp [exec, execPfiAssert, hrun', State.setPins, State.setModes]
  refine ⟨hassert, fun r hr => ?_, fun hfreeze => ?_, fun hfreeze => ?_⟩
  · exact ⟨_, hassert, (rejudge_of_frozen (by exact hr) rfl).1, (rejudge_of_frozen (by exact hr) rfl).2, by simp⟩
  · exact (exec_pfiDeassert hrun).trans (congrArg Host.Outcome.next (if_neg (by simp [hfreeze])))
  · intro t acts
    have hexec : exec .pfiDeassert s = .next (if t.triggersAct then updateSpace (reexamine t) else t) :=
      (exec_pfiDeassert hrun).trans (congrArg Host.Outcome.next (if_pos hfreeze))
    have hacts : t.triggersAct = true ↔ acts := by
      rw [State.triggersAct_iff]
      exact ⟨fun ⟨hmode, hopen, _⟩ => ⟨hmode, hopen⟩, fun ⟨hmode, hopen⟩ => ⟨hmode, hopen, rfl⟩⟩
    refine ⟨fun h => ?_, fun h => ?_⟩
    · rw [hexec, if_pos (hacts.mpr h)]
    · rw [hexec, if_neg fun hact => h (hacts.mp hact)]

end Sys2Proof.Machine

/-! Capture start, the arbiter, its grants, and issue on the memory bus (R25, R45, R61, R108 to R112): the settlements of
O22, O23, O24 and O25. -/

namespace Sys2Proof.Machine

-- One theorem at a time: the proofs below would otherwise wait for one another in many threads.
set_option Elab.async false

/-! ### Capture start -/

/-- The first entry that wants a capture behind no older entry of its line, `seen` being the lines passed before. -/
theorem firstEligible_eq_some {older younger : List HoldEntry} {e : HoldEntry} {seen : List Word}
    (hwants : e.wantsCapture = true) (hseen : e.line ∉ seen) (hlines : ∀ x ∈ older, x.line ≠ e.line)
    (hfirst : ∀ (pre post : List HoldEntry) (x : HoldEntry), older = pre ++ x :: post →
      x.wantsCapture = false ∨ x.line ∈ seen ∨ ∃ y ∈ pre, y.line = x.line) :
    firstEligible seen (older ++ e :: younger) = some e := by
  induction older generalizing seen with
  | nil => simp [firstEligible, hwants, hseen]
  | cons a older ih =>
    have ha : (a.wantsCapture && !seen.contains a.line) = false := by
      obtain h | h | ⟨y, hy, -⟩ := hfirst [] older a rfl
      · simp [h]
      · simp [h]
      · simp at hy
    rw [List.cons_append, firstEligible, ha]
    refine ih (by simpa using ⟨(hlines a (by simp)).symm, hseen⟩) (fun x hx => hlines x (by simp [hx]))
      fun pre post x hx => ?_
    obtain h | h | ⟨y, hy, hline⟩ := hfirst (a :: pre) post x (by rw [hx]; rfl)
    · exact .inl h
    · exact .inr (.inl (List.mem_cons_of_mem _ h))
    · obtain rfl | hy := List.mem_cons.mp hy
      · exact .inr (.inl (by rw [← hline]; exact List.mem_cons_self))
      · exact .inr (.inr ⟨y, hy, hline⟩)

theorem idleSlot_of_busy {c : CaptureUnit} (h : ∀ j : Fin 4, c.slots[j] ≠ none) : c.idleSlot = none := by
  rw [← Option.not_isSome_iff_eq_none, idleSlot_isSome_iff]
  rintro ⟨i, hi⟩
  exact h i hi

theorem offerCapture_of_busy {s : State} (h : s.capture.idleSlot = none) : offerCapture s = s := by
  unfold offerCapture
  rw [h]
  split
  · next hi => cases hi
  · rfl

theorem offerCapture_of_eligible {s : State} {e : HoldEntry} {i : Fin 4} {epoch : Word} {window : Fin 8}
    (he : firstEligible [] s.hold.entries = some e) (hi : s.capture.idleSlot = some i)
    (hcls : e.cls = .journal epoch window) :
    offerCapture s = if 2 < s.free then updateSpace (startCapture i e epoch window s) else s := by
  unfold offerCapture
  simp only [he, hi, hcls]
  rfl

/-- Settles O22: no slot IDLE, and the oldest eligible entry with and without free space above 2. -/
theorem captureStarts : Obligations.CaptureStarts := by
  intro s hrun
  have hexec : exec .captureStart s = .next (offerCapture s) := whileRunning_of_running hrun _
  refine ⟨fun hbusy => ?_, fun older younger e epoch window i hentries hcls hstate hcap hlines hfirst hi hj => ?_⟩
  · rw [hexec, offerCapture_of_busy (idleSlot_of_busy hbusy)]
  · have hwants : e.wantsCapture = true := e.wantsCapture_iff.mpr ⟨by simp [hcls], hstate, hcap⟩
    have he : firstEligible [] s.hold.entries = some e := by
      rw [hentries]
      refine firstEligible_eq_some hwants (by simp) hlines fun pre post x hx => ?_
      rw [← Bool.not_eq_true, x.wantsCapture_iff]
      obtain h | h | h | h := hfirst pre post x hx
      · exact .inl fun hw => hw.1 h
      · exact .inl fun hw => h hw.2.1
      · exact .inl fun hw => h hw.2.2
      · exact .inr (.inr h)
    rw [hexec, offerCapture_of_eligible he (idleSlot_eq_some hi hj) hcls]
    exact ⟨fun hfree => congrArg Host.Outcome.next (if_neg (Nat.not_lt.mpr hfree)),
      fun hfree => congrArg Host.Outcome.next (if_pos hfree)⟩

/-! ### The arbiter -/

/-- The arbiter grants nothing: a freeze, or a full queue (R112). -/
def State.Stopped (s : State) : Prop := s.modes.freeze = true ∨ 16 ≤ s.memory.queue.length

theorem arbiter_of_stopped {s : State} (h : s.Stopped) : s.arbiter = none := by
  obtain h | h := h <;> simp [State.arbiter, Config.memoryPlaces, h]

section
variable {s : State} (h : ¬ s.Stopped)
include h

theorem arbiter_of_replay (hrequests : s.replay.requests ≠ []) : s.arbiter = some .replay := by
  simp only [State.Stopped, not_or, Bool.not_eq_true] at h
  simp [State.arbiter, Config.memoryPlaces, h, hrequests]

theorem arbiter_of_anchor (hrequests : s.replay.requests = []) (hanchor : s.anchorRequest ≠ none) :
    s.arbiter = some .anchor := by
  simp only [State.Stopped, not_or, Bool.not_eq_true] at h
  simp [State.arbiter, Config.memoryPlaces, h, hrequests, Option.isSome_iff_ne_none, hanchor]

theorem arbiter_of_record (hrequests : s.replay.requests = []) (hanchor : s.anchorRequest = none)
    (hwrites : s.ring.writes ≠ []) : s.arbiter = some .record := by
  simp only [State.Stopped, not_or, Bool.not_eq_true] at h
  simp [State.arbiter, Config.memoryPlaces, h, hrequests, hanchor, hwrites]

theorem arbiter_of_capture (hrequests : s.replay.requests = []) (hanchor : s.anchorRequest = none)
    (hwrites : s.ring.writes = []) (hreads : s.capture.reads ≠ []) : s.arbiter = some .capture := by
  simp only [State.Stopped, not_or, Bool.not_eq_true] at h
  simp [State.arbiter, Config.memoryPlaces, h, hrequests, hanchor, hwrites, hreads]

theorem arbiter_of_fifth (hrequests : s.replay.requests = []) (hanchor : s.anchorRequest = none)
    (hwrites : s.ring.writes = []) (hreads : s.capture.reads = []) : s.arbiter = s.fifthLevel := by
  simp only [State.Stopped, not_or, Bool.not_eq_true] at h
  simp [State.arbiter, Config.memoryPlaces, h, hrequests, hanchor, hwrites, hreads]

end

theorem State.readPresented_iff (s : State) :
    s.readPresented = true ↔
      ∃ r : HostRequest, s.host.current = some r ∧ r.wait = .grantWait ∧ ¬ ∃ e ∈ s.hold.entries, e.line = r.line := by
  unfold State.readPresented
  cases h : s.host.current with
  | none => simp
  | some r => simp [← State.lineHeld_iff]

/-- The fetch of slot `i` may be presented (R111, R131). -/
def State.FetchPresents (s : State) (i : Fin 4) : Prop :=
  ∃ d : Deferred, s.host.deferred[i] = some d ∧ d.state = .fetching .grantWait ∧
    ¬ ∃ e ∈ s.hold.entries, e.line = d.line

theorem State.fetchPresents_iff (s : State) (i : Fin 4) :
    (s.host.deferred[i].map s.fetchPresented).getD false = true ↔ s.FetchPresents i := by
  unfold State.FetchPresents
  cases h : s.host.deferred[i] with
  | none => simp
  | some d => simp [State.fetchPresented, ← State.lineHeld_iff]

theorem hostSide_of_read {s : State} (h : s.readPresented = true) : s.hostSide = some .hostRead := by
  simp [State.hostSide, h]

theorem hostSide_of_fetch {s : State} {i : Fin 4} (h : s.readPresented = false) (hi : s.FetchPresents i)
    (hj : ∀ j : Fin 4, j < i → ¬ s.FetchPresents j) : s.hostSide = some (.deferredFetch i) := by
  have hfind : s.host.findSlot s.fetchPresented = some i := by
    unfold HostPort.findSlot
    rw [slotOrder_eq]
    exact find?_finRange_eq_some ((s.fetchPresents_iff i).mpr hi) fun j hji => by
      rw [← Bool.not_eq_true]
      exact fun h => hj j hji ((s.fetchPresents_iff j).mp h)
  simp [State.hostSide, h, hfind]

theorem hostSide_of_none {s : State} (h : s.readPresented = false) (hfetch : ∀ i : Fin 4, ¬ s.FetchPresents i) :
    s.hostSide = none := by
  have hfind : s.host.findSlot s.fetchPresented = none := by
    unfold HostPort.findSlot
    rw [slotOrder_eq]
    exact find?_finRange_eq_none fun i => by
      rw [← Bool.not_eq_true]
      exact fun h => hfetch i ((s.fetchPresents_iff i).mp h)
  simp [State.hostSide, h, hfind]

theorem State.holdSide_iff (s : State) :
    s.holdSide = true ↔ ∃ (e : HoldEntry) (rest : List HoldEntry), s.hold.entries = e :: rest ∧ e.state = .ready := by
  unfold State.holdSide
  cases s.hold.entries <;> simp

theorem fifthLevel_of_host {s : State} {g : Grant} (h : s.hostSide = some g)
    (hturn : s.memory.turn = .host ∨ s.holdSide = false) : s.fifthLevel = some g := by
  cases hside : s.holdSide <;> simp_all [State.fifthLevel]

theorem fifthLevel_of_hold {s : State} (h : s.holdSide = true) (hturn : s.memory.turn = .hold ∨ s.hostSide = none) :
    s.fifthLevel = some .hold := by
  cases hside : s.hostSide <;> simp_all [State.fifthLevel]

theorem fifthLevel_of_none {s : State} (h : s.hostSide = none) (hhold : s.holdSide = false) : s.fifthLevel = none := by
  simp [State.fifthLevel, h, hhold]

theorem whenGranted_of_other {g : Grant} {s : State} (h : s.arbiter ≠ some g) (f : State → State) :
    whenGranted g f s = s := by
  simp [whenGranted, h]

theorem whenGranted_of_granted {g : Grant} {s : State} (h : s.arbiter = some g) (f : State → State) :
    whenGranted g f s = f s := by
  simp [whenGranted, h]

/-- A grant row, when the arbiter's choice is another grant. -/
theorem whileRunning_whenGranted_of_other {g : Grant} {s : State} (hrun : s.Running) (h : s.arbiter ≠ some g)
    (f : State → State) : whileRunning (whenGranted g f) s = .next s := by
  rw [whileRunning_of_running hrun, whenGranted_of_other h]

theorem whileRunning_whenGranted_of_granted {g : Grant} {s : State} (hrun : s.Running) (h : s.arbiter = some g)
    (f : State → State) : whileRunning (whenGranted g f) s = .next (f s) := by
  rw [whileRunning_of_running hrun, whenGranted_of_granted h]

theorem next_of_running {s : State} (h : s.Running) (t : State) :
    (.next (if s.pins.inReset then s else t) : Host.Outcome State Fault Refusal) = .next t := by
  have h' : s.pins.inReset = false := h
  simp [h']

theorem exec_deferredFetchGrant_of_other {s : State} (hrun : s.Running)
    (h : ∀ i : Fin 4, s.arbiter ≠ some (.deferredFetch i)) : exec .deferredFetchGrant s = .next s := by
  refine (next_of_running hrun _).trans (congrArg Host.Outcome.next ?_)
  dsimp only
  split
  · next i hi => exact absurd hi (h i)
  · rfl

/-- Settles O23: the levels in their order, the two sides of the fifth, and the rows of grants not chosen. -/
theorem arbiterOrder : Obligations.ArbiterOrder := by
  intro s held read fetch release stopped
  refine ⟨arbiter_of_stopped, arbiter_of_replay, arbiter_of_anchor, arbiter_of_record,
    fun hstop hrequests hanchor hwrites => ⟨arbiter_of_capture hstop hrequests hanchor hwrites, fun hreads => ?_⟩,
    fun hrun => ⟨fun h => ?_, fun h => ?_, fun h => ?_, fun h => ?_, fun h => ?_, fun h => ?_, fun h => ?_⟩⟩
  · rw [arbiter_of_fifth hstop hrequests hanchor hwrites hreads]
    have hnoread : ¬ read → s.readPresented = false := fun h =>
      Bool.not_eq_true _ ▸ fun hr => h (s.readPresented_iff.mp hr)
    have hnorelease : ¬ release → s.holdSide = false := fun h =>
      Bool.not_eq_true _ ▸ fun hr => h (s.holdSide_iff.mp hr)
    refine ⟨fun hread hturn => ?_, fun i hread hi hj hturn => ?_, fun hrelease hturn => ?_,
      fun hread hfetch hrelease => ?_⟩
    · exact fifthLevel_of_host (hostSide_of_read (s.readPresented_iff.mpr hread)) (hturn.imp_right hnorelease)
    · exact fifthLevel_of_host (hostSide_of_fetch (hnoread hread) hi hj) (hturn.imp_right hnorelease)
    · exact fifthLevel_of_hold (s.holdSide_iff.mpr hrelease)
        (hturn.imp_right fun ⟨hread, hfetch⟩ => hostSide_of_none (hnoread hread) hfetch)
    · exact fifthLevel_of_none (hostSide_of_none (hnoread hread) hfetch) (hnorelease hrelease)
  · exact whileRunning_whenGranted_of_other hrun h _
  · exact whileRunning_whenGranted_of_other hrun h _
  · exact whileRunning_whenGranted_of_other hrun h _
  · exact whileRunning_whenGranted_of_other hrun h _
  · exact whileRunning_whenGranted_of_other hrun h _
  · exact exec_deferredFetchGrant_of_other hrun h
  · exact whileRunning_whenGranted_of_other hrun h _

/-! ### Grants -/

/-- The memory port with `e` granted at one of the four upper levels. -/
def State.queued (s : State) (e : MemoryEntry) : MemoryPort := { s.memory with queue := s.memory.queue ++ [e] }

theorem releaseHead_of_pass {s : State} {e : HoldEntry} {rest : List HoldEntry} (h : s.hold.entries = e :: rest)
    (hcls : e.cls = .pass) :
    releaseHead s =
      { s with
        hold := { s.hold with entries := rest }
        memory :=
          { queue := s.memory.queue ++ [writeEntry (.holdRelease none) e.line e.offset e.data], turn := .host } } := by
  unfold releaseHead
  simp only [h, hcls]
  rfl

theorem releaseHead_of_journal {s : State} {e : HoldEntry} {rest : List HoldEntry} {n : Word} {w : Fin 8}
    (h : s.hold.entries = e :: rest) (hcls : e.cls = .journal n w) :
    releaseHead s =
      { s with
        hold := { s.hold with entries := rest }
        memory :=
          { queue := s.memory.queue ++ [writeEntry (.holdRelease (some n)) e.line e.offset e.data], turn := .host }
        epochs :=
          { s.epochs with
            table := s.epochs.table.modify n fun x => { x with held := x.held - 1, out := x.out + 1 } } } := by
  unfold releaseHead
  simp only [h, hcls]
  rfl

theorem grantHostRead_of_some {s : State} {r : HostRequest} (h : s.host.current = some r) :
    grantHostRead s =
      { s with
        host := { s.host with current := some { r with wait := .memoryWait } }
        memory :=
          { queue := s.memory.queue ++ [readEntry (.hostRead r.requester .current) r.line], turn := .hold } } := by
  unfold grantHostRead
  simp only [h]
  rfl

theorem grantFetch_of_some {s : State} {i : Fin 4} {d : Deferred} (h : s.host.deferred[i] = some d) :
    grantFetch i s =
      { s with
        host := { s.host with deferred := s.host.deferred.set i (some { d with state := .fetching .inQueue }) }
        memory := { queue := s.memory.queue ++ [readEntry (.deferredFetch i false) d.line], turn := .hold } } := by
  unfold grantFetch
  simp only [h]
  rfl

theorem grantCapture_of_cons {s : State} {i : Fin 4} {rest : List (Fin 4)} {c : Capture}
    (h : s.capture.reads = i :: rest) (hc : s.capture.slots[i] = some c) :
    grantCapture s =
      { s with
        capture := { s.capture with reads := rest }
        memory := s.queued (readEntry (.captureRead i) c.line) } := by
  unfold grantCapture
  simp only [h, hc]
  rfl

theorem grantRecord_of_cons {s : State} {w : RecordWrite} {rest : List RecordWrite} (h : s.ring.writes = w :: rest) :
    grantRecord s =
      { s with
        ring := { s.ring with writes := rest }
        memory := s.queued (writeEntry (.recordWrite w.info w.isHead) w.address 0 w.data) } := by
  unfold grantRecord
  simp only [h]
  rfl

theorem grantAnchor_of_some {s : State} {e : MemoryEntry} (h : s.anchorRequest = some e) :
    grantAnchor s = { s with anchor := s.anchor.lineGranted, memory := s.queued e } := by
  unfold grantAnchor
  simp only [h]
  rfl

theorem grantReplay_of_cons {s : State} {q : ReplayRequest} {rest : List ReplayRequest}
    (h : s.replay.requests = q :: rest) :
    grantReplay s =
      { s with replay := { s.replay with requests := rest }, memory := s.queued (s.replayEntry q) } := by
  unfold grantReplay
  simp only [h]
  rfl

theorem anchorRequest_of_loading {s : State} {l : Loading} (h : s.anchor.loading = some l) (hl : l.granted < 4) :
    s.anchorRequest =
      some (readEntry (.anchorRead (loadingRead l.granted).1 (loadingRead l.granted).2)
        (s.copyAddress (loadingRead l.granted).1 (loadingRead l.granted).2)) := by
  simp [State.anchorRequest, h, hl]

theorem lineGranted_of_loading {a : AnchorUnit} {l : Loading} (h : a.loading = some l) :
    a.lineGranted = { a with loading := some { l with granted := l.granted + 1 } } := by
  simp [AnchorUnit.lineGranted, h]

theorem lineGranted_of_write {a : AnchorUnit} {w : AnchorWrite} (hl : a.loading = none) (h : a.write = some w) :
    a.lineGranted = { a with write := some { w with granted := w.granted + 1 } } := by
  simp [AnchorUnit.lineGranted, h, hl]

theorem anchorRequest_of_first {s : State} {w : AnchorWrite} (hl : s.anchor.loading = none)
    (h : s.anchor.write = some w) (hw : w.granted = 0) :
    s.anchorRequest =
      some (writeEntry (.anchorWrite w.target false) (s.copyAddress w.target false) 0 (w.bytes.take 64)) := by
  simp [State.anchorRequest, hl, h, hw]

theorem anchorRequest_of_second {s : State} {w : AnchorWrite} (hl : s.anchor.loading = none)
    (h : s.anchor.write = some w) (hw : w.granted = 1) :
    s.anchorRequest =
      some (writeEntry (.anchorWrite w.target true) (s.copyAddress w.target true) 0 (w.bytes.drop 64)) := by
  simp [State.anchorRequest, hl, h, hw]

theorem State.copyAddress_eq (s : State) (c : Copy) (second : Bool) :
    s.copyAddress c second =
      s.anchorBase + (if c = .b then 128#32 else 0#32) + (if second then 64#32 else 0#32) := by
  cases c <;> rfl

theorem exec_deferredFetchGrant {s : State} (hrun : s.Running) {i : Fin 4} (h : s.arbiter = some (.deferredFetch i)) :
    exec .deferredFetchGrant s = .next (grantFetch i s) := by
  refine (next_of_running hrun _).trans (congrArg Host.Outcome.next ?_)
  dsimp only
  rw [h]

/-- Settles O24: the two sides of the fifth level, and the four levels above it. -/
theorem grants : Obligations.Grants := by
  refine ⟨fun s hrun => ⟨fun e rest hgrant hentries => ?_, fun r hgrant hr => ?_, fun i d hgrant hd => ?_⟩,
    fun s hrun => ?_⟩
  · have hexec : exec .holdRelease s = .next (updateSpace (releaseHead s)) :=
      whileRunning_whenGranted_of_granted hrun hgrant _
    refine ⟨fun hcls => ?_, fun n w hcls => ?_⟩
    · rw [hexec, releaseHead_of_pass hentries hcls]
      rfl
    · rw [hexec, releaseHead_of_journal hentries hcls]
      rfl
  · have hexec : exec .hostReadGrant s = .next (grantHostRead s) := whileRunning_whenGranted_of_granted hrun hgrant _
    rw [hexec, grantHostRead_of_some hr]
    rfl
  · rw [exec_deferredFetchGrant hrun hgrant, grantFetch_of_some hd]
    rfl
  · intro granted slotLine copyLine
    refine ⟨fun i rest c hgrant hreads hc => ?_, fun w rest hgrant hwrites => ?_,
      fun hgrant => ⟨fun l c second hl hline => ?_, fun w second hl hw hline => ?_⟩, fun q rest hgrant hrequests => ?_⟩
    · have hexec : exec .captureReadGrant s = .next (grantCapture s) :=
        whileRunning_whenGranted_of_granted hrun hgrant _
      rw [hexec, grantCapture_of_cons hreads hc]
      rfl
    · have hexec : exec .recordWriteGrant s = .next (grantRecord s) :=
        whileRunning_whenGranted_of_granted hrun hgrant _
      rw [hexec, grantRecord_of_cons hwrites]
      rfl
    · have hexec : exec .anchorLineGrant s = .next (grantAnchor s) := whileRunning_whenGranted_of_granted hrun hgrant _
      have hread : loadingRead l.granted = (c, second) ∧ l.granted < 4 := by
        obtain ⟨h, rfl, rfl⟩ | ⟨h, rfl, rfl⟩ | ⟨h, rfl, rfl⟩ | ⟨h, rfl, rfl⟩ := hline <;> rw [h] <;> decide
      rw [hexec, grantAnchor_of_some (anchorRequest_of_loading hl hread.2), hread.1, lineGranted_of_loading hl,
        State.copyAddress_eq]
      rfl
    · have hexec : exec .anchorLineGrant s = .next (grantAnchor s) := whileRunning_whenGranted_of_granted hrun hgrant _
      rw [hexec]
      obtain ⟨hw', rfl⟩ | ⟨hw', rfl⟩ := hline
      · rw [grantAnchor_of_some (anchorRequest_of_first hl hw hw'), lineGranted_of_write hl hw, State.copyAddress_eq]
        rfl
      · rw [grantAnchor_of_some (anchorRequest_of_second hl hw hw'), lineGranted_of_write hl hw, State.copyAddress_eq]
        rfl
    · have hexec : exec .replayRequestGrant s = .next (grantReplay s) :=
        whileRunning_whenGranted_of_granted hrun hgrant _
      rw [hexec, grantReplay_of_cons hrequests]
      refine ⟨fun slot hq => ?_, fun slot hq => ?_, fun slot epoch line data hq => ?_⟩ <;> subst hq <;> rfl

/-! ### Issue -/

theorem issue_of_full {s : State} (h : 4 ≤ s.outstanding) : issue s = s := by
  simp [issue, Config.maxOutstanding, Nat.not_lt.mpr h]

theorem issue_of_room {s : State} (h : s.outstanding < 4) :
    issue s = { s with memory := { s.memory with queue := issueOldest s.pins.now s.memory.queue } } := by
  simp [issue, Config.maxOutstanding, h, State.setMemory]

theorem issueOldest_of_issued {now : Nat} {queue : List MemoryEntry} (h : ∀ e ∈ queue, e.issued.isSome = true) :
    issueOldest now queue = queue := by
  induction queue with
  | nil => rfl
  | cons e rest ih => simp [issueOldest, h e (by simp), ih fun x hx => h x (by simp [hx])]

/-- Settles O25: 4 outstanding, none WAITING, and the oldest WAITING entry. -/
theorem memoryIssued : Obligations.MemoryIssued := by
  intro s hrun
  have hexec : exec .memoryIssue s = .next (issue s) := whileRunning_of_running hrun _
  refine ⟨fun hfull => ?_, fun hissued => ?_, fun issued waiting e hqueue hissued he hroom => ?_⟩
  · rw [hexec, issue_of_full hfull]
  · rw [hexec]
    by_cases hroom : s.outstanding < 4
    · rw [issue_of_room hroom, issueOldest_of_issued hissued]
    · rw [issue_of_full (Nat.not_lt.mp hroom)]
  · rw [hexec, issue_of_room hroom, hqueue, issueOldest_append hissued he]

end Sys2Proof.Machine

/-! Halts, the drain notice and the capture reads that end (R14, R28, R63 to R68, R91, R154): the settlements
of O31, O32, O33 and O34. -/

namespace Sys2Proof.Machine

-- One theorem at a time: the proofs below would otherwise wait for one another in many threads.
set_option Elab.async false

/-! ### The halt -/

theorem withoutJournal_entries (h : HoldQueue) :
    h.withoutJournal = { h with entries := h.entries.filter fun e => decide (e.cls = .pass) } := by
  refine congrArg (fun l => { h with entries := l }) (List.filter_congr fun e _ => ?_)
  by_cases hcls : e.cls = .pass
  · have hnot : e.isJournal = false := Bool.not_eq_true _ ▸ fun hj => e.isJournal_iff.mp hj hcls
    simp [hcls, hnot]
  · simp [hcls, e.isJournal_iff.mpr hcls]

theorem halt_of_running {s : State} (h : s.modes.mode ≠ .halted) (cause : Cause) :
    halt cause s =
      raise .halted (rejudge (haltBlocks (s.setModes { s.modes with mode := .halted, cause := cause }))) := by
  simp [halt, h]

theorem recordFaulted_of_halted {s : State} (h : s.modes.mode = .halted) (info : RecordInfo) :
    recordFaulted info s = s := by
  simp [recordFaulted, h]

theorem recordFaulted_of_recovering {s : State} (h : s.modes.mode = .recovering) (info : RecordInfo) :
    recordFaulted info s =
      halt .replayFault (logError .replayFault (some info.epoch) info.line (some info.slot) s) := by
  simp [recordFaulted, h]

theorem recordFaulted_of_running {s : State} (h : s.modes.mode ≠ .halted) (h' : s.modes.mode ≠ .recovering)
    (info : RecordInfo) :
    recordFaulted info s =
      halt .recordWriteFault (logError .recordWriteFault (some info.epoch) info.line (some info.slot) s) := by
  simp [recordFaulted, h, h']

theorem exec_recordWriteFault {s : State} {e : MemoryEntry} {rest : List MemoryEntry} {info : RecordInfo}
    {isHead : Bool} (hrun : s.Running) (h : s.Awaits e rest) (hsource : e.source = .recordWrite info isHead) :
    exec .recordWriteFault s = .next (updateSpace (recordFaulted info (s.answered rest))) :=
  whileRunning_onAnswer hrun h (by rw [hsource]; rfl) _

/-- Settles O31: the halt out of HALTED and in it, and a record write fault in each mode. -/
theorem haltStopsJournalWork : Obligations.HaltStopsJournalWork := by
  refine ⟨fun s cause => ⟨fun h => halt_of_halted h cause, fun h => ?_⟩,
    fun s e rest info isHead hrun hawaits hsource => ⟨fun h => ?_, fun h => ?_, fun h h' => ?_⟩⟩
  · rw [halt_of_running h, haltBlocks, State.setModes_hold, withoutJournal_entries]
    rfl
  · rw [exec_recordWriteFault hrun hawaits hsource, recordFaulted_of_halted (by exact h)]
  · rw [exec_recordWriteFault hrun hawaits hsource, recordFaulted_of_recovering (by exact h)]
  · rw [exec_recordWriteFault hrun hawaits hsource, recordFaulted_of_running (by exact h) (by exact h')]

/-! ### The drain notice and the two notices of SETTLING -/

theorem commitDrained_of_drained {s : State} {q : CommitSequence} {e : LiveEpoch} (hq : s.epochs.commit = some q)
    (hphase : q.phase = .draining) (he : s.epochs.table.find q.epoch = some e) (hstate : e.state = .committing)
    (hd : e.drained = true) : s.commitDrained = some q := by
  simp [State.commitDrained, hq, hphase, he, hstate, hd]

theorem commitDrained_of_undrained {s : State} {q : CommitSequence} {e : LiveEpoch} (hq : s.epochs.commit = some q)
    (he : s.epochs.table.find q.epoch = some e) (hd : e.drained = false) : s.commitDrained = none := by
  unfold State.commitDrained
  rw [hq]
  dsimp only
  split
  · next x _ hx =>
    cases he.symm.trans hx
    simp [hd]
  · rfl

theorem commitDrained_of_none {s : State} (h : s.epochs.commit = none) : s.commitDrained = none := by
  simp [State.commitDrained, h]

theorem drainNotice_of_drained {s : State} {q : CommitSequence} (h : s.commitDrained = some q) :
    drainNotice s = queueCommitRecord q s := by
  simp [drainNotice, h]

theorem drainNotice_of_undrained {s : State} (h : s.commitDrained = none) : drainNotice s = noteEpochsDrained s := by
  simp [drainNotice, h]

theorem LiveEpoch.undrained_iff (e : LiveEpoch) : e.drained = false ↔ 0 < e.held ∨ 0 < e.out := by
  rw [← Bool.not_eq_true, e.drained_iff]
  omega

theorem CaptureUnit.allIdle_iff (c : CaptureUnit) : c.allIdle = true ↔ ∀ i : Fin 4, c.slots[i] = none := by
  simp [CaptureUnit.allIdle, slotOrder, Fin.forall_fin_succ]

section
variable {s : State} {highest : Word} {captures epochs : Bool}
  (h : s.replay.rollback = some { phase := .settling captures epochs, highest := highest })
include h

theorem noteEpochsDrained_of_undrained (hx : ∃ x ∈ s.epochs.table.epochs, x.drained = false) :
    noteEpochsDrained s = s := by
  have hall : s.epochs.table.epochs.all LiveEpoch.drained = false := by simpa using hx
  cases epochs <;> simp [noteEpochsDrained, h, hall]

theorem noteEpochsDrained_of_drained (hx : ∀ x ∈ s.epochs.table.epochs, x.drained = true) (hepochs : epochs = false) :
    noteEpochsDrained s = settle captures true highest s := by
  have hall : s.epochs.table.epochs.all LiveEpoch.drained = true := by simpa using hx
  subst hepochs
  simp [noteEpochsDrained, h, hall]

theorem noteCapturesSettled_of_busy (hi : ∃ i : Fin 4, s.capture.slots[i] ≠ none) : noteCapturesSettled s = s := by
  have hidle : s.capture.allIdle = false := by
    rw [← Bool.not_eq_true, CaptureUnit.allIdle_iff]
    exact not_forall.mpr hi
  cases captures <;> simp [noteCapturesSettled, h, hidle]

theorem noteCapturesSettled_of_idle (hi : ∀ i : Fin 4, s.capture.slots[i] = none) (hcaptures : captures = false) :
    noteCapturesSettled s = settle true epochs highest s := by
  have hidle : s.capture.allIdle = true := s.capture.allIdle_iff.mpr hi
  subst hcaptures
  simp [noteCapturesSettled, h, hidle]

end

theorem settle_of_both (highest : Word) (s : State) : settle true true highest s = startWalk highest s := rfl

/-- The head line of a slot has the slot's address (R23). -/
theorem State.slotAddress_head (s : State) (slot : Nat) :
    s.slotAddress slot true = BitVec.ofNat 32 (s.anchor.working.basePage.toNat * 4096 + 128 * slot) := by
  simp [State.slotAddress, Configuration.areaStart, Config.pageBytes, Config.slotBytes]

/-- The body line of a slot follows its head line (R23). -/
theorem State.slotAddress_body (s : State) (slot : Nat) :
    s.slotAddress slot false = BitVec.ofNat 32 (s.anchor.working.basePage.toNat * 4096 + 128 * slot + 64) := by
  simp [State.slotAddress, Configuration.areaStart, Config.pageBytes, Config.slotBytes, Config.lineBytes]

/-- The ring after a marker is assigned a slot (R28, R29). -/
theorem assignMarker_eq (kind : RecordKind) (n : Word) (s : State) :
    assignMarker kind n s =
      let info : RecordInfo :=
        { kind := kind, epoch := n, line := none, slot := s.ring.head, sequence := s.ring.headSequence }
      { s with
        ring :=
          { s.ring with
            head := (s.ring.head + 1) % s.anchor.working.slots.toNat
            headSequence := s.ring.headSequence + 1#32
            used := s.ring.used + 1
            writes := s.ring.writes ++
              [{ info := info, isHead := true,
                 address := BitVec.ofNat 32 (s.anchor.working.basePage.toNat * 4096 + 128 * s.ring.head),
                 data := recordHead info 0#8 s.ring.ringId [] }] } } := by
  rw [← s.slotAddress_head]
  rfl

theorem queueCommitRecord_of_room {s : State} (h : 1 ≤ s.free) (q : CommitSequence) :
    queueCommitRecord q s =
      { assignMarker .commit q.epoch s with
        epochs := { s.epochs with
          commit := some { q with phase := .markerWriting s.ring.head s.ring.headSequence } } } := by
  unfold queueCommitRecord
  rw [requestMarker_of_room h]
  rfl

theorem queueCommitRecord_of_full {s : State} (h : s.free = 0) (q : CommitSequence) :
    queueCommitRecord q s =
      halt .ringExhausted (logError .ringExhausted (some q.epoch) none (some s.ring.head) s) :=
  requestMarker_of_full h _ _ _

theorem queueClose_of_full {s : State} (h : s.free = 0) (highest : Word) :
    queueClose highest s =
      halt .ringExhausted (logError .ringExhausted (some highest) none (some s.ring.head) s) :=
  requestMarker_of_full h _ _ _

theorem queueClose_of_room {s : State} (h : 1 ≤ s.free) (highest : Word) :
    queueClose highest s =
      { assignMarker .close highest s with
        replay := { s.replay with
          rollback := some { phase := .closing s.ring.head s.ring.headSequence, highest := highest } } } := by
  unfold queueClose
  rw [requestMarker_of_room h]
  rfl

/-- Settles O32: the drain of a commit with space and without, the two notices of SETTLING, and the start of the walk. -/
theorem drainAndSettle : Obligations.DrainAndSettle := by
  intro s free marked noSpace below
  refine ⟨fun q e hq hphase he hstate hheld hout => ?_, fun q e hq hr he hd => ?_, fun hq hr => ⟨?_, ?_⟩,
    fun highest captures epochs hq hr => ?_, fun highest => ⟨fun hused => ?_, fun hused => ?_, fun hfree => ?_,
      fun hfree => ?_⟩⟩
  · rw [drainNotice_of_drained (commitDrained_of_drained hq hphase he hstate (e.drained_iff.mpr ⟨hheld, hout⟩))]
    refine ⟨fun hfree => ?_, fun hfree => ?_⟩
    · rw [queueCommitRecord_of_room hfree, assignMarker_eq]
    · exact queueCommitRecord_of_full hfree q
  · rw [drainNotice_of_undrained (commitDrained_of_undrained hq he (e.undrained_iff.mpr hd)),
      noteEpochsDrained_of_none hr]
  · rw [drainNotice_of_undrained (commitDrained_of_none hq), noteEpochsDrained_of_none hr]
  · rw [noteCapturesSettled_of_none hr]
  · intro settled
    rw [drainNotice_of_undrained (commitDrained_of_none hq)]
    refine ⟨fun ⟨x, hx, hd⟩ => ?_, fun hd hepochs => ?_, fun hi => ?_, fun hi hcaptures => ?_⟩
    · rw [noteEpochsDrained_of_undrained hr ⟨x, hx, x.undrained_iff.mpr hd⟩]
    · rw [noteEpochsDrained_of_drained hr (fun x hx => x.drained_iff.mpr (hd x hx)) hepochs]
      cases captures <;> rfl
    · rw [noteCapturesSettled_of_busy hr hi]
    · rw [noteCapturesSettled_of_idle hr hi hcaptures]
      cases epochs <;> rfl
  · exact if_neg hused
  · exact if_pos hused
  · rw [queueClose_of_room hfree, assignMarker_eq]
  · exact queueClose_of_full hfree highest

/-! ### Capture reads -/

section
variable {s : State} {e : MemoryEntry} {rest : List MemoryEntry} {i : Fin 4} (hrun : s.Running) (h : s.Awaits e rest)
  (hsource : e.source = .captureRead i) (cancelled : Bool) (act : Fin 4 → Capture → State → State)
include hrun h hsource

/-- The answer of a capture read whose slot a halt has made IDLE is dropped (R69). -/
theorem whileRunning_captureAnswered_of_idle (hslot : s.capture.slots[i] = none) :
    whileRunning (captureAnswered cancelled act) s = .next (s.answered rest) := by
  rw [whileRunning_of_running hrun, captureAnswered, oldestIssued_of_awaits h]
  simp only [hsource, Source.asCaptureRead, hslot]
  rw [dropOldest_of_awaits h]

/-- The answer of a READING capture with the row's cancelled mark. -/
theorem whileRunning_captureAnswered_of_reading {c : Capture} (hslot : s.capture.slots[i] = some c)
    (hphase : c.phase = .reading cancelled) :
    whileRunning (captureAnswered cancelled act) s = .next (act i c (s.answered rest)) := by
  rw [whileRunning_of_running hrun, captureAnswered, oldestIssued_of_awaits h]
  simp only [hsource, Source.asCaptureRead, hslot, hphase, if_true]
  rw [dropOldest_of_awaits h]

end

/-- The OPEN epoch after a change that keeps the states. -/
theorem EpochTable.opened_modify (t : EpochTable) (n : Word) {f : LiveEpoch → LiveEpoch}
    (hf : ∀ e, (f e).state = e.state) :
    (t.modify n f).opened = t.opened.map fun e => if e.number = n then f e else e := by
  have hopened (t : EpochTable) : t.opened = t.epochs.find? fun e => e.state == .opened := rfl
  rw [hopened, hopened, EpochTable.modify, EpochTable.epochs_map, List.find?_map]
  congr 2
  funext e
  by_cases hn : e.number = n <;> simp [hn, hf]

/-- The state after a capture read is answered DONE, before the line trigger (R13, R27, R63). -/
def State.lineAssigned (s : State) (i : Fin 4) (c : Capture) (data : List Byte) : State :=
  let info : RecordInfo :=
    { kind := .line, epoch := c.epoch, line := some c.line, slot := s.ring.head, sequence := s.ring.headSequence }
  { s with
    ring := { s.ring.assign s.size with
      promised := s.ring.promised - 1, writes := s.ring.writes ++ s.lineRecordWrites info c.window data }
    capture := s.capture.setSlot i (some { c with phase := .writing data info.slot info.sequence })
    epochs := { s.epochs with
      table := s.epochs.table.modify c.epoch fun e => e.countLine info.slot s.pins.now } }

theorem assignLine_eq (i : Fin 4) (c : Capture) (data : List Byte) (s : State) :
    assignLine i c data s =
      if (s.lineAssigned i c data).thresholdOf c.epoch then fireTrigger false (s.lineAssigned i c data)
      else s.lineAssigned i c data := rfl

theorem LiveEpoch.thresholdReached_iff (e : LiveEpoch) :
    e.thresholdReached = true ↔ e.threshold ≠ 0#16 ∧ e.threshold.toNat ≤ e.lines := by
  simp [LiveEpoch.thresholdReached]

/-- The line threshold after a line is counted: that of the OPEN epoch, when it is the capture's (R83). -/
theorem thresholdOf_lineAssigned (i : Fin 4) (c : Capture) (data : List Byte) (s : State) :
    (s.lineAssigned i c data).thresholdOf c.epoch = true ↔
      ∃ o, s.epochs.table.opened = some o ∧ o.number = c.epoch ∧ o.threshold ≠ 0#16 ∧
        o.threshold.toNat ≤ o.lines + 1 := by
  have hopened : (s.lineAssigned i c data).epochs.table.opened =
      s.epochs.table.opened.map fun e => if e.number = c.epoch then e.countLine s.ring.head s.pins.now else e :=
    EpochTable.opened_modify _ _ fun _ => rfl
  unfold State.thresholdOf
  rw [hopened]
  cases ho : s.epochs.table.opened with
  | none => simp
  | some o =>
    by_cases hn : o.number = c.epoch
    · have hlt := o.threshold.isLt
      simp only [Option.map_some, hn, if_true, Bool.and_eq_true, LiveEpoch.thresholdReached_iff, Option.some.injEq,
        exists_eq_left']
      simp [LiveEpoch.countLine, hn]
      omega
    · simp [hn]

/-- Settles O33: the line threshold reached or not. -/
theorem captureReadDone : Obligations.CaptureReadDone := by
  intro s e rest i c data hrun h hsource hslot hphase info address t
  have hexec : exec (.captureReadDone data) s = .next (updateSpace (assignLine i c data (s.answered rest))) :=
    whileRunning_captureAnswered_of_reading hrun h hsource false _ hslot hphase
  have ht : (s.answered rest).lineAssigned i c data = t := by
    rw [State.lineAssigned, State.lineRecordWrites, State.slotAddress_body, State.slotAddress_head]
    rfl
  rw [hexec, assignLine_eq, ht]
  have hreached := thresholdOf_lineAssigned i c data (s.answered rest)
  rw [ht] at hreached
  refine ⟨fun hnot => ?_, fun o ho hn hon hlines => ?_⟩
  · rw [if_neg fun hr => ?_]
    obtain ⟨o, ho, hn, hon, hlines⟩ := hreached.mp hr
    obtain hoff | hless := hnot o ho hn
    · exact hon hoff
    · omega
  · rw [if_pos (hreached.mpr ⟨o, ho, hn, hon, hlines⟩)]

theorem HoldEntry.servedBy_eq (x : HoldEntry) (c : Capture) :
    x.servedBy c =
      decide (c.hold = some x.id ∨ (x.state = .waitCapture ∧ x.tag.isSome = true ∧ x.tag = c.tag)) := by
  rw [Bool.eq_iff_iff, x.servedBy_iff, decide_eq_true_iff]

theorem freeTag_eq (k : Option TagKey) (tags : List TagEntry) :
    freeTag k tags = tags.filter fun t => decide (some t.key ≠ k) :=
  List.filter_congr fun t _ => by by_cases h : some t.key = k <;> simp [h]

/-- A capture given up: its promise released, its tag freed and its slot IDLE (R26, R56, R65, R67). -/
theorem releaseCapture_eq (i : Fin 4) (c : Capture) (s : State) :
    releaseCapture i c s =
      updateLow
        { s with
          ring := { s.ring with promised := s.ring.promised - 1 }
          capture :=
            { tags := s.capture.tags.filter fun t => decide (some t.key ≠ c.tag)
              slots := s.capture.slots.set i none
              reads := s.capture.reads } } := by
  rw [← freeTag_eq]
  rfl

/-- A capture read answered FAULT (R11, R50, R65). -/
theorem faultCapture_eq (i : Fin 4) (c : Capture) (s : State) {served : HoldEntry → Bool}
    (hserved : (fun x : HoldEntry => x.servedBy c) = served) :
    faultCapture i c s =
      let damaged := reportDamage .captureReadFault c.epoch c.line s
      noteCapturesSettled (updateLow
        { damaged with
          ring := { damaged.ring with promised := s.ring.promised - 1 }
          hold := { s.hold with entries := s.hold.entries.filter fun x => !served x }
          epochs :=
            { damaged.epochs with
              table := damaged.epochs.table.modify c.epoch fun x =>
                { x with held := x.held - (s.hold.entries.filter served).length } }
          capture :=
            { tags := s.capture.tags.filter fun t => decide (some t.key ≠ c.tag)
              slots := s.capture.slots.set i none
              reads := s.capture.reads } }) := by
  subst hserved
  obtain ⟨-, -, hring, hhold, hcapture, -⟩ := reportDamage_untouched .captureReadFault c.epoch c.line s
  have hpromised : (reportDamage .captureReadFault c.epoch c.line s).ring.promised = s.ring.promised :=
    congrArg RingManager.promised hring
  dsimp only [faultCapture]
  rw [releaseCapture_eq]
  generalize reportDamage .captureReadFault c.epoch c.line s = damaged at *
  rw [← hpromised, ← hhold, ← hcapture]
  rfl

/-- Settles O34: the slot IDLE, a FAULT with either mark, and DONE to a cancelled read. -/
theorem captureReadsGivenUp : Obligations.CaptureReadsGivenUp := by
  intro s e rest i hrun h hsource a
  refine ⟨fun hslot => ⟨fun data => ?_, ?_, fun answer => ?_⟩, fun c cancelled hslot hphase => ?_⟩
  · exact whileRunning_captureAnswered_of_idle hrun h hsource false _ hslot
  · exact whileRunning_captureAnswered_of_idle hrun h hsource false _ hslot
  · exact whileRunning_captureAnswered_of_idle hrun h hsource true _ hslot
  · intro ended served damaged lost faulted
    have hserved : (fun x : HoldEntry => x.servedBy c) = served := funext fun x => x.servedBy_eq c
    have hfaulted : updateSpace (faultCapture i c a) = faulted := by
      rw [faultCapture_eq i c a hserved]
      rfl
    refine ⟨fun hc => ?_, fun hc => ⟨?_, fun data => ?_⟩⟩ <;> subst hc
    · rw [← hfaulted]
      exact whileRunning_captureAnswered_of_reading hrun h hsource false _ hslot hphase
    · rw [← hfaulted]
      exact whileRunning_captureAnswered_of_reading hrun h hsource true _ hslot hphase
    · have hexec : exec (.cancelledReadAnswer (.done data)) s =
          .next (updateSpace (noteCapturesSettled (releaseCapture i c a))) :=
        whileRunning_captureAnswered_of_reading hrun h hsource true _ hslot hphase
      rw [hexec, releaseCapture_eq]
      rfl

end Sys2Proof.Machine

/-! Records that become durable (R30, R64, R78, R95, R102): the settlements of O35 and O36. -/

namespace Sys2Proof.Machine

-- One theorem at a time: the proofs below would otherwise wait for one another in many threads.
set_option Elab.async false

/-! ### Acknowledged record writes -/

section
variable {s : State} {e : MemoryEntry} {rest : List MemoryEntry} {info : RecordInfo}
  (hrun : s.Running) (h : s.Awaits e rest)
include hrun h

theorem exec_recordBodyAck (hsource : e.source = .recordWrite info false) :
    exec .recordBodyAck s = .next (s.answered rest) :=
  whileRunning_onAnswer hrun h (by rw [hsource]; rfl) _

theorem exec_recordHeadAck (hsource : e.source = .recordWrite info true) :
    exec .recordHeadAck s = .next (updateSpace (recordDurable info (s.answered rest))) :=
  whileRunning_onAnswer hrun h (by rw [hsource]; rfl) _

end

section
variable {s : State} {info : RecordInfo}

theorem recordDurable_of_halted (h : s.modes.mode = .halted) : recordDurable info s = s := if_pos h

theorem recordDurable_of_line (h : s.modes.mode ≠ .halted) (hkind : info.kind = .line) {i : Fin 4} {c : Capture}
    (hof : s.capture.ofRecord info = some (i, c)) :
    recordDurable info s = endCapture i c (bump .records s) := by
  rw [recordDurable, if_neg h]
  dsimp only
  rw [hkind, show (bump .records s).capture.ofRecord info = some (i, c) from hof]

theorem recordDurable_of_commit (h : s.modes.mode ≠ .halted) (hkind : info.kind = .commit) :
    recordDurable info s = commitPoint info (bump .records s) := by
  rw [recordDurable, if_neg h]
  dsimp only
  rw [hkind]

theorem recordDurable_of_close (h : s.modes.mode ≠ .halted) (hkind : info.kind = .close) :
    recordDurable info s = closeDurable info (bump .records s) := by
  rw [recordDurable, if_neg h]
  dsimp only
  rw [hkind]

end

/-! ### LINE records -/

/-- The slot order up to `i`, and from `i` on. -/
theorem slotOrder_split (i : Fin 4) : ∃ l, slotOrder = slotOrder.filter (· < i) ++ i :: l :=
  ⟨slotOrder.filter (i < ·), by revert i; decide⟩

/-- The capture whose record was written: the first slot WRITING to the record's ring slot (R64). -/
theorem CaptureUnit.ofRecord_eq_some {u : CaptureUnit} {info : RecordInfo} {i : Fin 4} {c : Capture}
    {contents : List Byte} (hslot : u.slots[i] = some c) (hphase : c.phase = .writing contents info.slot info.sequence)
    (hfirst : ∀ j : Fin 4, j < i → ∀ x, u.slots[j] = some x →
      ∀ other : List Byte, x.phase ≠ .writing other info.slot info.sequence) :
    u.ofRecord info = some (i, c) := by
  obtain ⟨l, hl⟩ := slotOrder_split i
  refine List.findSome?_eq_some_iff.mpr ⟨_, i, l, hl, ?_, fun j hj => ?_⟩
  · simp only [hslot, hphase]
    simp
  · have hlt : j < i := of_decide_eq_true (List.mem_filter.mp hj).2
    have hother := hfirst j hlt
    cases hj : u.slots[j] with
    | none => rfl
    | some x =>
      cases hx : x.phase with
      | reading b => simp only [hx]
      | writing data slot sequence =>
        have hne : ¬(slot = info.slot ∧ sequence = info.sequence) := by
          rintro ⟨rfl, rfl⟩
          exact hother x hj data hx
        simp only [hx, hne, if_false]

theorem readyServed_eq (c : Capture) (entries : List HoldEntry) :
    readyServed c entries =
      entries.map fun x =>
        if c.hold = some x.id ∨ (x.state = .waitCapture ∧ x.tag.isSome = true ∧ x.tag = c.tag) then
          { x with state := .ready, tag := none, capture := none }
        else x :=
  List.map_congr_left fun x _ => if_congr (x.servedBy_iff c) rfl rfl

/-- A capture ends while its epoch is OPEN: its tag entry becomes SAVED (R56). -/
theorem endCapture_of_open {s : State} {c : Capture} {o : LiveEpoch} (ho : s.epochs.table.opened = some o)
    (hn : o.number = c.epoch) (i : Fin 4) :
    endCapture i c s =
      noteCapturesSettled
        { s with
          hold := { s.hold with entries := readyServed c s.hold.entries }
          capture :=
            { s.capture with tags := setTag c.tag .saved s.capture.tags, slots := s.capture.slots.set i none } } := by
  simp only [endCapture, ho, Option.map_some, hn, BEq.rfl, if_true]
  rfl

/-- A capture ends while its epoch is not OPEN: its tag entry is freed (R56). -/
theorem endCapture_of_not_open {s : State} {c : Capture}
    (ho : ∀ o, s.epochs.table.opened = some o → o.number ≠ c.epoch) (i : Fin 4) :
    endCapture i c s =
      noteCapturesSettled
        { s with
          hold := { s.hold with entries := readyServed c s.hold.entries }
          capture :=
            { s.capture with tags := freeTag c.tag s.capture.tags, slots := s.capture.slots.set i none } } := by
  have hopen : (s.epochs.table.opened.map (·.number) == some c.epoch) = false := by
    rw [beq_eq_false_iff_ne]
    intro hmap
    obtain ⟨o, hopened, hn⟩ := Option.map_eq_some_iff.mp hmap
    exact ho o hopened hn
  simp only [endCapture, hopen, Bool.false_eq_true, if_false]
  rfl

/-- Settles O35: the body write, the head write in HALTED, and the head write that ends a capture. -/
theorem lineRecordsDurable : Obligations.LineRecordsDurable := by
  intro s e rest info hrun h a
  refine ⟨exec_recordBodyAck hrun h, fun hsource hhalted => ?_,
    fun i c contents hsource hmode hkind hslot hphase hfirst => ?_⟩
  · rw [exec_recordHeadAck hrun h hsource, recordDurable_of_halted (by exact hhalted)]
  · intro ended
    have hexec : exec .recordHeadAck s = .next (updateSpace (endCapture i c (bump .records a))) := by
      rw [exec_recordHeadAck hrun h hsource, recordDurable_of_line (s := s.answered rest) hmode hkind
        (CaptureUnit.ofRecord_eq_some hslot hphase hfirst)]
    refine ⟨fun ⟨o, ho, hn⟩ => hexec.trans ?_, fun ho => hexec.trans ?_⟩
    · rw [endCapture_of_open (by exact ho) hn, readyServed_eq]
      rfl
    · rw [endCapture_of_not_open (by exact ho), readyServed_eq, freeTag_eq]
      rfl

/-! ### Markers -/

/-- The state after the commit point of the sequence `q`, the re-examination apart (R2, R8, R78, R79). -/
def State.commitClosed (s : State) (q : CommitSequence) (commit : Option CommitSequence) : State :=
  requestUpdate (bump .commits (raise .commitDone
    { s with
      epochs :=
        { s.epochs with closedThrough := q.epoch, table := s.epochs.table.remove q.epoch, commit := commit } }))

theorem commitClosed_modes (s : State) (q : CommitSequence) (commit : Option CommitSequence) :
    (s.commitClosed q commit).modes = s.modes :=
  (requestUpdate_untouched _).2.2.1

theorem commitClosed_heldTrigger (s : State) (q : CommitSequence) (commit : Option CommitSequence) :
    (s.commitClosed q commit).epochs.heldTrigger = s.epochs.heldTrigger :=
  Eq.trans (congrArg EpochController.heldTrigger (requestUpdate_untouched _).2.2.2.1) rfl

section
variable {s : State} {q : CommitSequence} {info : RecordInfo} (hq : s.epochs.commit = some q)
  (hepoch : q.epoch = info.epoch)
include hq hepoch

theorem commitPoint_of_quiesce (hpurpose : q.purpose = .quiesce) :
    commitPoint info s = s.commitClosed q (some { q with phase := .anchorWait }) := by
  simp only [commitPoint, hq, hepoch, if_true, hpurpose, reduceCtorEq, false_and, if_false, State.commitClosed]
  rfl

/-- A commit re-examines the trigger it held, unless the freeze flag is set (R85, R86). -/
theorem commitPoint_of_commit (hpurpose : q.purpose = .commit) :
    commitPoint info s =
      if s.epochs.heldTrigger = true ∧ s.modes.freeze = false then reexamine (s.commitClosed q none)
      else s.commitClosed q none := by
  rw [← commitClosed_modes s q none, ← commitClosed_heldTrigger s q none]
  simp only [commitPoint, hq, hepoch, if_true, hpurpose, true_and, State.commitClosed]
  rfl

end

theorem closeDurable_of_rollback {s : State} {r : Rollback} {slot : Nat} {sequence : Word}
    (hr : s.replay.rollback = some r) (hphase : r.phase = .closing slot sequence) (info : RecordInfo) :
    closeDurable info s = endRollback r s := by
  simp [closeDurable, hr, hphase]

theorem closeDurable_of_recovery {s : State} {q : Recovery} (hr : s.replay.rollback = none)
    (hq : s.replay.recovery = some q) (hphase : q.phase = .closing) (info : RecordInfo) :
    closeDurable info s = anchorRecovery q info.epoch s := by
  simp [closeDurable, hr, hq, hphase]

/-- Settles O36: the commit point for each purpose, and the CLOSE record of a rollback and of a recovery. -/
theorem markersDurable : Obligations.MarkersDurable := by
  intro s e rest info hrun h hsource hmode a
  rw [exec_recordHeadAck hrun h hsource]
  refine ⟨fun q hkind hq hepoch => ?_, fun highest slot sequence hkind hr => ?_, fun q hkind hr hq hphase => ?_⟩
  · rw [recordDurable_of_commit (by exact hmode) hkind]
    refine ⟨fun hpurpose => ?_, fun hpurpose hnot => ?_, fun hpurpose hheld hfreeze => ?_⟩
    · rw [commitPoint_of_quiesce (by exact hq) hepoch hpurpose]
      rfl
    · rw [commitPoint_of_commit (by exact hq) hepoch hpurpose, if_neg]
      · rfl
      · rintro ⟨hheld, hfreeze⟩
        obtain hno | hset := hnot
        · exact Bool.false_ne_true (hno.symm.trans hheld)
        · exact Bool.false_ne_true (hfreeze.symm.trans hset)
    · rw [commitPoint_of_commit (by exact hq) hepoch hpurpose, if_pos (by exact ⟨hheld, hfreeze⟩)]
      rfl
  · rw [recordDurable_of_close (by exact hmode) hkind, closeDurable_of_rollback (by exact hr) rfl]
    rfl
  · rw [recordDurable_of_close (by exact hmode) hkind, closeDurable_of_recovery (by exact hr) (by exact hq) hphase]
    rfl

end Sys2Proof.Machine

/-! The triggers (R83 to R86) and the indications of the ring manager (R36, R37): the settlements of O37 and O38. -/

namespace Sys2Proof.Machine

-- One theorem at a time: the proofs below would otherwise wait for one another in many threads.
set_option Elab.async false

/-! ### How a commit request is judged (R72) -/

theorem EpochTable.has_eq_false_iff (t : EpochTable) (st : EpochState) :
    t.has st = false ↔ ¬∃ x ∈ t.epochs, x.state = st := by
  rw [← t.has_iff, Bool.not_eq_true]

section
variable {s : State}

theorem judgeCommit_of_mode (h : s.modes.mode ≠ .active) : s.judgeCommit = .mode := if_pos h

variable (hmode : s.modes.mode = .active)
include hmode

theorem judgeCommit_of_rollback (hr : s.replay.rollback ≠ none) : s.judgeCommit = .busy := by
  have hrolling : s.rollingBack = true := Option.isSome_iff_ne_none.mpr hr
  simp [State.judgeCommit, hmode, hrolling]

variable (hr : s.replay.rollback = none)
include hr

theorem judgeCommit_of_committing (hc : ∃ x ∈ s.epochs.table.epochs, x.state = .committing) :
    s.judgeCommit = .busyCommitting := by
  simp [State.judgeCommit, hmode, State.rollingBack, hr, (EpochTable.has_iff _ _).mpr hc]

variable (hc : ¬∃ x ∈ s.epochs.table.epochs, x.state = .committing)
include hc

theorem judgeCommit_of_failed (hf : ∃ x ∈ s.epochs.table.epochs, x.state = .failed) : s.judgeCommit = .busy := by
  simp [State.judgeCommit, hmode, State.rollingBack, hr, (EpochTable.has_eq_false_iff _ _).mpr hc,
    (EpochTable.has_iff _ _).mpr hf]

/-- With no epoch COMMITTING or FAILED the OPEN epoch decides (R72). -/
theorem judgeCommit_of_open {o : LiveEpoch} (hf : ¬∃ x ∈ s.epochs.table.epochs, x.state = .failed)
    (ho : s.epochs.table.opened = some o) :
    s.judgeCommit = if o.damaged then .damaged else if o.empty then .empty o else .commits o := by
  simp [State.judgeCommit, hmode, State.rollingBack, hr, (EpochTable.has_eq_false_iff _ _).mpr hc,
    (EpochTable.has_eq_false_iff _ _).mpr hf, ho]

end

theorem LiveEpoch.not_empty_iff (e : LiveEpoch) : e.empty = false ↔ 0 < e.lines ∨ 0 < e.held ∨ 0 < e.out := by
  rw [← Bool.not_eq_true, e.empty_iff]
  omega

/-! ### Triggers -/

/-- What a trigger that acts does with the verdict (R84, R85). -/
def State.triggered (full : Bool) (s : State) : CommitVerdict → State
  | .empty e => commitEmpty e.number s
  | .commits e => commitOpen e.number s
  | .busyCommitting =>
    { s with epochs := { s.epochs with heldTrigger := true, fullRequest := full || s.epochs.fullRequest } }
  | .busy => { s with epochs := { s.epochs with fullRequest := full || s.epochs.fullRequest } }
  | .mode => s
  | .damaged => s

section
variable {s : State} (full : Bool)

theorem fireTrigger_of_acts
    (h : s.modes.mode = .active ∧ (∃ o, s.epochs.table.opened = some o) ∧ s.modes.freeze = false) :
    fireTrigger full s = s.triggered full s.judgeCommit := by
  rw [fireTrigger, if_pos (s.triggersAct_iff.mpr h)]
  cases s.judgeCommit <;> rfl

theorem fireTrigger_of_idle
    (h : ¬(s.modes.mode = .active ∧ (∃ o, s.epochs.table.opened = some o) ∧ s.modes.freeze = false)) :
    fireTrigger full s = s :=
  if_neg (mt s.triggersAct_iff.mp h)

end

theorem LiveEpoch.ageReached_iff (e : LiveEpoch) (now : Nat) :
    e.ageReached now = true ↔
      ∃ time, e.firstTime = some time ∧ e.ageLimit ≠ 0#16 ∧ e.ageLimit.toNat * 1000 ≤ now - time := by
  unfold LiveEpoch.ageReached
  cases e.firstTime <;> simp

theorem State.countOrAgeHolds_iff (s : State) :
    s.countOrAgeHolds = true ↔
      ∃ o, s.epochs.table.opened = some o ∧
        ((o.threshold ≠ 0#16 ∧ o.threshold.toNat ≤ o.lines) ∨
          ∃ time, o.firstTime = some time ∧ o.ageLimit ≠ 0#16 ∧ o.ageLimit.toNat * 1000 ≤ s.pins.now - time) := by
  unfold State.countOrAgeHolds
  cases s.epochs.table.opened with
  | none => simp
  | some o => simp only [Bool.or_eq_true, o.thresholdReached_iff, o.ageReached_iff, Option.some.injEq, exists_eq_left']

/-- The state with no held trigger (R85). -/
def State.withoutHeldTrigger (s : State) : State := { s with epochs := { s.epochs with heldTrigger := false } }

theorem reexamine_eq (s : State) :
    reexamine s =
      if s.countOrAgeHolds = true ∨ s.epochs.fullRequest = true then
        fireTrigger s.epochs.fullRequest s.withoutHeldTrigger
      else s.withoutHeldTrigger := by
  rw [reexamine]
  exact if_congr (Bool.or_eq_true _ _ ▸ Iff.rfl) rfl rfl

section
variable {s : State} (hrun : s.Running)
include hrun

theorem exec_autoCommitAgeExpiry : exec .autoCommitAgeExpiry s = .next (expireAge s) := whileRunning_of_running hrun _

end

theorem expireAge_of_frozen {s : State} (h : s.modes.freeze = true) : expireAge s = s := if_pos h

theorem expireAge_of_open {s : State} {o : LiveEpoch} {time : Nat} (hfreeze : s.modes.freeze = false)
    (ho : s.epochs.table.opened = some o) (htime : o.firstTime = some time) (hlimit : o.ageLimit ≠ 0#16) :
    expireAge s = updateSpace (fireTrigger false (elapseTo (time + o.ageLimit.toNat * 1000) s)) := by
  simp [expireAge, hfreeze, ho, htime, hlimit]

/-- Settles O37: a trigger by its verdict, the re-examination, and the age row. -/
theorem triggersAndTheirReexamination : Obligations.TriggersAndTheirReexamination := by
  intro s acts committing failed
  refine ⟨fun full => ?_, ?_, fun hrun => ⟨fun hfreeze => ?_, fun o time hfreeze ho htime hlimit => ?_⟩⟩
  · intro holding
    refine ⟨fun h => fireTrigger_of_idle full h, fun h hr => ?_, fun h hr hc => ?_, fun h hr hc hf => ?_,
      fun o h hr hc hf ho => ?_⟩
    · rw [fireTrigger_of_acts full h, judgeCommit_of_rollback h.1 hr]
      rfl
    · rw [fireTrigger_of_acts full h, judgeCommit_of_committing h.1 hr hc]
      rfl
    · rw [fireTrigger_of_acts full h, judgeCommit_of_failed h.1 hr hc hf]
      rfl
    · rw [fireTrigger_of_acts full h, judgeCommit_of_open h.1 hr hc hf ho]
      refine ⟨fun hd => ?_, fun hd hempty => ?_, fun hd hlive => ?_⟩
      · rw [if_pos hd]
        rfl
      · rw [if_neg (by simp [hd]), if_pos (o.empty_iff.mpr hempty)]
        rfl
      · rw [if_neg (by simp [hd]), if_neg (by simp [o.not_empty_iff.mpr hlive])]
        rfl
  · intro t holds
    have hiff : s.countOrAgeHolds = true ∨ s.epochs.fullRequest = true ↔ holds :=
      or_congr s.countOrAgeHolds_iff Iff.rfl
    rw [reexamine_eq]
    exact ⟨fun h => if_pos (hiff.mpr h), fun h => if_neg (mt hiff.mp h)⟩
  · rw [exec_autoCommitAgeExpiry hrun, expireAge_of_frozen hfreeze]
  · rw [exec_autoCommitAgeExpiry hrun, expireAge_of_open hfreeze ho htime hlimit]

/-! ### The space indications -/

theorem State.blockedNow_iff (s : State) :
    s.blockedNow = true ↔
      s.modes.mode = .active ∧ s.anchor.working.slots.toNat - s.ring.used - s.ring.promised ≤ 2 ∧
        (∃ i : Fin 4, s.capture.slots[i] = none) ∧
        ∃ (older younger : List HoldEntry) (e : HoldEntry),
          s.hold.entries = older ++ e :: younger ∧ e.cls ≠ .pass ∧ e.state = .needsCapture ∧ e.capture = none ∧
          ∀ x ∈ older, x.line ≠ e.line := by
  have heligible := firstEligible_isSome_iff s.hold.entries []
  simp only [HoldEntry.wantsCapture_iff, List.not_mem_nil, not_false_eq_true, true_and, and_assoc] at heligible
  rw [State.blockedNow, Bool.and_eq_true, Bool.and_eq_true, Bool.and_eq_true, idleSlot_isSome_iff, heligible, beq_iff_eq,
    show Config.captureReserve = 2 from rfl, State.free_le_iff]
  exact ⟨fun ⟨⟨⟨hmode, hidle⟩, he⟩, hfree⟩ => ⟨hmode, hfree, hidle, he⟩,
    fun ⟨hmode, hfree, hidle, he⟩ => ⟨⟨⟨hmode, hidle⟩, he⟩, hfree⟩⟩

theorem blockedNow_updateLow (s : State) : (updateLow s).blockedNow = s.blockedNow := by
  unfold updateLow; split <;> rfl

theorem updateLow_anchor (s : State) : (updateLow s).anchor = s.anchor := by
  unfold updateLow; split <;> rfl

section
variable {s : State}

theorem updateBlocked_of_clear (h : s.blockedNow = false) :
    updateBlocked s =
      { s with ring := { s.ring with blocked := false }, epochs := { s.epochs with fullRequest := false } } := by
  simp only [updateBlocked, h, Bool.false_eq_true, if_false]
  rfl

theorem updateBlocked_of_still (h : s.blockedNow = true) (hb : s.ring.blocked = true) : updateBlocked s = s := by
  simp only [updateBlocked, h, hb, if_true]
  rw [← hb]
  rfl

/-- Ring blocked begins: JOURNAL-FULL is raised (R37). -/
theorem updateBlocked_of_begun (h : s.blockedNow = true) (hb : s.ring.blocked = false) :
    updateBlocked s =
      let t := raise .journalFull { s with ring := { s.ring with blocked := true } }
      if s.anchor.working.fullPolicy = 1#2 then fireTrigger true t else t := by
  simp only [updateBlocked, h, hb, if_true, Bool.false_eq_true, if_false]
  rfl

end

/-- Low space once recomputed stays, whatever the blocked indication and the epochs become (R36). -/
theorem updateLow_of_ring {s t : State} (hring : ∃ b, t.ring = { (updateLow s).ring with blocked := b })
    (hanchor : t.anchor = s.anchor) : updateLow t = t := by
  obtain ⟨b, hring⟩ := hring
  refine updateLow_of_settled ?_
  rw [hring, updateLow_ring]
  unfold State.lowNow State.free State.size
  rw [hring, updateLow_ring, hanchor]

/-- Settles O38: ring blocked over, standing, and begun with each full policy. -/
theorem spaceIndications : Obligations.SpaceIndications := by
  intro s low blocked free hlow hblocked lowRaised
  obtain rfl : low = s.lowNow := Bool.eq_iff_iff.mpr (hlow.trans (and_assoc.symm.trans s.lowNow_iff.symm))
  obtain rfl : blocked = s.blockedNow := Bool.eq_iff_iff.mpr (hblocked.trans s.blockedNow_iff.symm)
  have hraised : updateLow s = lowRaised { s with ring := { s.ring with lowSpace := s.lowNow } } := rfl
  have hring := updateLow_ring s
  refine ⟨hraised, fun h => ?_, fun h hb => ?_, fun h hb hpolicy => ?_, fun h hb hpolicy => ?_⟩
  · rw [updateSpace, updateBlocked_of_clear ((blockedNow_updateLow s).trans h),
      updateLow_of_ring (s := s) (by exact ⟨false, rfl⟩) (by exact updateLow_anchor s), hraised]
    dsimp only [lowRaised]
    split <;> rfl
  · rw [updateSpace, updateBlocked_of_still ((blockedNow_updateLow s).trans h) (by rw [hring]; exact hb),
      updateLow_updateLow, hraised]
  · rw [updateSpace, updateBlocked_of_begun ((blockedNow_updateLow s).trans h) (by rw [hring]; exact hb)]
    dsimp only
    rw [if_neg (by rw [updateLow_anchor]; exact hpolicy), updateLow_of_ring (s := s) (by exact ⟨true, rfl⟩) (by exact updateLow_anchor s), hraised]
    dsimp only [lowRaised]
    split <;> rfl
  · rw [updateSpace, updateBlocked_of_begun ((blockedNow_updateLow s).trans h) (by rw [hring]; exact hb)]
    dsimp only
    rw [if_pos (by rw [updateLow_anchor]; exact hpolicy), hraised]
    dsimp only [lowRaised]
    split <;> rfl

end Sys2Proof.Machine

/-! Anchor writes and LOADING (R31, R34, R79, R138 to R145): the settlements of O39, O40, O41 and O42. -/

namespace Sys2Proof.Machine

-- One theorem at a time: the proofs below would otherwise wait for one another in many threads.
set_option Elab.async false

/-! ### The carried tail -/

theorem oldestRecorded_eq_none {l : List LiveEpoch} (h : ∀ x ∈ l, x.firstSlot = none) : oldestRecorded l = none := by
  induction l with
  | nil => rfl
  | cons e l ih =>
    rw [oldestRecorded, h e List.mem_cons_self, ih fun x hx => h x (List.mem_cons_of_mem _ hx)]

/-- The older of two live epochs that both have a first record slot. -/
theorem oldestRecorded_pair {a b : LiveEpoch} {x y : Nat} (ha : a.firstSlot = some x) (hb : b.firstSlot = some y) :
    oldestRecorded [a, b] = if after a.number b.number then some (b.number, y) else some (a.number, x) := by
  simp [oldestRecorded, ha, hb]

/-- The oldest of the live epochs with a first record slot (R31). -/
theorem oldestRecorded_eq_some {t : EpochTable} {e : LiveEpoch} {slot : Nat} (he : e ∈ t.epochs)
    (hslot : e.firstSlot = some slot)
    (hold : ∀ x ∈ t.epochs, x.firstSlot ≠ none → x = e ∨ after x.number e.number = true) :
    oldestRecorded t.epochs = some (e.number, slot) := by
  have hsingle : oldestRecorded [e] = some (e.number, slot) := by simp [oldestRecorded, hslot]
  have hpair (a b : LiveEpoch) (hmem : e = a ∨ e = b)
      (hold : ∀ x, x = a ∨ x = b → x.firstSlot ≠ none → x = e ∨ after x.number e.number = true) :
      oldestRecorded [a, b] = some (e.number, slot) := by
    obtain rfl | rfl := hmem
    · cases hb : b.firstSlot with
      | none => simp [oldestRecorded, hslot, hb]
      | some y =>
        rw [oldestRecorded_pair hslot hb]
        obtain rfl | hafter := hold b (.inr rfl) (by simp [hb])
        · cases hslot.symm.trans hb
          simp
        · simp [after_asymm _ _ hafter]
    · cases ha : a.firstSlot with
      | none => simp [oldestRecorded, hslot, ha]
      | some x =>
        rw [oldestRecorded_pair ha hslot]
        obtain rfl | hafter := hold a (.inl rfl) (by simp [ha])
        · cases hslot.symm.trans ha
          simp
        · simp [hafter]
  obtain ⟨a, b⟩ := t
  match a, b, he, hold with
  | some a, some b, he, hold =>
    exact hpair a b (by simpa [EpochTable.epochs] using he) (by simpa [EpochTable.epochs] using hold)
  | some a, none, he, _ =>
    obtain rfl : e = a := by simpa [EpochTable.epochs] using he
    exact hsingle
  | none, some b, he, _ =>
    obtain rfl : e = b := by simpa [EpochTable.epochs] using he
    exact hsingle
  | none, none, he, _ => simp [EpochTable.epochs] at he

/-! ### Building an update -/

/-- The state with an update in flight that carries the tail (R140). -/
def State.withUpdate (s : State) (tail : Nat) (sequence closed : Word) (ends : Bool) : State :=
  { s with
    anchor :=
      { s.anchor with
        pendingUpdate := false
        write := some
          { kind := .update tail sequence ends, target := s.anchor.target, generation := s.anchor.generation + 1#32,
            bytes := anchorBytes
              { configuration := s.anchor.working, generation := s.anchor.generation + 1#32,
                ringId := s.ring.ringId, tail := tail, tailSequence := sequence, closedThrough := closed }
            granted := 0, first := none } } }


theorem ReplayEngine.anchoring_of_some {r : ReplayEngine} {q : Recovery} {closed : Word} (h : r.recovery = some q)
    (hphase : q.phase = .anchoring) (hclosed : q.recoveredThrough = some closed) : r.anchoring = some closed := by
  simp [ReplayEngine.anchoring, h, hphase, hclosed]

theorem buildUpdate_of_running {s : State} (h : s.replay.anchoring = none) :
    buildUpdate s = s.withUpdate s.carriedTail.1 s.carriedTail.2 s.epochs.closedThrough false := by
  rw [buildUpdate, h]
  rfl

theorem buildUpdate_of_anchoring {s : State} {closed : Word} (h : s.replay.anchoring = some closed) :
    buildUpdate s = s.withUpdate s.recoveryTail.1 s.recoveryTail.2 closed true := by
  rw [buildUpdate, h]
  rfl

/-- Settles O39: an update pending, one with no recorded epoch, one with the oldest of them, and one that ends a
recovery. -/
theorem anchorUpdatesBuilt : Obligations.AnchorUpdatesBuilt := by
  intro s size target built
  have hbuilt (tail : Nat) (sequence closed : Word) (ends : Bool) :
      s.withUpdate tail sequence closed ends = built tail sequence closed ends := by
    rw [State.withUpdate, AnchorUnit.target_eq]
  refine ⟨fun hw => ?_, fun hw hr => ⟨fun hnone => ?_, fun e slot he hslot hold => ?_⟩,
    fun q closed hw hq hphase hclosed => ?_⟩
  · obtain ⟨w, hw⟩ := Option.ne_none_iff_exists'.mp hw
    exact requestUpdate_of_some hw
  · rw [requestUpdate_of_none hw, buildUpdate_of_running (ReplayEngine.anchoring_of_none hr), hbuilt,
      State.carriedTail, oldestRecorded_eq_none hnone]
  · rw [requestUpdate_of_none hw, buildUpdate_of_running (ReplayEngine.anchoring_of_none hr), hbuilt,
      State.carriedTail, oldestRecorded_eq_some he hslot hold]
    rfl
  · rw [requestUpdate_of_none hw, buildUpdate_of_anchoring (ReplayEngine.anchoring_of_some hq hphase hclosed), hbuilt]
    rfl

/-! ### The answers to anchor lines -/

section
variable {s : State} {e : MemoryEntry} {rest : List MemoryEntry} {c : Copy} {w : AnchorWrite}
  (hrun : s.Running) (h : s.Awaits e rest) (hw : s.anchor.write = some w)
include hrun h hw

theorem exec_anchorLineAnswer (hsource : e.source = .anchorWrite c false) (answer : WriteAnswer) :
    exec (.anchorLineAnswer answer) s =
      .next
        { s.answered rest with
          anchor := { s.anchor with write := some { w with first := some (lineAnswerOf answer) } } } := by
  refine (whileRunning_onAnswer hrun h (a := ()) (by rw [hsource]; rfl) _).trans (congrArg Host.Outcome.next ?_)
  simp only [anchorLineAnswered, State.answered, hw]
  rfl

theorem exec_anchorUpdateAnswer {tail : Nat} {sequence : Word} {ends : Bool} {first : LineAnswer}
    (hsource : e.source = .anchorWrite c true) (hkind : w.kind = .update tail sequence ends)
    (hfirst : w.first = some first) (answer : WriteAnswer) :
    exec (.anchorUpdateAnswer answer) s =
      .next (updateSpace (judgeAnchorWrite w first (lineAnswerOf answer) (s.answered rest))) := by
  have hupdate : s.updateInFlight = true := by simp [State.updateInFlight, hw, hkind]
  refine (next_of_running hrun _).trans (congrArg Host.Outcome.next ?_)
  dsimp only
  rw [if_pos hupdate, onAnswer_of_awaits h (a := ()) (by rw [hsource]; rfl)]
  simp only [anchorLineAnswered, State.answered, hw, hfirst, if_true]

theorem exec_storeAnswer {cfg : Configuration} {first : LineAnswer} (hsource : e.source = .anchorWrite c true)
    (hkind : w.kind = .store cfg) (hfirst : w.first = some first) (answer : WriteAnswer) :
    exec (.storeAnswer answer) s =
      .next (updateSpace (judgeAnchorWrite w first (lineAnswerOf answer) (s.answered rest))) := by
  have hstore : s.storeInFlight = true := s.storeInFlight_iff.mpr ⟨w, cfg, hw, hkind⟩
  refine (next_of_running hrun _).trans (congrArg Host.Outcome.next ?_)
  dsimp only
  rw [if_pos hstore, onAnswer_of_awaits h (a := ()) (by rw [hsource]; rfl)]
  simp only [anchorLineAnswered, State.answered, hw, hfirst, if_true]

end

theorem logAnchorFault_of_first (c : Copy) (second : LineAnswer) (s : State) :
    logAnchorFault c .fault second s = logError .anchorWriteFault none (some (s.copyAddress c false)) none s :=
  if_pos rfl

theorem logAnchorFault_of_second (c : Copy) {first : LineAnswer} (h : first ≠ .fault) (s : State) :
    logAnchorFault c first .fault s = logError .anchorWriteFault none (some (s.copyAddress c true)) none s := by
  rw [logAnchorFault, if_neg h, if_pos rfl]

theorem logAnchorFault_of_none (c : Copy) {first second : LineAnswer} (h : first ≠ .fault) (h' : second ≠ .fault)
    (s : State) : logAnchorFault c first second s = s := by
  rw [logAnchorFault, if_neg h, if_neg h']

theorem judgeUpdate_of_done (w : AnchorWrite) (tail : Nat) (sequence : Word) (ends : Bool) (s : State) :
    judgeUpdate w tail sequence ends .done .done s =
      { s with
        anchor := { s.anchor with stale := false, current := some w.target, generation := w.generation }
        ring := s.ring.takeTail tail sequence ends } := rfl

theorem judgeUpdate_of_failed (w : AnchorWrite) (tail : Nat) (sequence : Word) (ends : Bool)
    {first second : LineAnswer} (h : ¬(first = .done ∧ second = .done)) (s : State) :
    judgeUpdate w tail sequence ends first second s =
      raise .anchorStale
        (logAnchorFault w.target first second { s with anchor := { s.anchor with stale := true } }) :=
  if_neg h

/-- What judging an update leaves as it was (R141). -/
structure State.UpdateJudged (s t : State) : Prop where
  modes : t.modes = s.modes
  epochs : t.epochs = s.epochs
  replay : t.replay = s.replay
  pendingUpdate : t.anchor.pendingUpdate = s.anchor.pendingUpdate
  write : t.anchor.write = s.anchor.write
  startMode : t.anchor.working.startMode = s.anchor.working.startMode

theorem logAnchorFault_updateJudged (c : Copy) (first second : LineAnswer) (s : State) :
    s.UpdateJudged (logAnchorFault c first second s) := by
  have hlog (k : ErrorKind) (e l : Option Word) (n : Option Nat) : s.UpdateJudged (logError k e l n s) := by
    obtain ⟨-, -, hmodes, hepochs, -, -, -, hreplay, -, -, hanchor⟩ := logError_untouched k e l n s
    exact ⟨hmodes, hepochs, hreplay, by rw [hanchor], by rw [hanchor], by rw [hanchor]⟩
  unfold logAnchorFault
  split_ifs
  · exact hlog ..
  · exact hlog ..
  · exact ⟨rfl, rfl, rfl, rfl, rfl, rfl⟩

theorem judgeUpdate_updateJudged (w : AnchorWrite) (tail : Nat) (sequence : Word) (ends : Bool)
    (first second : LineAnswer) (s : State) : s.UpdateJudged (judgeUpdate w tail sequence ends first second s) := by
  by_cases h : first = .done ∧ second = .done
  · obtain ⟨rfl, rfl⟩ := h
    exact ⟨rfl, rfl, rfl, rfl, rfl, rfl⟩
  · rw [judgeUpdate_of_failed w tail sequence ends h]
    obtain ⟨hmodes, hepochs, hreplay, hpending, hwrite, hstart⟩ :=
      logAnchorFault_updateJudged w.target first second { s with anchor := { s.anchor with stale := true } }
    exact ⟨hmodes, hepochs, hreplay, hpending, hwrite, hstart⟩

theorem buildPending_of_clear {s : State} (h : s.anchor.pendingUpdate = false) : buildPending s = s := by
  simp [buildPending, h]

theorem buildPending_of_pending {s : State} (h : s.anchor.pendingUpdate = true) : buildPending s = buildUpdate s := by
  simp [buildPending, h]

theorem completeRecovery_of_none {s : State} (h : s.replay.recovery = none) : completeRecovery s = s := by
  rw [completeRecovery, ReplayEngine.anchoring_of_none h]

/-- The state of a recovery that has ended, in its old mode (R103). -/
def State.recovered (s : State) (closed : Word) : State :=
  raise .recoveryDone
    { s with
      epochs := { s.epochs with closedThrough := closed }, replay := { s.replay with recovery := none } }

section
variable {s : State} {closed : Word} (h : s.replay.anchoring = some closed)
include h

theorem completeRecovery_of_active (hstart : s.anchor.working.startMode = 1#2) :
    completeRecovery s =
      rejudge { openEpoch (closed + 1#32) (s.recovered closed) with modes := { s.modes with mode := .active } } := by
  rw [completeRecovery, h]
  simp only [startModeOf, hstart, if_true]
  rfl

theorem completeRecovery_of_quiesced (hstart : s.anchor.working.startMode ≠ 1#2) :
    completeRecovery s = rejudge { s.recovered closed with modes := { s.modes with mode := .quiesced } } := by
  rw [completeRecovery, h]
  simp only [startModeOf, hstart, if_false, reduceCtorEq]
  rfl

end

theorem completeQuiesce_of_none {s : State} (h : s.epochs.commit = none) : completeQuiesce s = s := by
  simp [completeQuiesce, h]

theorem completeQuiesce_of_other {s : State} (h : ∀ q, s.epochs.commit = some q → q.phase ≠ .anchorWait) :
    completeQuiesce s = s := by
  cases hq : s.epochs.commit with
  | none => exact completeQuiesce_of_none hq
  | some q => simp [completeQuiesce, hq, h q hq]

theorem completeQuiesce_of_waiting {s : State} {q : CommitSequence} (h : s.epochs.commit = some q)
    (hphase : q.phase = .anchorWait) :
    completeQuiesce s =
      raise .quiesced (rejudge
        { s with
          epochs := { s.epochs with commit := none }, modes := { s.modes with mode := .quiesced } }) := by
  simp only [completeQuiesce, h, hphase, if_true]
  rfl

/-- The update judged, by what was judged and what goes on (R79, R82, R103; log entry 16). -/
theorem judgeAnchorWrite_of_update {w : AnchorWrite} {tail : Nat} {sequence : Word} {ends : Bool}
    (hkind : w.kind = .update tail sequence ends) {first second : LineAnswer} {s u : State}
    (hu : judgeUpdate w tail sequence ends first second { s with anchor := { s.anchor with write := none } } = u) :
    judgeAnchorWrite w first second s =
      if u.anchor.pendingUpdate then completeRecovery (buildUpdate u) else completeQuiesce (completeRecovery u) := by
  have hjudge : judgeAnchorWrite w first second s =
      if u.anchor.pendingUpdate then completeRecovery (buildPending u)
      else completeQuiesce (completeRecovery (buildPending u)) := by
    rw [judgeAnchorWrite, hkind, ← hu]
    rfl
  rw [hjudge]
  split
  · next hp => rw [buildPending_of_pending hp]
  · next hp => rw [buildPending_of_clear (Bool.not_eq_true _ ▸ hp)]

/-- The update judged, as O40 tells its outcomes apart. -/
theorem judgeUpdate_of_outcome {a t : State} {w : AnchorWrite} {tail : Nat} {sequence : Word} {ends : Bool}
    {first : LineAnswer} {answer : WriteAnswer} {logged : Bool → State} {stale : State}
    (hstale : stale = { a with anchor := { a.anchor with write := none, stale := true } })
    (hlogged : ∀ second, logged second =
      raise .anchorStale (logError .anchorWriteFault none (some (a.copyAddress w.target second)) none stale))
    (h : (first = .done ∧ answer = .done ∧
          t = { a with
                anchor :=
                  { a.anchor with
                    write := none, stale := false, current := some w.target, generation := w.generation }
                ring := a.ring.takeTail tail sequence ends }) ∨
        (first = .fault ∧ t = logged false) ∨ (first ≠ .fault ∧ answer = .fault ∧ t = logged true) ∨
        (first = .timedOut ∧ answer = .done ∧ t = raise .anchorStale stale)) :
    judgeUpdate w tail sequence ends first (lineAnswerOf answer)
      { a with anchor := { a.anchor with write := none } } = t := by
  obtain ⟨rfl, rfl, rfl⟩ | ⟨rfl, rfl⟩ | ⟨hfirst, rfl, rfl⟩ | ⟨rfl, rfl, rfl⟩ := h
  · rfl
  · rw [judgeUpdate_of_failed _ _ _ _ (by simp), logAnchorFault_of_first, hlogged, hstale]
    rfl
  · rw [judgeUpdate_of_failed _ _ _ _ (by simp [lineAnswerOf]), show lineAnswerOf .fault = .fault from rfl,
      logAnchorFault_of_second _ hfirst, hlogged, hstale]
    rfl
  · rw [judgeUpdate_of_failed _ _ _ _ (by simp), logAnchorFault_of_none _ (by simp) (by simp [lineAnswerOf]), hstale]

/-- Settles O40: the first line, and the second by the outcome and by what waits on it. -/
theorem anchorUpdateAnswers : Obligations.AnchorUpdateAnswers := by
  intro s e rest c w hrun h hw a
  refine ⟨fun hsource => ⟨exec_anchorLineAnswer hrun h hw hsource .done, exec_anchorLineAnswer hrun h hw hsource .fault⟩,
    fun tail sequence ends first answer t hsource hkind hfirst houtcome => ?_⟩
  intro row
  have hjudged : judgeUpdate w tail sequence ends first (lineAnswerOf answer)
      { a with anchor := { a.anchor with write := none } } = t :=
    judgeUpdate_of_outcome (logged := fun second => raise .anchorStale (logError .anchorWriteFault none
        (some (s.anchorBase + (if w.target = .b then 128#32 else 0#32) + if second then 64#32 else 0#32)) none
        { a with anchor := { s.anchor with write := none, stale := true } }))
      rfl (fun second => by rw [State.copyAddress_eq]; rfl) houtcome
  have hrow : row = .next (updateSpace
      (if t.anchor.pendingUpdate then completeRecovery (buildUpdate t) else completeQuiesce (completeRecovery t))) := by
    rw [← judgeAnchorWrite_of_update hkind hjudged]
    exact exec_anchorUpdateAnswer hrun h hw hsource hkind hfirst answer
  obtain ⟨hmodes, hepochs, hreplay, hpending, hwrite, hstart⟩ :=
    hjudged ▸ judgeUpdate_updateJudged w tail sequence ends first (lineAnswerOf answer)
      { a with anchor := { a.anchor with write := none } }
  have hmodes : s.modes = t.modes := hmodes.symm
  have hepochs : s.epochs = t.epochs := hepochs.symm
  have hreplay : s.replay = t.replay := hreplay.symm
  have hpending : s.anchor.pendingUpdate = t.anchor.pendingUpdate := hpending.symm
  have hstart : s.anchor.working.startMode = t.anchor.working.startMode := hstart.symm
  rw [hrow, hmodes, hepochs, hreplay, hpending, hstart]
  refine ⟨fun hr hp => ?_, fun hr hp hq => ?_, fun q hr hp hq hphase => ?_, fun q closed hr hphase hclosed hp hq => ?_⟩
  · rw [if_pos hp, requestUpdate_of_none hwrite, completeRecovery_of_none]
    rw [(buildUpdate_untouched t).2.2.2.2.2.2.2.1, hr]
  · rw [if_neg (by simp [hp]), completeRecovery_of_none hr, completeQuiesce_of_other hq]
  · rw [if_neg (by simp [hp]), completeRecovery_of_none hr, completeQuiesce_of_waiting hq hphase]
  · have hanchoring := ReplayEngine.anchoring_of_some hr hphase hclosed
    refine ⟨fun hstart => ?_, fun hstart => ?_⟩
    · rw [if_neg (by simp [hp]), completeRecovery_of_active hanchoring hstart, completeQuiesce_of_none]
      · rfl
      · rw [(rejudge_untouched _).2.2.2.1]
        exact hq
    · rw [if_neg (by simp [hp]), completeRecovery_of_quiesced hanchoring hstart, completeQuiesce_of_none]
      · rfl
      · rw [(rejudge_untouched _).2.2.2.1]
        exact hq

/-! ### The answers to a STORE -/

theorem logAnchorFault_pendingUpdate (c : Copy) (first second : LineAnswer) (s : State) :
    (logAnchorFault c first second s).anchor.pendingUpdate = s.anchor.pendingUpdate :=
  (logAnchorFault_updateJudged c first second s).pendingUpdate

theorem judgeStore_pendingUpdate (w : AnchorWrite) (c : Configuration) (first second : LineAnswer) (s : State) :
    (judgeStore w c first second s).anchor.pendingUpdate = s.anchor.pendingUpdate := by
  unfold judgeStore
  split_ifs
  · rfl
  · simp [installStore, makeCurrent]
  · exact logAnchorFault_pendingUpdate ..
  · simp [logAnchorFault_pendingUpdate]

/-- A STORE is judged with no update pending (R144, R145). -/
theorem judgeAnchorWrite_of_store {w : AnchorWrite} {c : Configuration} (hkind : w.kind = .store c)
    {s : State} (hpending : s.anchor.pendingUpdate = false) (first second : LineAnswer) :
    judgeAnchorWrite w first second s =
      judgeStore w c first second { s with anchor := { s.anchor with write := none } } := by
  rw [judgeAnchorWrite, hkind]
  exact buildPending_of_clear ((judgeStore_pendingUpdate ..).trans hpending)

theorem judgeStore_of_done (w : AnchorWrite) (c : Configuration) (s : State) :
    judgeStore w c .done .done s = if s.modes.mode = .halted then makeCurrent w s else installStore w c s :=
  if_pos ⟨rfl, rfl⟩

theorem judgeStore_of_failed (w : AnchorWrite) (c : Configuration) {first second : LineAnswer}
    (h : ¬(first = .done ∧ second = .done)) (s : State) :
    judgeStore w c first second s =
      if s.modes.mode = .halted then logAnchorFault w.target first second s
      else raise .storeFailed (logAnchorFault w.target first second s) := by
  rw [judgeStore, if_neg h]

theorem Configuration.inArea_eq (c : Configuration) (address : Word) :
    c.inArea address =
      decide (16 ≤ c.slots.toNat ∧ c.slots.toNat ≤ 1048576 ∧ c.basePage.toNat * 4096 ≤ address.toNat ∧
        address.toNat < c.basePage.toNat * 4096 + c.slots.toNat * 128) := by
  rw [Bool.eq_iff_iff, c.inArea_iff, decide_eq_true_iff, and_assoc]

/-- Settles O41: both lines DONE, the first answered FAULT, the second, and a first line that a timeout ended. -/
theorem storeAnswers : Obligations.StoreAnswers := by
  intro s e rest copy w c hrun h hsource hw hkind hpending a current failed logged
  have hexec (first : LineAnswer) (hfirst : w.first = some first) (answer : WriteAnswer) :
      exec (.storeAnswer answer) s =
        .next (updateSpace (judgeStore w c first (lineAnswerOf answer) failed)) := by
    rw [exec_storeAnswer hrun h hw hsource hkind hfirst, judgeAnchorWrite_of_store hkind (s := s.answered rest) hpending]
    rfl
  have hfailed (first : LineAnswer) (hfirst : w.first = some first) (answer : WriteAnswer)
      (hnot : ¬(first = .done ∧ lineAnswerOf answer = .done)) (outcome : State)
      (hlog : logAnchorFault w.target first (lineAnswerOf answer) failed = outcome) :
      (s.modes.mode ≠ .halted → exec (.storeAnswer answer) s = .next (updateSpace (raise .storeFailed outcome))) ∧
      (s.modes.mode = .halted → exec (.storeAnswer answer) s = .next (updateSpace outcome)) := by
    rw [hexec first hfirst, judgeStore_of_failed w c hnot, hlog]
    exact ⟨fun hmode => by rw [if_neg (by exact hmode)], fun hmode => by rw [if_pos (by exact hmode)]⟩
  have hlogged (second : Bool) :
      logError .anchorWriteFault none (some (failed.copyAddress w.target second)) none failed = logged second := by
    rw [State.copyAddress_eq]
    rfl
  refine ⟨fun hfirst hmode => ?_, fun hfirst hmode => ?_, fun answer hfirst => ?_, fun hfirst => ?_, fun hfirst => ?_⟩
  · rw [hexec _ hfirst, show lineAnswerOf .done = .done from rfl, judgeStore_of_done, if_neg (by exact hmode)]
    simp only [← Configuration.inArea_eq]
    rfl
  · rw [hexec _ hfirst, show lineAnswerOf .done = .done from rfl, judgeStore_of_done, if_pos (by exact hmode)]
    rfl
  · refine hfailed _ hfirst answer (by simp) _ ?_
    rw [logAnchorFault_of_first, hlogged]
  · have hnot : ∀ first : LineAnswer, ¬(first = .done ∧ lineAnswerOf .fault = .done) := by simp [lineAnswerOf]
    obtain hfirst | hfirst := hfirst <;> refine hfailed _ hfirst _ (hnot _) _ ?_ <;>
      exact (logAnchorFault_of_second _ (by simp) _).trans (hlogged true)
  · refine hfailed _ hfirst _ (by simp) _ ?_
    exact logAnchorFault_of_none _ (by simp) (by simp [lineAnswerOf]) _

/-! ### LOADING -/

/-- What an anchor read answered leaves of its line: its bytes, or none (R138). -/
def takenOf : ReadAnswer → Option (List Byte)
  | .done data => some data
  | .fault => none

theorem exec_anchorReadAnswer {s : State} {e : MemoryEntry} {rest : List MemoryEntry} {c : Copy} {second : Bool}
    (hrun : s.Running) (h : s.Awaits e rest) (hsource : e.source = .anchorRead c second) (answer : ReadAnswer) :
    exec (.anchorReadAnswer answer) s = .next (updateSpace (anchorReadAnswered answer (s.answered rest))) :=
  whileRunning_onAnswer hrun h (a := ()) (by rw [hsource]; rfl) _

section
variable {s : State} {l : Loading} (hl : s.anchor.loading = some l) (answer : ReadAnswer)
include hl

theorem anchorReadAnswered_of_few (hlength : l.answers.length < 3) :
    anchorReadAnswered answer s =
      { s with anchor := { s.anchor with loading := some { l with answers := l.answers ++ [takenOf answer] } } } := by
  have hnot (x : Option (List Byte)) : (l.answers ++ [x]).length ≠ 4 := by
    rw [List.length_append, List.length_singleton]
    omega
  unfold anchorReadAnswered
  rw [hl]
  cases answer <;> exact if_neg (hnot _)

/-- The fourth anchor read answered has the copies judged (R138, R139). -/
theorem anchorReadAnswered_of_last {a1 a2 b1 : Option (List Byte)} (hanswers : l.answers = [a1, a2, b1]) :
    ∃ l', anchorReadAnswered answer s =
      match chooseCopy (judgeLines s.anchorBase a1 a2) (judgeLines s.anchorBase b1 (takenOf answer)) with
      | some (c, f) => loadCopy c f { s with anchor := { s.anchor with loading := l' } }
      | none => loadNothing { s with anchor := { s.anchor with loading := l' } } := by
  refine ⟨some { l with answers := [a1, a2, b1, takenOf answer] }, ?_⟩
  unfold anchorReadAnswered
  rw [hl]
  cases answer <;> simp only [hanswers, List.cons_append, List.nil_append] <;> rfl

end

theorem chooseCopy_eq_some {a b : Option AnchorFields} {c : Copy} {f : AnchorFields}
    (h : (c = .a ∧ a = some f ∧ ∀ g, b = some g → after g.generation f.generation = false) ∨
      (c = .b ∧ b = some f ∧ ∀ g, a = some g → after f.generation g.generation = true)) :
    chooseCopy a b = some (c, f) := by
  obtain ⟨rfl, rfl, hb⟩ | ⟨rfl, rfl, ha⟩ := h
  · cases b with
    | none => rfl
    | some g => simp [chooseCopy, hb g rfl]
  · cases a with
    | none => rfl
    | some g => simp [chooseCopy, ha g rfl]

/-- Settles O42: the judging of two lines, the first three answers, and the fourth by the copies found. -/
theorem loadingReads : Obligations.LoadingReads := by
  refine ⟨fun base x y z => ⟨rfl, rfl, by cases z <;> rfl⟩,
    fun s e rest c second l answer taken hrun h hsource hl htaken => ?_⟩
  obtain rfl : takenOf answer = taken := by
    obtain ⟨data, rfl, rfl⟩ | ⟨rfl, rfl⟩ := htaken <;> rfl
  rw [exec_anchorReadAnswer hrun h hsource]
  refine ⟨fun hlength => ?_, fun a1 a2 b1 hanswers => ?_⟩
  · rw [anchorReadAnswered_of_few (by exact hl) answer hlength]
    rfl
  · intro copyA copyB
    obtain ⟨l', hlast⟩ := anchorReadAnswered_of_last (s := s.answered rest) hl answer hanswers
    rw [hlast]
    refine ⟨fun ha hb => ?_, fun copy f hchosen => ?_⟩
    · have hnone : chooseCopy copyA copyB = none := by rw [ha, hb]; rfl
      have hnone : chooseCopy (judgeLines (s.answered rest).anchorBase a1 a2)
        (judgeLines (s.answered rest).anchorBase b1 (takenOf answer)) = none := hnone
      rw [hnone]
      rfl
    · have hsome : chooseCopy (judgeLines (s.answered rest).anchorBase a1 a2)
        (judgeLines (s.answered rest).anchorBase b1 (takenOf answer)) = some (copy, f) := chooseCopy_eq_some hchosen
      rw [hsome]
      rfl

end Sys2Proof.Machine

/-! The replay engine (R33, R34, R92 to R104): the settlements of O43, O44 and O45. -/

namespace Sys2Proof.Machine

-- One theorem at a time: the proofs below would otherwise wait for one another in many threads.
set_option Elab.async false

/-! ### Answers to the replay engine -/

section
variable {s : State} {e : MemoryEntry} {rest : List MemoryEntry} {slot : Nat} (hrun : s.Running) (h : s.Awaits e rest)
include hrun h

theorem exec_replayHeadReadAnswer (hsource : e.source = .replayRead slot true) (answer : ReadAnswer) :
    exec (.replayHeadReadAnswer answer) s =
      .next (updateSpace (replayHeadAnswered answer slot (s.answered rest))) :=
  whileRunning_onAnswer hrun h (by rw [hsource]; rfl) _

theorem exec_replayReadAnswer (hsource : e.source = .replayRead slot false) (answer : ReadAnswer) :
    exec (.replayReadAnswer answer) s = .next (updateSpace (replayBodyAnswered answer slot (s.answered rest))) :=
  whileRunning_onAnswer hrun h (by rw [hsource]; rfl) _

theorem exec_restoreWriteAnswer {epoch : Word} (hsource : e.source = .restoreWrite slot epoch) (answer : WriteAnswer) :
    exec (.restoreWriteAnswer answer) s =
      .next (updateSpace (restoreAnswered answer slot epoch e.line (s.answered rest))) :=
  whileRunning_onAnswer hrun h (a := (slot, epoch)) (by rw [hsource]; rfl) _

end

section
variable {s : State}

theorem replayHeadAnswered_of_idle (h : s.replay.running = false) (answer : ReadAnswer) (slot : Nat) :
    replayHeadAnswered answer slot s = s :=
  if_neg (by simp [h])

theorem replayHeadAnswered_of_done (h : s.replay.running = true) (data : List Byte) (slot : Nat) :
    replayHeadAnswered (.done data) slot s = { s with replay := { s.replay with headLine := some data } } := if_pos h

theorem replayHeadAnswered_of_fault (h : s.replay.running = true) (slot : Nat) :
    replayHeadAnswered .fault slot s =
      halt .replayFault (logError .replayFault none none (some slot) s) := if_pos h

theorem replayBodyAnswered_of_idle (h : s.replay.running = false) (answer : ReadAnswer) (slot : Nat) :
    replayBodyAnswered answer slot s = s :=
  if_neg (by simp [h])

theorem replayBodyAnswered_of_done (h : s.replay.running = true) (body : List Byte) (slot : Nat) :
    replayBodyAnswered (.done body) slot s = replayBodyRead body s := if_pos h

theorem replayBodyAnswered_of_fault (h : s.replay.running = true) (slot : Nat) :
    replayBodyAnswered .fault slot s =
      halt .replayFault (logError .replayFault none none (some slot) s) := if_pos h

theorem restoreFaulted_of_idle (h : s.replay.running = false) (slot : Nat) (epoch line : Word) :
    restoreFaulted slot epoch line s = s :=
  if_neg (by simp [h])

theorem restoreFaulted_of_running (h : s.replay.running = true) (slot : Nat) (epoch line : Word) :
    restoreFaulted slot epoch line s =
      halt .replayFault (logError .replayFault (some epoch) (some line) (some slot) s) := if_pos h

theorem restoreDone_of_idle (h : s.replay.running = false) : restoreDone s = s := by
  have hnone : s.replay.rollback = none ∧ s.replay.recovery = none := by
    simpa [ReplayEngine.running] using h
  simp [restoreDone, hnone]

end

/-- The body line of a slot, read while a sequence runs (R92). -/
theorem exec_replayReadAnswer_done {s : State} {e : MemoryEntry} {rest : List MemoryEntry} {slot : Nat}
    (hrun : s.Running) (h : s.Awaits e rest) (hsource : e.source = .replayRead slot false)
    (hruns : s.replay.running = true) (body : List Byte) :
    exec (.replayReadAnswer (.done body)) s = .next (updateSpace (replayBodyRead body (s.answered rest))) := by
  rw [exec_replayReadAnswer hrun h hsource, replayBodyAnswered_of_done (by exact hruns)]

theorem ReplayEngine.running_of_rollback {r : ReplayEngine} {q : Rollback} (h : r.rollback = some q) :
    r.running = true := r.running_iff.mpr (.inl (by rw [h]; rfl))

theorem ReplayEngine.running_of_recovery {r : ReplayEngine} {q : Recovery} (h : r.recovery = some q) :
    r.running = true := r.running_iff.mpr (.inr (by rw [h]; rfl))

theorem ReplayEngine.not_running_iff (r : ReplayEngine) :
    r.running = false ↔ ¬(r.rollback.isSome = true ∨ r.recovery.isSome = true) := by
  rw [← Bool.not_eq_true, r.running_iff]

section
variable {s : State} {head : List Byte} (hhead : s.replay.headLine = some head)
include hhead

theorem replayBodyRead_of_walking {r : Rollback} {w : Walk} (hr : s.replay.rollback = some r)
    (hphase : r.phase = .walking w) (body : List Byte) :
    replayBodyRead body s = judgeRollbackSlot r w head body s := by
  simp [replayBodyRead, hhead, hr, hphase]

variable {q : Recovery} (hr : s.replay.rollback = none) (hq : s.replay.recovery = some q)
include hr hq

theorem replayBodyRead_of_scanning {k : Nat} (hphase : q.phase = .scanning k) (body : List Byte) :
    replayBodyRead body s = judgeScanSlot q k head body s := by
  simp [replayBodyRead, hhead, hr, hq, hphase]

theorem replayBodyRead_of_restoring {w : Walk} (hphase : q.phase = .restoring w) (body : List Byte) :
    replayBodyRead body s = judgeRecoverySlot q w head body s := by
  simp [replayBodyRead, hhead, hr, hq, hphase]

end

/-! ### Walks -/

/-- The restore write of a record as the statements list it: that of a LINE record whose epoch is after `closed`. -/
theorem restoreOf_toList {closed : Word} {info : RecordInfo} {body : List Byte} {restore : List ReplayRequest}
    (h : (∃ line, info.kind = .line ∧ info.line = some line ∧ after info.epoch closed = true ∧
        restore = [.restore info.slot info.epoch line body]) ∨
      ((info.kind ≠ .line ∨ after info.epoch closed = false) ∧ restore = [])) :
    restore = (restoreOf closed info body).toList := by
  obtain ⟨line, hkind, hline, hafter, rfl⟩ | ⟨hnot, rfl⟩ := h
  · simp [restoreOf, hkind, hline, hafter]
  · cases hkind : info.kind <;> cases hline : info.line <;> simp_all [restoreOf]

/-- The walk after a record, its restore write counted (R92, R93). -/
theorem Walk.back_eq (w : Walk) (size : Nat) (restore : Option ReplayRequest) :
    w.back size restore.isSome =
      { cursor := (w.cursor + size - 1) % size, sequence := w.sequence - 1#32, left := w.left - 1,
        outstanding := w.outstanding + restore.toList.length } := by
  cases restore <;> rfl

theorem Walk.not_complete_iff (w : Walk) : w.complete = false ↔ w.left ≠ 0 ∨ w.outstanding ≠ 0 := by
  rw [← Bool.not_eq_true, w.complete_iff]
  omega

/-! ### The walk of a rollback -/

/-- The state of a rollback whose walk has gone on (R92, R93). -/
def State.rollbackWalk (s : State) (highest : Word) (next : Walk) (replay : ReplayEngine) : State :=
  { s with replay := { replay with rollback := some { phase := .walking next, highest := highest } } }

section
variable {s : State} {w : Walk} {highest : Word}

/-- A restore write answered DONE in a rollback (R93, R94). -/
theorem restoreDone_of_walking (h : s.replay.rollback = some { phase := .walking w, highest := highest }) :
    restoreDone s =
      let next := { w with outstanding := w.outstanding - 1 }
      if next.complete then queueClose highest (s.rollbackWalk highest next s.replay)
      else s.rollbackWalk highest next s.replay := by
  simp only [restoreDone, h]
  rfl

variable {r : Rollback} {head body : List Byte}

theorem judgeRollbackSlot_of_none (h : verifyRecord s.ring.ringId w.sequence w.cursor head body = none) :
    judgeRollbackSlot r w head body s = halt .replayCheck (logError .replayCheck none none (some w.cursor) s) := by
  rw [judgeRollbackSlot, h]
  rfl

/-- The walk after a record that passes its tests, with its restore writes (R92, R93). -/
def Walk.after (w : Walk) (size : Nat) (restore : List ReplayRequest) : Walk :=
  { cursor := (w.cursor + size - 1) % size, sequence := w.sequence - 1#32, left := w.left - 1,
    outstanding := w.outstanding + restore.length }

/-- The replay engine's requests after a record that passes its tests (R92, R93). -/
def ReplayEngine.walked (r : ReplayEngine) (restore : List ReplayRequest) (next : Walk) : ReplayEngine :=
  { r with
    requests := restore ++ if next.left = 0 then [] else [.readHead next.cursor, .readBody next.cursor]
    headLine := none }

/-- A record of the walk that passes its tests (R92, R93, R94). -/
theorem judgeRollbackSlot_of_some {info : RecordInfo} {restore : List ReplayRequest}
    (h : verifyRecord s.ring.ringId w.sequence w.cursor head body = some info)
    (hrestore : restore = (restoreOf s.epochs.closedThrough info body).toList) :
    judgeRollbackSlot { phase := .walking w, highest := highest } w head body s =
      let next := w.after s.anchor.working.slots.toNat restore
      if next.complete then queueClose highest (s.rollbackWalk highest next (s.replay.walked restore next))
      else s.rollbackWalk highest next (s.replay.walked restore next) := by
  subst hrestore
  rw [judgeRollbackSlot, h, Walk.after, ← Walk.back_eq]
  rfl

end

/-- Settles O43: the head lines, the body lines and the restore writes with no sequence running and with one, and the
walk of a rollback. -/
theorem rollbackWalk : Obligations.RollbackWalk := by
  intro s e rest hrun h a size running
  have hidle : ¬running → a.replay.running = false := s.replay.not_running_iff.mpr
  have hbusy : running → a.replay.running = true := s.replay.running_iff.mpr
  refine ⟨fun slot hsource => ⟨fun hnot answer => ?_, fun hruns => ⟨fun data => ?_, ?_⟩⟩,
    fun slot hsource => ⟨fun hnot answer => ?_, fun hruns => ?_⟩,
    fun slot epoch hsource => ⟨fun hnot answer => ?_, fun hruns => ?_⟩,
    fun w highest hr => ⟨fun slot epoch hsource => ?_, fun slot head body hsource hhead => ?_⟩⟩
  · rw [exec_replayHeadReadAnswer hrun h hsource, replayHeadAnswered_of_idle (hidle hnot)]
  · rw [exec_replayHeadReadAnswer hrun h hsource, replayHeadAnswered_of_done (hbusy hruns)]
    rfl
  · rw [exec_replayHeadReadAnswer hrun h hsource, replayHeadAnswered_of_fault (hbusy hruns)]
  · rw [exec_replayReadAnswer hrun h hsource, replayBodyAnswered_of_idle (hidle hnot)]
  · rw [exec_replayReadAnswer hrun h hsource, replayBodyAnswered_of_fault (hbusy hruns)]
  · rw [exec_restoreWriteAnswer hrun h hsource]
    cases answer with
    | done => exact congrArg (Host.Outcome.next ∘ updateSpace) (restoreDone_of_idle (hidle hnot))
    | fault => exact congrArg (Host.Outcome.next ∘ updateSpace) (restoreFaulted_of_idle (hidle hnot) ..)
  · rw [exec_restoreWriteAnswer hrun h hsource]
    exact congrArg (Host.Outcome.next ∘ updateSpace) (restoreFaulted_of_running (hbusy hruns) ..)
  · intro t
    have hexec := exec_restoreWriteAnswer hrun h hsource .done
    have hcomplete := Walk.complete_iff { w with outstanding := w.outstanding - 1 }
    have hdone := restoreDone_of_walking (s := a) hr
    refine ⟨fun hleft => hexec.trans (congrArg (Host.Outcome.next ∘ updateSpace) (hdone.trans ?_)),
      fun hleft hout => hexec.trans (congrArg (Host.Outcome.next ∘ updateSpace) (hdone.trans ?_))⟩
    · exact if_neg (hcomplete.not.mpr (by dsimp only; omega))
    · exact if_pos (hcomplete.mpr ⟨hleft, Nat.sub_eq_zero_of_le hout⟩)
  · intro verified
    have hexec : exec (.replayReadAnswer (.done body)) s =
        .next (updateSpace (judgeRollbackSlot { phase := .walking w, highest := highest } w head body a)) := by
      rw [exec_replayReadAnswer_done hrun h hsource (ReplayEngine.running_of_rollback hr),
        replayBodyRead_of_walking (s := s.answered rest) hhead hr rfl]
    refine ⟨fun hv => ?_, fun info restore hv hrestore => ?_⟩
    · rw [hexec, judgeRollbackSlot_of_none (by exact hv)]
    · intro next t
      have hjudged := judgeRollbackSlot_of_some (s := a) (highest := highest) hv (restoreOf_toList hrestore)
      rw [hexec]
      refine ⟨fun hmore => congrArg (Host.Outcome.next ∘ updateSpace) (hjudged.trans ?_),
        fun hleft hout => congrArg (Host.Outcome.next ∘ updateSpace) (hjudged.trans ?_)⟩
      · exact if_neg (Bool.not_eq_true _ ▸ next.not_complete_iff.mpr hmore)
      · exact if_pos (next.complete_iff.mpr ⟨hleft, hout⟩)

/-! ### The scan of a recovery -/

section
variable {s : State} {q : Recovery} {k : Nat} {head body : List Byte}

/-- The cutoff of a run whose last marker is `last` (R100). -/
def State.cutoffOf (s : State) (last : Option Word) : Word :=
  match last with
  | some m => later m s.epochs.closedThrough
  | none => s.epochs.closedThrough

/-- The state after a scan that found a run of `run` slots (R34, R99, R100). -/
def State.scanned (s : State) (q : Recovery) (run : Nat) (last : Option Word) (phase : RecoveryPhase)
    (requests : List ReplayRequest) : State :=
  { s with
    ring :=
      { s.ring with
        head := (s.ring.tail + run) % s.anchor.working.slots.toNat
        headSequence := s.ring.tailSequence + BitVec.ofNat 32 run, used := run }
    replay :=
      { s.replay with
        recovery := some
          { q with
            phase := phase, runLength := some run, lastMarker := last, cutoff := some (s.cutoffOf last),
            recoveredThrough := some (s.cutoffOf last) }
        requests := requests
        headLine := none } }

theorem endScan_of_empty (hhead : s.replay.headLine = none) (last : Option Word) :
    endScan { q with lastMarker := last } 0 s =
      requestUpdate (s.scanned q 0 last .anchoring s.replay.requests) := by
  unfold endScan State.scanned
  dsimp only
  rw [if_pos rfl, anchorRecovery, ← hhead]
  rfl

theorem endScan_of_run (hk : k ≠ 0) (last : Option Word) :
    endScan { q with lastMarker := last } k s =
      let size := s.anchor.working.slots.toNat
      let below := ((s.ring.tail + k) % size + size - 1) % size
      s.scanned q k last
        (.restoring
          { cursor := below, sequence := s.ring.tailSequence + BitVec.ofNat 32 k - 1#32, left := k, outstanding := 0 })
        [.readHead below, .readBody below] := by
  unfold endScan
  dsimp only
  rw [if_neg hk]
  rfl

/-- The slot that the scan judges (R99). -/
def State.scanVerified (s : State) (q : Recovery) (k : Nat) (head body : List Byte) : Option RecordInfo :=
  verifyRecord q.ringId (s.ring.tailSequence + BitVec.ofNat 32 k)
    ((s.ring.tail + k) % s.anchor.working.slots.toNat) head body

/-- The last marker after a record of the run (R99). -/
def Recovery.markerAfter (q : Recovery) (info : RecordInfo) : Option Word :=
  if info.kind = .line then q.lastMarker else some info.epoch

theorem judgeScanSlot_of_none (h : s.scanVerified q k head body = none) :
    judgeScanSlot q k head body s =
      endScan { q with lastMarker := q.lastMarker } k { s with replay := { s.replay with headLine := none } } := by
  rw [State.scanVerified] at h
  rw [judgeScanSlot, State.size, h]
  rfl

theorem judgeScanSlot_of_last {info : RecordInfo} (h : s.scanVerified q k head body = some info)
    (hk : k + 1 = s.anchor.working.slots.toNat) :
    judgeScanSlot q k head body s =
      endScan { q with lastMarker := q.markerAfter info } (k + 1)
        { s with replay := { s.replay with headLine := none } } := by
  rw [State.scanVerified] at h
  rw [judgeScanSlot, State.size, h]
  exact if_pos hk

theorem judgeScanSlot_of_more {info : RecordInfo} (h : s.scanVerified q k head body = some info)
    (hk : k + 1 ≠ s.anchor.working.slots.toNat) :
    judgeScanSlot q k head body s =
      let slot := (s.ring.tail + (k + 1)) % s.anchor.working.slots.toNat
      { s with
        replay :=
          { s.replay with
            recovery := some { q with phase := .scanning (k + 1), lastMarker := q.markerAfter info }
            requests := [.readHead slot, .readBody slot]
            headLine := none } } := by
  rw [State.scanVerified] at h
  rw [judgeScanSlot, State.size, h]
  exact if_neg hk

end

/-- Settles O44: a record that extends the run, and the end of the run by a record that fails or by a full ring. -/
theorem recoveryScan : Obligations.RecoveryScan := by
  intro s e rest slot k q head body hrun h hsource hr hq hphase hhead a size row verified marker
  have hrow : row = .next (updateSpace (judgeScanSlot q k head body a)) := by
    rw [← replayBodyRead_of_scanning (s := a) hhead hr hq hphase]
    exact exec_replayReadAnswer_done hrun h hsource (ReplayEngine.running_of_recovery hq) body
  have hstate (t : State) (ht : judgeScanSlot q k head body a = t) : row = .next (updateSpace t) := by rw [hrow, ht]
  refine ⟨fun info hv hk => hstate _ (judgeScanSlot_of_more (s := a) hv hk), fun run last hends => ?_⟩
  intro cutoff top below sequence ended
  have hend : judgeScanSlot q k head body a =
      endScan { q with lastMarker := last } run { a with replay := { a.replay with headLine := none } } := by
    obtain ⟨hv, rfl, rfl⟩ | ⟨info, hv, hk, rfl, rfl⟩ := hends
    · exact judgeScanSlot_of_none (s := a) hv
    · exact judgeScanSlot_of_last (s := a) hv hk
  refine ⟨fun hne => hstate _ (hend.trans (endScan_of_run hne last)), fun hzero => hstate _ (hend.trans ?_)⟩
  subst hzero
  exact endScan_of_empty rfl last

/-! ### The walk of a recovery -/

/-- The recovery whose walk has gone on (R101). -/
def Recovery.walking (q : Recovery) (next : Walk) (highest : Option Word) : Recovery :=
  { q with phase := .restoring next, highest := highest }

/-- The state of a recovery whose walk has gone on, or ended (R101). -/
def State.recoveryWalk (s : State) (q : Recovery) (next : Walk) (highest : Option Word) (replay : ReplayEngine) : State :=
  let t := { s with replay := { replay with recovery := some (q.walking next highest) } }
  if next.complete then finishRestoring (q.walking next highest) t else t

section
variable {s : State} {q : Recovery}

theorem finishRestoring_of_none (h : q.highest = none) {through : Word} (hthrough : q.recoveredThrough = some through) :
    finishRestoring q s =
      requestUpdate { s with replay := { s.replay with recovery := some { q with phase := .anchoring } } } := by
  obtain ⟨phase, ringId, run, last, cutoff, highest, through'⟩ := q
  dsimp only at h hthrough
  subst h hthrough
  rfl

theorem finishRestoring_of_room {n : Word} (h : q.highest = some n) (hfree : 1 ≤ s.free) :
    finishRestoring q s =
      { assignMarker .close n s with
        replay := { s.replay with recovery := some { q with phase := .closing } } } := by
  rw [finishRestoring, h]
  exact requestMarker_of_room hfree _ _ _

theorem finishRestoring_of_full {n : Word} (h : q.highest = some n) (hfree : s.free = 0) :
    finishRestoring q s =
      halt .ringExhausted (logError .ringExhausted (some n) none (some s.ring.head) s) := by
  rw [finishRestoring, h]
  exact requestMarker_of_full hfree _ _ _

variable {w : Walk} {head body : List Byte}

/-- A restore write answered DONE in a recovery (R101). -/
theorem restoreDone_of_restoring (hr : s.replay.rollback = none) (hq : s.replay.recovery = some q)
    (hphase : q.phase = .restoring w) :
    restoreDone s = s.recoveryWalk q { w with outstanding := w.outstanding - 1 } q.highest s.replay := by
  simp only [restoreDone, State.recoveryWalk, Recovery.walking, State.setReplay, hr, hq, hphase]

theorem judgeRecoverySlot_of_none (h : verifyRecord q.ringId w.sequence w.cursor head body = none) :
    judgeRecoverySlot q w head body s = halt .replayCheck (logError .replayCheck none none (some w.cursor) s) := by
  rw [judgeRecoverySlot, h]
  rfl

/-- The highest rolled-back epoch after a record of the walk (R101). -/
def Recovery.highestAfter (q : Recovery) (info : RecordInfo) (restore : List ReplayRequest) : Option Word :=
  if restore = [] then q.highest
  else some (match q.highest with | none => info.epoch | some h => later info.epoch h)

theorem Recovery.highestAfter_toList (q : Recovery) (info : RecordInfo) (restore : Option ReplayRequest) :
    q.highestAfter info restore.toList = if restore.isSome then raiseHighest q.highest info.epoch else q.highest := by
  cases restore with
  | none => rfl
  | some r =>
    cases hh : q.highest with
    | none => simp [Recovery.highestAfter, raiseHighest, hh]
    | some n =>
      simp only [Recovery.highestAfter, raiseHighest, hh, later_eq, Option.toList_some, List.cons_ne_nil, if_false,
        Option.isSome_some, if_true]
      split <;> rfl

/-- A record of the walk that passes its tests (R93, R101). -/
theorem judgeRecoverySlot_of_some {cutoff : Word} {info : RecordInfo} {restore : List ReplayRequest}
    (hcutoff : q.cutoff = some cutoff) (h : verifyRecord q.ringId w.sequence w.cursor head body = some info)
    (hrestore : restore = (restoreOf cutoff info body).toList) :
    judgeRecoverySlot q w head body s =
      let next := w.after s.anchor.working.slots.toNat restore
      s.recoveryWalk q next (q.highestAfter info restore) (s.replay.walked restore next) := by
  subst hrestore
  have hrestore : restoreOf (q.cutoff.getD s.epochs.closedThrough) info body = restoreOf cutoff info body := by
    rw [hcutoff, Option.getD_some]
  rw [judgeRecoverySlot, h, Walk.after, ← Walk.back_eq, Recovery.highestAfter_toList, ← hrestore]
  rfl

end

/-- Settles O45: the restore writes and the records of the walk, each going on, or ending with nothing restored, with a
slot for the CLOSE record, or with none. -/
theorem recoveryWalk : Obligations.RecoveryWalk := by
  intro s e rest q w cutoff through hrun h hr hq hphase hcutoff hthrough a size walked goesOn
  have hgoes (row : Host.Outcome State Fault Refusal) (next : Walk) (highest : Option Word) (replay : ReplayEngine)
      (hrow : row = .next (updateSpace (a.recoveryWalk q next highest replay))) :
      goesOn row next highest (walked next highest replay) := by
    subst hrow
    refine ⟨fun hmore => ?_, fun hleft hout => ?_⟩
    · rw [State.recoveryWalk, if_neg (Bool.not_eq_true _ ▸ next.not_complete_iff.mpr hmore)]
      rfl
    · rw [State.recoveryWalk, if_pos (next.complete_iff.mpr ⟨hleft, hout⟩)]
      refine ⟨fun hnone => ?_, fun n hn hfree => ?_, fun n hn hfree => ?_⟩
      · subst hnone
        rw [finishRestoring_of_none (by rfl) (by exact hthrough)]
        rfl
      · subst hn
        rw [finishRestoring_of_room (by rfl) (by exact hfree), assignMarker_eq]
        rfl
      · subst hn
        rw [finishRestoring_of_full (by rfl) (by exact hfree)]
        rfl
  refine ⟨fun slot epoch hsource => ?_, fun slot head body hsource hhead => ?_⟩
  · refine hgoes _ _ _ _ ?_
    exact (exec_restoreWriteAnswer hrun h hsource .done).trans
      (congrArg (Host.Outcome.next ∘ updateSpace) (restoreDone_of_restoring (s := a) hr hq hphase))
  · intro row verified
    have hrow : row = .next (updateSpace (judgeRecoverySlot q w head body a)) := by
      rw [← replayBodyRead_of_restoring (s := a) hhead hr hq hphase]
      exact exec_replayReadAnswer_done hrun h hsource (ReplayEngine.running_of_recovery hq) body
    refine ⟨fun hv => ?_, fun info restore highest hv hrestore => ?_⟩
    · rw [hrow, judgeRecoverySlot_of_none hv]
    · intro next
      have hlist : restore = (restoreOf cutoff info body).toList := by
        refine restoreOf_toList ?_
        obtain ⟨line, hkind, hline, hafter, hrestore, -⟩ | ⟨hnot, hrestore, -⟩ := hrestore
        · exact .inl ⟨line, hkind, hline, hafter, hrestore⟩
        · exact .inr ⟨hnot, hrestore⟩
      have hhighest : highest = q.highestAfter info restore := by
        obtain ⟨line, -, -, -, rfl, rfl⟩ | ⟨-, rfl, rfl⟩ := hrestore <;> rfl
      refine hgoes _ _ _ _ ?_
      rw [hrow, judgeRecoverySlot_of_some hcutoff hv hlist, ← hhighest]
      rfl

end Sys2Proof.Machine

/-! The configuration items (R175): the settlement of O10. -/

namespace Sys2Proof.Machine

-- One theorem at a time: the proofs below would otherwise wait for one another in many threads.
set_option Elab.async false

/-! ### The items of a configuration, by their offset -/

theorem Configuration.item_base (c : Configuration) (i : Fin 8) : c.item (7 + 2 * i.val) = some c.windows[i].itemBase := by
  fin_cases i <;> rfl

theorem Configuration.item_count (c : Configuration) (i : Fin 8) :
    c.item (8 + 2 * i.val) = some c.windows[i].itemCount := by
  fin_cases i <;> rfl

theorem Configuration.writeItem_base (c : Configuration) (i : Fin 8) (v : Word) :
    c.writeItem (7 + 2 * i.val) v = c.writeBaseOf i v := by
  fin_cases i <;> rfl

theorem Configuration.writeItem_count (c : Configuration) (i : Fin 8) (v : Word) :
    c.writeItem (8 + 2 * i.val) v = c.writeCountOf i v := by
  fin_cases i <;> rfl

theorem Configuration.item_of_le {c : Configuration} {p : Nat} (h : 23 ≤ p) : c.item p = none := by
  match p, h with
  | p + 23, _ => rfl

theorem Configuration.writeItem_of_le {c : Configuration} {p : Nat} (h : 23 ≤ p) (v : Word) : c.writeItem p v = c := by
  match p, h with
  | p + 23, _ => rfl

/-- An offset is one of the seven fields, a window's first word, its second, or past the items (R175). -/
theorem itemOffset_cases (o : Nat) :
    o < 7 ∨ (∃ i : Fin 8, o = 7 + 2 * i.val) ∨ (∃ i : Fin 8, o = 8 + 2 * i.val) ∨ 23 ≤ o := by
  by_cases hlow : o < 7
  · exact .inl hlow
  · by_cases hhigh : 23 ≤ o
    · exact .inr (.inr (.inr hhigh))
    · obtain hodd | heven : (o - 7) % 2 = 0 ∨ (o - 7) % 2 = 1 := by omega
      · exact .inr (.inl ⟨⟨(o - 7) / 2, by omega⟩, by dsimp only; omega⟩)
      · exact .inr (.inr (.inl ⟨⟨(o - 7) / 2, by omega⟩, by dsimp only; omega⟩))

theorem Configuration.item_isSome_iff (c : Configuration) (o : Nat) : (c.item o).isSome = true ↔ o < 23 := by
  obtain hlow | ⟨i, rfl⟩ | ⟨i, rfl⟩ | hhigh := itemOffset_cases o
  · interval_cases o <;> exact ⟨fun _ => by omega, fun _ => rfl⟩
  · simp only [c.item_base i, Option.isSome_some, true_iff]
    omega
  · simp only [c.item_count i, Option.isSome_some, true_iff]
    omega
  · simp only [Configuration.item_of_le hhigh, Option.isSome_none, Bool.false_eq_true, false_iff]
    omega

/-! ### The fields within a word -/

/-- The bits of a word that the packed item of offset 2 keeps (R175). -/
theorem modesItem_packed (v : Word) :
    (v.extractLsb' 0 2).setWidth 32 ||| (v.extractLsb' 8 2).setWidth 32 <<< 8 |||
      (v.extractLsb' 16 2).setWidth 32 <<< 16 = v &&& 0x00030303#32 := by
  refine BitVec.eq_of_getLsbD_eq fun i hi => ?_
  interval_cases i <;> simp

theorem autoItem_packed (v : Word) :
    (v.extractLsb' 0 16).setWidth 32 ||| (v.extractLsb' 16 16).setWidth 32 <<< 16 = v := by
  refine BitVec.eq_of_getLsbD_eq fun i hi => ?_
  interval_cases i <;> simp

theorem waitLimit_packed (v : Word) : (v.extractLsb' 0 8).setWidth 32 = v &&& 0xFF#32 := by
  refine BitVec.eq_of_getLsbD_eq fun i hi => ?_
  interval_cases i <;> simp

theorem Window.itemBase_writeBase (w : Window) (v : Word) : (w.writeBase v).itemBase = v &&& 0x830FFFFF#32 := by
  have henable : (if v.getLsbD 31 then 0x80000000#32 else 0#32) = v &&& 0x80000000#32 :=
    (BitVec.and_twoPow v 31).symm
  rw [Window.itemBase, Window.writeBase, henable]
  refine BitVec.eq_of_getLsbD_eq fun i hi => ?_
  interval_cases i <;> simp

theorem Window.itemCount_writeCount (w : Window) (v : Word) : (w.writeCount v).itemCount = v &&& 0x000FFFFF#32 := by
  refine BitVec.eq_of_getLsbD_eq fun i hi => ?_
  interval_cases i <;> simp [Window.itemCount, Window.writeCount]

/-! ### A write leaves the other items alone -/

/-- Below the windows an item does not read them. -/
theorem Configuration.item_setWindow_of_lt (c : Configuration) (i : Fin 8) (w : Window) {p : Nat} (h : p < 7) :
    (c.setWindow i w).item p = c.item p := by
  interval_cases p <;> rfl

theorem Configuration.setWindow_windows_self (c : Configuration) (i : Fin 8) (w : Window) :
    (c.setWindow i w).windows[i] = w :=
  Vector.getElem_set_self i.isLt

theorem Configuration.setWindow_windows_of_ne (c : Configuration) {i j : Fin 8} (h : i ≠ j) (w : Window) :
    (c.setWindow i w).windows[j] = c.windows[j] :=
  Vector.getElem_set_ne i.isLt j.isLt (fun hval => h (Fin.ext hval))

/-- A window write changes only the words of its own window that `w` changes. -/
theorem Configuration.item_setWindow {c : Configuration} {i : Fin 8} {w : Window} {p : Nat}
    (hbase : p = 7 + 2 * i.val → w.itemBase = c.windows[i].itemBase)
    (hcount : p = 8 + 2 * i.val → w.itemCount = c.windows[i].itemCount) : (c.setWindow i w).item p = c.item p := by
  obtain hlow | ⟨j, rfl⟩ | ⟨j, rfl⟩ | hhigh := itemOffset_cases p
  · exact c.item_setWindow_of_lt i w hlow
  · rw [Configuration.item_base, Configuration.item_base]
    by_cases hij : i = j
    · subst hij
      rw [c.setWindow_windows_self, hbase rfl]
    · rw [c.setWindow_windows_of_ne hij]
  · rw [Configuration.item_count, Configuration.item_count]
    by_cases hij : i = j
    · subst hij
      rw [c.setWindow_windows_self, hcount rfl]
    · rw [c.setWindow_windows_of_ne hij]
  · rw [Configuration.item_of_le hhigh, Configuration.item_of_le hhigh]

/-- Below the windows a write leaves them alone. -/
theorem Configuration.windows_writeItem_of_lt (c : Configuration) {o : Nat} (h : o < 7) (v : Word) :
    (c.writeItem o v).windows = c.windows := by
  interval_cases o <;> rfl

theorem Configuration.item_writeItem_of_lt (c : Configuration) {o p : Nat} (hne : o ≠ p) (ho : o < 7) (hp : p < 7)
    (v : Word) : (c.writeItem o v).item p = c.item p := by
  interval_cases o <;> interval_cases p <;> trivial

theorem Configuration.item_writeItem_of_ne (c : Configuration) {o p : Nat} (h : o ≠ p) (v : Word) :
    (c.writeItem o v).item p = c.item p := by
  obtain hlow | ⟨i, rfl⟩ | ⟨i, rfl⟩ | hhigh := itemOffset_cases o
  · have hwindows := c.windows_writeItem_of_lt hlow v
    obtain hp | ⟨j, rfl⟩ | ⟨j, rfl⟩ | hp := itemOffset_cases p
    · exact c.item_writeItem_of_lt h hlow hp v
    · rw [Configuration.item_base, Configuration.item_base, hwindows]
    · rw [Configuration.item_count, Configuration.item_count, hwindows]
    · rw [Configuration.item_of_le hp, Configuration.item_of_le hp]
  · rw [c.writeItem_base]
    exact Configuration.item_setWindow (fun hp => absurd hp.symm h) fun _ => rfl
  · rw [c.writeItem_count]
    exact Configuration.item_setWindow (fun _ => rfl) fun hp => absurd hp.symm h
  · rw [Configuration.writeItem_of_le hhigh]

/-- Settles O10: what each item reads, what it reads back, and the items that a write leaves alone. -/
theorem configurationItems : Obligations.ConfigurationItems := by
  intro c v
  refine ⟨⟨rfl, rfl, rfl, rfl, rfl, rfl, rfl, fun n => ⟨c.item_base n, c.item_count n⟩⟩, rfl, rfl,
    congrArg some (modesItem_packed v), congrArg some (waitLimit_packed v), rfl, congrArg some (autoItem_packed v), rfl,
    fun n hn => ⟨?_, ?_⟩, fun o p h => c.item_writeItem_of_ne h v, fun p hp => Configuration.item_of_le hp⟩
  · rw [c.writeItem_base ⟨n, hn⟩, Configuration.item_base _ ⟨n, hn⟩, Configuration.writeBaseOf,
      c.setWindow_windows_self, Window.itemBase_writeBase]
  · rw [c.writeItem_count ⟨n, hn⟩, Configuration.item_count _ ⟨n, hn⟩, Configuration.writeCountOf,
      c.setWindow_windows_self, Window.itemCount_writeCount]

end Sys2Proof.Machine

/-! The items of the management port and its reads, writes and probes (R19, R71, R160 to R175): the settlements of O46,
O47 and O49. -/

namespace Sys2Proof.Machine

-- One theorem at a time: the proofs below would otherwise wait for one another in many threads.
set_option Elab.async false

/-! ### The item map -/

theorem readItem_of_counter (s : State) (c : Fin 13) : s.readItem (0x0020 + c.val) = some s.management.counters[c] := by
  fin_cases c <;> rfl

theorem readItem_of_pending (s : State) {o : Nat} (h : o < 23) :
    s.readItem (0x0100 + o) = s.management.pending.item o := by
  interval_cases o <;> rfl

theorem readItem_of_working (s : State) {o : Nat} (h : o < 23) : s.readItem (0x0200 + o) = s.anchor.working.item o := by
  interval_cases o <;> rfl

theorem inItemMap_iff (n : Nat) :
    inItemMap n = true ↔
      n ≤ 0x0011 ∨ (0x0018 ≤ n ∧ n ≤ 0x001A) ∨ (0x0020 ≤ n ∧ n ≤ 0x002C) ∨ (0x0100 ≤ n ∧ n ≤ 0x0116) ∨
        (0x0200 ≤ n ∧ n ≤ 0x0216) :=
  decide_eq_true_iff

/-- An item is read exactly where the item map has one (R163, R175). -/
theorem readItem_isSome_iff (s : State) (n : Nat) : (s.readItem n).isSome = true ↔ inItemMap n = true := by
  rw [inItemMap_iff]
  by_cases hcounter : 0x0020 ≤ n ∧ n ≤ 0x002C
  · obtain ⟨c, rfl⟩ : ∃ c : Fin 13, n = 0x0020 + c.val := ⟨⟨n - 0x0020, by omega⟩, by dsimp only; omega⟩
    simp [readItem_of_counter, hcounter]
  · unfold State.readItem
    split <;> try (simp only [Option.isSome_some, true_iff]; omega)
    rw [dif_neg hcounter]
    split_ifs with hpending hworking
    · rw [Configuration.item_isSome_iff]
      omega
    · rw [Configuration.item_isSome_iff]
      omega
    · simp only [imp_false, Option.isSome_none, Bool.false_eq_true, false_iff] at *
      omega

theorem mem_itemRange {item : BitVec 16} {count a : Nat} :
    a ∈ itemRange item count ↔ ∃ k, k < count ∧ item.toNat + k = a := by
  simp [itemRange]

theorem itemRange_length (item : BitVec 16) (count : Nat) : (itemRange item count).length = count := by
  simp [itemRange]

theorem itemRange_getElem? {item : BitVec 16} {count k : Nat} (h : k < count) :
    (itemRange item count)[k]? = some (item.toNat + k) := by
  simp [itemRange, h]

/-! ### READ -/

theorem readItems_eq_none {s : State} {addresses : List Nat} (h : ∃ a ∈ addresses, s.readItem a = none) :
    s.readItems addresses = none := by
  induction addresses with
  | nil => simp at h
  | cons b rest ih =>
    obtain ⟨a, ha, hnone⟩ := h
    obtain rfl | ha := List.mem_cons.mp ha
    · simp [State.readItems, hnone]
    · simp [State.readItems, ih ⟨a, ha, hnone⟩]

/-- A range within the item map is read word by word (R163). -/
theorem readItems_eq_some {s : State} {addresses : List Nat} (h : ∀ a ∈ addresses, (s.readItem a).isSome = true) :
    ∃ words : List Word, s.readItems addresses = some words ∧ words.length = addresses.length ∧
      ∀ k a : Nat, addresses[k]? = some a → words[k]? = s.readItem a := by
  induction addresses with
  | nil => exact ⟨[], rfl, rfl, by simp⟩
  | cons b rest ih =>
    obtain ⟨w, hw⟩ := Option.isSome_iff_exists.mp (h b List.mem_cons_self)
    obtain ⟨words, hwords, hlength, hget⟩ := ih fun a ha => h a (List.mem_cons_of_mem _ ha)
    refine ⟨w :: words, by simp [State.readItems, hw, hwords], by simp [hlength], fun k a hk => ?_⟩
    cases k with
    | zero =>
      obtain rfl : b = a := by simpa using hk
      simp [hw]
    | succ k => exact hget k a (by simpa using hk)

theorem zeroCovered_getElem_self (addresses : List Nat) (v : Vector Word 13) (c : Fin 13) :
    (zeroCovered addresses v c)[c] = if 0x0020 + c.val ∈ addresses then 0#32 else v[c] := by
  unfold zeroCovered
  by_cases h : 0x0020 + c.val ∈ addresses
  · rw [if_pos (List.contains_iff_mem.mpr h), if_pos h]
    exact Vector.getElem_set_self c.isLt
  · rw [if_neg (mt List.contains_iff_mem.mp h), if_neg h]

theorem zeroCovered_getElem_of_ne (addresses : List Nat) (v : Vector Word 13) {k c : Fin 13} (h : k ≠ c) :
    (zeroCovered addresses v k)[c] = v[c] := by
  unfold zeroCovered
  split
  · exact Vector.getElem_set_ne _ _ fun hval => h (Fin.ext hval)
  · rfl

/-- Zeroing the counters of a list, one after another (R170). -/
theorem foldl_zeroCovered_getElem (addresses : List Nat) (l : List (Fin 13)) (v : Vector Word 13) (c : Fin 13) :
    (l.foldl (zeroCovered addresses) v)[c] =
      if c ∈ l ∧ 0x0020 + c.val ∈ addresses then 0#32 else v[c] := by
  induction l generalizing v with
  | nil => simp
  | cons k l ih =>
    rw [List.foldl_cons, ih]
    by_cases hk : k = c
    · subst hk
      rw [zeroCovered_getElem_self]
      by_cases ha : 0x0020 + k.val ∈ addresses <;> simp [ha]
    · rw [zeroCovered_getElem_of_ne addresses v hk]
      simp [Ne.symm hk]

theorem mem_counterOrder (c : Fin 13) : c ∈ counterOrder := by
  revert c
  decide

/-- The counters after a READ: those it covers are zero with the clear-on-read flag set (R170). -/
theorem clearCovered_counters (addresses : List Nat) (s : State) (c : Fin 13) :
    (clearCovered addresses s).management.counters[c] =
      if s.management.clearOnRead = true ∧ 0x0020 + c.val ∈ addresses then 0#32 else s.management.counters[c] := by
  unfold clearCovered
  by_cases hclear : s.management.clearOnRead = true
  · rw [if_pos hclear]
    refine (foldl_zeroCovered_getElem addresses counterOrder s.management.counters c).trans ?_
    simp only [mem_counterOrder, hclear]
  · rw [if_neg hclear, if_neg fun h => hclear h.1]

theorem clearCovered_eq (addresses : List Nat) (s : State) :
    clearCovered addresses s =
      { s with
        management := { s.management with counters := (clearCovered addresses s).management.counters } } := by
  unfold clearCovered
  split <;> rfl

/-- A READ outside its limits, or of an address outside the item map, does nothing (R163). -/
theorem readRange_of_refused {s : State} {item : BitVec 16} {count : Byte}
    (h : count.toNat = 0 ∨ 32 < count.toNat ∨ ∃ k, k < count.toNat ∧ inItemMap (item.toNat + k) = false) :
    readRange item count s = respond .badItem [] s := by
  unfold readRange
  dsimp only
  split
  · next hcount =>
    obtain hzero | hmany | ⟨k, hk, hout⟩ := h
    · omega
    · omega
    · have hnone : s.readItem (item.toNat + k) = none := by
        rw [← Option.not_isSome_iff_eq_none, readItem_isSome_iff, hout]
        exact Bool.false_ne_true
      rw [readItems_eq_none ⟨_, mem_itemRange.mpr ⟨k, hk, rfl⟩, hnone⟩]
  · rfl

theorem readRange_of_taken {s : State} {item : BitVec 16} {count : Byte} (hmin : 1 ≤ count.toNat)
    (hmax : count.toNat ≤ 32) (h : ∀ k, k < count.toNat → inItemMap (item.toNat + k) = true) :
    ∃ words : List Word, words.length = count.toNat ∧
      (∀ k, k < count.toNat → words[k]? = s.readItem (item.toNat + k)) ∧
      readRange item count s = respond .ok words (clearCovered (itemRange item count.toNat) s) := by
  obtain ⟨words, hwords, hlength, hget⟩ := readItems_eq_some (s := s) (addresses := itemRange item count.toNat)
    fun a ha => by
      obtain ⟨k, hk, rfl⟩ := mem_itemRange.mp ha
      exact (readItem_isSome_iff s _).mpr (h k hk)
  refine ⟨words, hlength.trans (itemRange_length ..), fun k hk => hget k _ (itemRange_getElem? hk), ?_⟩
  unfold readRange
  dsimp only
  rw [if_pos ⟨hmin, hmax⟩, hwords]

section
variable {s : State} (h : s.TakesFrames)
include h

theorem exec_read {row : BitVec 16 → Byte → Instr} (hrow : row = .read ∨ row = .counterSnapshot) (item : BitVec 16)
    (count : Byte) : exec (row item count) s = .next (readRange item count s) := by
  obtain rfl | rfl := hrow <;> exact onFrame_of_takesFrames h _

end

/-! ### The epoch items -/

theorem openItem_of_none {s : State} (h : s.replay.rollback = none) : s.openItem = s.epochs.table.opened := by
  simp [State.openItem, h]

theorem openItem_of_rollback {s : State} {r : Rollback} (h : s.replay.rollback = some r) :
    s.openItem = s.epochs.table.find r.highest := by
  simp [State.openItem, h]

section
variable {s : State} {x y : LiveEpoch}

theorem otherItem_of_first (ht : s.epochs.table.epochs = [x, y]) (hne : x.number ≠ y.number)
    (ho : s.openItem = some x) : s.otherItem = some y := by
  simp [State.otherItem, ht, ho, hne]

theorem otherItem_of_second (ht : s.epochs.table.epochs = [x, y]) (hne : x.number ≠ y.number)
    (ho : s.openItem = some y) : s.otherItem = some x := by
  simp [State.otherItem, ht, ho, hne.symm]

theorem otherItem_of_only (ht : s.epochs.table.epochs = [x]) (ho : s.openItem = some x) : s.otherItem = none := by
  simp [State.otherItem, ht, ho]

theorem otherItem_of_unreported (ht : s.epochs.table.epochs = [x]) (ho : s.openItem = none) :
    s.otherItem = some x := by
  simp [State.otherItem, ht, ho]

theorem otherItem_of_nil (ht : s.epochs.table.epochs = []) : s.otherItem = none := by simp [State.otherItem, ht]

end

theorem EpochTable.state_of_opened {t : EpochTable} {o : LiveEpoch} (h : t.opened = some o) : o.state = .opened :=
  beq_iff_eq.mp (List.find?_some (p := fun e : LiveEpoch => e.state == .opened) h)

theorem descriptor_of_opened {o : LiveEpoch} (h : o.state = .opened) :
    descriptor (some o) = if o.damaged then 0x80000100#32 else 0x80000000#32 := by
  rw [descriptor, h]
  cases o.damaged <;> rfl

/-! ### The items of the item map -/

theorem flagAt_zero (b : Bool) : flagAt b 0 = if b then 1#32 else 0#32 := rfl

theorem logItem_eq {n : Nat} (h : n ≤ 8) (b : Bool) :
    BitVec.ofNat 32 n ||| flagAt b 8 = BitVec.ofNat 32 (n + if b then 256 else 0) := by
  revert n
  cases b <;> decide

theorem ringItem_of_journal {s : State} (hmin : 16 ≤ s.anchor.working.slots.toNat)
    (hmax : s.anchor.working.slots.toNat ≤ 1048576) (n : Nat) : s.ringItem n = BitVec.ofNat 32 n :=
  if_pos ((Configuration.hasJournal_iff _).mpr ⟨hmin, hmax⟩)

theorem ringItem_of_none {s : State}
    (h : ¬(16 ≤ s.anchor.working.slots.toNat ∧ s.anchor.working.slots.toNat ≤ 1048576)) (n : Nat) :
    s.ringItem n = 0#32 :=
  if_neg (mt (Configuration.hasJournal_iff _).mp h)

/-- Settles O46: the READ by its range, and the items one by one. -/
theorem itemReads : Obligations.ItemReads := by
  intro s known responded
  have hknown (n : Nat) : inItemMap n = true ↔ known n := inItemMap_iff n
  refine ⟨fun n => (readItem_isSome_iff s n).trans (hknown n), fun hframes item count row hrow => ⟨fun hbad => ?_,
    fun hmin hmax hall => ?_⟩, ?_, ?_, rfl, fun hr => ⟨fun o ho => ?_, fun ho => ?_⟩, ?_, rfl,
    fun hmin hmax => ?_, fun hnone => ?_, rfl, rfl, rfl, ?_, rfl, fun hlog => congrArg some (logItem_eq hlog _), rfl, rfl,
    rfl, readItem_of_counter s, ⟨rfl, rfl, rfl, rfl, rfl, rfl, rfl, rfl, rfl, rfl, rfl, rfl, rfl⟩,
    fun o ho => ⟨readItem_of_pending s ho, readItem_of_working s ho⟩⟩
  · rw [exec_read hframes hrow, readRange_of_refused]
    · rfl
    · refine hbad.imp_right (Or.imp_right fun ⟨k, hk, hout⟩ => ⟨k, hk, ?_⟩)
      exact Bool.not_eq_true _ ▸ mt (hknown _).mp hout
  · obtain ⟨words, hlength, hget, hread⟩ := readRange_of_taken (s := s) hmin hmax fun k hk => (hknown _).mpr (hall k hk)
    refine ⟨words, (clearCovered (itemRange item count.toNat) s).management.counters, hlength, hget, fun c => ?_, ?_⟩
    · rw [clearCovered_counters]
      refine if_congr (and_congr_right fun _ => mem_itemRange.trans ?_) rfl rfl
      exact ⟨fun ⟨k, hk, heq⟩ => by omega, fun ⟨hlow, hhigh⟩ => ⟨0x0020 + c.val - item.toNat, by omega, by omega⟩⟩
    · rw [exec_read hframes hrow, hread, clearCovered_eq]
      rfl
  · intro m modes hm
    have hcode : ∀ m : Fin 7, modes[m].code = BitVec.ofNat 32 m.val := by decide
    exact congrArg some (hm ▸ hcode m)
  · intro m causes hm
    have hcode : ∀ m : Fin 7, causes[m].code = BitVec.ofNat 32 m.val := by decide
    exact congrArg some (hm ▸ hcode m)
  · have hopen := (openItem_of_none hr).trans ho
    exact ⟨congrArg some ((congrArg descriptor hopen).trans (descriptor_of_opened (EpochTable.state_of_opened ho))),
      congrArg (fun e => some (numberItem e)) hopen⟩
  · have hopen := (openItem_of_none hr).trans ho
    exact ⟨congrArg (fun e => some (descriptor e)) hopen, congrArg (fun e => some (numberItem e)) hopen⟩
  · intro descriptors reads reported
    have hdescriptor (e : LiveEpoch) : descriptor (some e) = descriptors e := by
      dsimp only [descriptors, descriptor]
      cases e.state <;> cases e.damaged <;> rfl
    have hopened (x : Option LiveEpoch) (hx : reported x) : s.openItem = x := by
      obtain ⟨hr, rfl⟩ | ⟨q, hr, rfl⟩ := hx
      · exact openItem_of_none hr
      · exact openItem_of_rollback hr
    have hfirst (x : Option LiveEpoch) (hx : s.openItem = x) : reads 0x0003 x := by
      subst hx
      cases ho : s.openItem with
      | none => exact ⟨congrArg (fun e => some (descriptor e)) ho, congrArg (fun e => some (numberItem e)) ho⟩
      | some e =>
        exact ⟨congrArg some ((congrArg descriptor ho).trans (hdescriptor e)), congrArg (fun e => some (numberItem e)) ho⟩
    have hother (x : Option LiveEpoch) (hx : s.otherItem = x) : reads 0x0005 x := by
      subst hx
      cases ho : s.otherItem with
      | none => exact ⟨congrArg (fun e => some (descriptor e)) ho, congrArg (fun e => some (numberItem e)) ho⟩
      | some e =>
        exact ⟨congrArg some ((congrArg descriptor ho).trans (hdescriptor e)), congrArg (fun e => some (numberItem e)) ho⟩
    exact ⟨fun x hx => hfirst x (hopened x hx),
      fun x y ht hne => ⟨fun hx => hother _ (otherItem_of_first ht hne (hopened _ hx)),
        fun hy => hother _ (otherItem_of_second ht hne (hopened _ hy))⟩,
      fun x ht => ⟨fun hx => hother _ (otherItem_of_only ht (hopened _ hx)),
        fun hx => hother _ (otherItem_of_unreported ht (hopened _ hx))⟩,
      fun ht => hother _ (otherItem_of_nil ht)⟩
  · exact ⟨congrArg some (ringItem_of_journal hmin hmax _), congrArg some (ringItem_of_journal hmin hmax _),
      congrArg some (ringItem_of_journal hmin hmax _), congrArg some (ringItem_of_journal hmin hmax _)⟩
  · exact ⟨congrArg some (ringItem_of_none hnone _), congrArg some (ringItem_of_none hnone _),
      congrArg some (ringItem_of_none hnone _), congrArg some (ringItem_of_none hnone _)⟩
  · refine congrArg some ?_
    cases s.anchor.current with
    | none => rfl
    | some c => cases c <;> rfl

/-! ### WRITE -/

theorem lockedItem_iff (n : Nat) :
    lockedItem n = true ↔ n ≤ 0x0011 ∨ (0x0020 ≤ n ∧ n ≤ 0x002C) ∨ (0x0200 ≤ n ∧ n ≤ 0x0216) := decide_eq_true_iff

theorem pendingItem_iff (n : Nat) : pendingItem n = true ↔ 0x0100 ≤ n ∧ n ≤ 0x0116 := decide_eq_true_iff

section
variable {s : State} {addresses : List Nat}

theorem judgeWrite_of_badItem
    (h : addresses.length = 0 ∨ 32 < addresses.length ∨ ∃ a ∈ addresses, ¬inItemMap a = true) :
    s.judgeWrite addresses = .badItem := by
  unfold State.judgeWrite
  split
  · rfl
  · next hcount =>
    have hout : (!addresses.all inItemMap) = true := by
      obtain hzero | hmany | hout := h
      · exact absurd (.inl hzero) hcount
      · exact absurd (.inr hmany) hcount
      · simpa using hout
    rw [if_pos hout]

variable (hmin : 1 ≤ addresses.length) (hmax : addresses.length ≤ 32)
  (hmap : ¬∃ a ∈ addresses, ¬inItemMap a = true)
include hmin hmax hmap

/-- Within the item map the read-only items and the STORE in flight decide (R164). -/
theorem judgeWrite_of_inMap :
    s.judgeWrite addresses =
      if addresses.any lockedItem then .locked
      else if addresses.any pendingItem && s.storeInFlight then .busy
      else .ok := by
  have hin : (!addresses.all inItemMap) = false := by simpa using hmap
  rw [State.judgeWrite, if_neg (by omega), if_neg (by simp [hin])]

theorem judgeWrite_of_locked (h : ∃ a ∈ addresses, lockedItem a = true) : s.judgeWrite addresses = .locked := by
  rw [judgeWrite_of_inMap hmin hmax hmap, if_pos (List.any_eq_true.mpr h)]

variable (hlocked : ¬∃ a ∈ addresses, lockedItem a = true)
include hlocked

theorem judgeWrite_of_busy (h : ∃ a ∈ addresses, pendingItem a = true) (hstore : s.storeInFlight = true) :
    s.judgeWrite addresses = .busy := by
  rw [judgeWrite_of_inMap hmin hmax hmap, if_neg (mt List.any_eq_true.mp hlocked),
    if_pos (by simp only [List.any_eq_true.mpr h, hstore, Bool.and_self])]

theorem judgeWrite_of_ok (h : ¬((∃ a ∈ addresses, pendingItem a = true) ∧ s.storeInFlight = true)) :
    s.judgeWrite addresses = .ok := by
  have hpending : ¬(addresses.any pendingItem && s.storeInFlight) = true := by
    rwa [Bool.and_eq_true, List.any_eq_true]
  rw [judgeWrite_of_inMap hmin hmax hmap, if_neg (mt List.any_eq_true.mp hlocked), if_neg hpending]

end

theorem writeRange_of_refused {s : State} {item : BitVec 16} {words : List Word} {status : Status}
    (h : s.judgeWrite (itemRange item words.length) = status) (hne : status ≠ .ok) :
    writeRange item words s = respond status [] s := by
  subst h
  exact if_neg hne

theorem writeRange_of_ok {s : State} {item : BitVec 16} {words : List Word}
    (h : s.judgeWrite (itemRange item words.length) = .ok) :
    writeRange item words s = respond .ok [] (writeItems item.toNat words s) := by
  rw [writeRange, h]
  rfl

/-- What a range of addresses touches. -/
theorem exists_mem_itemRange {item : BitVec 16} {count : Nat} {p : Nat → Prop} :
    (∃ a ∈ itemRange item count, p a) ↔ ∃ k, k < count ∧ p (item.toNat + k) := by
  simp only [mem_itemRange]
  exact ⟨fun ⟨a, ⟨k, hk, ha⟩, hp⟩ => ⟨k, hk, ha ▸ hp⟩, fun ⟨k, hk, hp⟩ => ⟨_, ⟨k, hk, rfl⟩, hp⟩⟩

theorem exec_write {s : State} (h : s.TakesFrames) {row : BitVec 16 → List Word → Instr}
    (hrow : row = .write ∨ row = .pendingConfigWrite) (item : BitVec 16) (words : List Word) :
    exec (row item words) s = .next (writeRange item words s) := by
  obtain rfl | rfl := hrow <;> exact onFrame_of_takesFrames h _

/-- A WRITE of one item that is neither read-only nor a pending configuration item (R165, R166). -/
theorem writeRange_single {s : State} {item : BitVec 16} (v : Word) (hmap : inItemMap item.toNat = true)
    (hlocked : lockedItem item.toNat = false) (hpending : pendingItem item.toNat = false) :
    writeRange item [v] s = respond .ok [] (writeItems item.toNat [v] s) := by
  have hrange : itemRange item [v].length = [item.toNat] := rfl
  refine writeRange_of_ok ?_
  rw [hrange, judgeWrite_of_ok] <;> simp [hmap, hlocked, hpending]

theorem writeItem_flags (v : Word) (s : State) :
    writeItem 0x0018 v s =
      { s with
        management := s.management.setFlags (s.management.flags &&& ~~~(v.extractLsb' 0 14)) } := by
  rw [← BitVec.setWidth_eq_extractLsb' (by omega)]
  rfl

theorem writeItem_enables (v : Word) (s : State) :
    writeItem 0x0019 v s = { s with management := s.management.setEnables (v.extractLsb' 0 14) } := by
  rw [← BitVec.setWidth_eq_extractLsb' (by omega)]
  rfl

theorem writeItem_pending {o : Nat} (h : o < 23) (v : Word) (s : State) :
    writeItem (0x0100 + o) v s =
      { s with management := { s.management with pending := s.management.pending.writeItem o v } } := by
  interval_cases o <;> rfl

/-- Settles O47: the judgement of a WRITE in its order, and the items one by one. -/
theorem itemWrites : Obligations.ItemWrites := by
  intro s locked pending writable storing pins
  have hmap (n : Nat) : ¬(locked n ∨ writable n) ↔ ¬inItemMap n = true := by
    refine not_congr (Iff.trans ?_ (inItemMap_iff n).symm)
    dsimp only [locked, writable, pending]
    omega
  have hstoring : storing ↔ s.storeInFlight = true := s.storeInFlight_iff.symm
  refine ⟨fun hframes => ⟨fun item words row hrow => ?_, fun v => ⟨?_, ?_⟩⟩, fun n v words => ⟨rfl, rfl⟩,
    fun v => ⟨writeItem_flags v s, writeItem_enables v s, rfl, fun o ho => writeItem_pending ho v s⟩⟩
  · intro touches
    have hlength := itemRange_length item words.length
    have htouches (p : Nat → Prop) : touches p ↔ ∃ a ∈ itemRange item words.length, p a := exists_mem_itemRange.symm
    rw [exec_write hframes hrow]
    refine ⟨fun hbad => ?_, fun hmin hmax hin => ?_⟩
    · rw [writeRange_of_refused (judgeWrite_of_badItem ?_) (by simp)]
      rw [hlength]
      refine hbad.imp_right (Or.imp_right fun hout => ?_)
      obtain ⟨a, ha, hout⟩ := (htouches fun n => ¬(locked n ∨ writable n)).mp hout
      exact ⟨a, ha, (hmap a).mp hout⟩
    · have hin' : ¬∃ a ∈ itemRange item words.length, ¬inItemMap a = true := fun ⟨a, ha, hout⟩ =>
        hin ((htouches fun n => ¬(locked n ∨ writable n)).mpr ⟨a, ha, (hmap a).mpr hout⟩)
      have hlocked : touches locked ↔ ∃ a ∈ itemRange item words.length, lockedItem a = true :=
        (htouches locked).trans (exists_congr fun a => and_congr_right fun _ => (lockedItem_iff a).symm)
      have hpending : touches pending ↔ ∃ a ∈ itemRange item words.length, pendingItem a = true :=
        (htouches pending).trans (exists_congr fun a => and_congr_right fun _ => (pendingItem_iff a).symm)
      rw [← hlength] at hmin hmax
      refine ⟨fun hl => ?_, fun hl hp hs => ?_, fun hl hps => ?_⟩
      · rw [writeRange_of_refused (judgeWrite_of_locked hmin hmax hin' (hlocked.mp hl)) (by simp)]
      · rw [writeRange_of_refused
          (judgeWrite_of_busy hmin hmax hin' (mt hlocked.mpr hl) (hpending.mp hp) (hstoring.mp hs)) (by simp)]
      · rw [writeRange_of_ok (judgeWrite_of_ok hmin hmax hin' (mt hlocked.mpr hl)
          (mt (and_congr hpending hstoring).mpr hps))]
  · refine (onFrame_of_takesFrames hframes _).trans (congrArg Host.Outcome.next ?_)
    rw [writeRange_single v rfl rfl rfl]
    exact congrArg (respond .ok []) (writeItem_flags v s)
  · refine (onFrame_of_takesFrames hframes _).trans (congrArg Host.Outcome.next ?_)
    rw [writeRange_single v rfl rfl rfl]
    exact congrArg (respond .ok []) (writeItem_enables v s)

/-! ### TAG-PROBE and the frames that do nothing -/

theorem probeTags_of_single (w : Word) (s : State) :
    probeTags [w] s =
      respond .ok
        [s.probeWord (w &&& 0xFFFFFFC0#32) s.openItem, s.probeWord (w &&& 0xFFFFFFC0#32) s.otherItem] s := rfl

theorem probeTags_of_other {words : List Word} (h : words.length ≠ 1) (s : State) :
    probeTags words s = respond .badItem [] s := by
  match words, h with
  | [], _ => rfl
  | [w], h => exact absurd rfl h
  | _ :: _ :: _, _ => rfl

theorem tagBits_waiting (owner : Option Nat) :
    flagAt true 31 ||| tagBits (some (.capturing owner none)) = 0xC0000000#32 := by
  simp only [tagBits]
  decide

theorem tagBits_started (i : Fin 4) (owner : Option Nat) :
    flagAt true 31 ||| tagBits (some (.capturing owner (some i))) =
      0xC0000100#32 + BitVec.ofNat 32 (16 * i.val) := by
  simp only [tagBits]
  revert i
  decide

/-- The frame that follows a reset with CS# low is ignored (R160; log entry 10). -/
theorem onFrame_of_awaitsDeselect {s : State} (hrun : s.Running) (h : s.management.awaitsDeselect = true)
    (f : State → State) :
    onFrame f s =
      .next { s with management := { s.management with awaitsDeselect := false, response := none } } := by
  rw [onFrame, whileRunning_of_running hrun, if_pos h]
  rfl

/-- Every command of the management port is a frame (R159, R160). -/
theorem exec_eq_onFrame {c : Instr} (h : c = .badFrame ∨ c = .frameDiscarded ∨ (requestBytes c).isSome = true)
    (s : State) : ∃ f, exec c s = onFrame f s := by
  obtain rfl | rfl | h := h
  · exact ⟨_, rfl⟩
  · exact ⟨fun s => s.setManagement { s.management with response := none }, rfl⟩
  · cases c
    case read | counterSnapshot | write | eventFlagsWrite | eventEnablesWrite | pendingConfigWrite | commit | abort |
      quiesce | resume | bypass | store | tagProbe | errorPop => exact ⟨_, rfl⟩
    all_goals exact absurd h Bool.false_ne_true

/-- Settles O49: the TAG-PROBE, the items it reports, its words, and the frames that do nothing. -/
theorem probesAndIdleFrames : Obligations.ProbesAndIdleFrames := by
  intro s
  refine ⟨fun hframes => ⟨fun item words hwords => ?_, fun item w => ?_, ?_, ?_⟩, openItem_of_none,
    fun r => openItem_of_rollback, fun x y ht hne => ⟨otherItem_of_first ht hne, otherItem_of_second ht hne⟩,
    fun x ht => ⟨otherItem_of_only ht, otherItem_of_unreported ht⟩, fun line e => ?_, fun hrun hawaits c hc => ?_⟩
  · exact (onFrame_of_takesFrames hframes _).trans (congrArg Host.Outcome.next (probeTags_of_other hwords s))
  · exact (onFrame_of_takesFrames hframes _).trans (congrArg Host.Outcome.next (probeTags_of_single w s))
  · exact onFrame_of_takesFrames hframes _
  · exact onFrame_of_takesFrames hframes fun s => s.setManagement { s.management with response := none }
  · intro tag
    refine ⟨rfl, fun h => ?_, fun h => ?_, fun owner h => ?_, fun owner i h => ?_⟩
    · exact congrArg (fun t => flagAt true 31 ||| tagBits t) h
    · exact congrArg (fun t => flagAt true 31 ||| tagBits t) h
    · exact (congrArg (fun t => flagAt true 31 ||| tagBits t) h).trans (tagBits_waiting owner)
    · exact (congrArg (fun t => flagAt true 31 ||| tagBits t) h).trans (tagBits_started i owner)
  · obtain ⟨f, hf⟩ := exec_eq_onFrame hc s
    rw [hf, onFrame_of_awaitsDeselect hrun hawaits]

end Sys2Proof.Machine

/-! The commands that act on modes and epochs (R72 to R76, R87, R88, R143, R148, R151): the settlements of O50, O51 and
O53. -/

namespace Sys2Proof.Machine

-- One theorem at a time: the proofs below would otherwise wait for one another in many threads.
set_option Elab.async false

/-! ### Frames of the commands -/

section
variable {s : State} (h : s.TakesFrames) (item : BitVec 16)
include h

theorem exec_commit (count : Byte) : exec (.commit item count) s = .next (withoutWords count commitCommand s) :=
  onFrame_of_takesFrames h _

theorem exec_quiesce (count : Byte) : exec (.quiesce item count) s = .next (withoutWords count quiesceCommand s) :=
  onFrame_of_takesFrames h _

theorem exec_abort (count : Byte) : exec (.abort item count) s = .next (withoutWords count abortCommand s) :=
  onFrame_of_takesFrames h _

theorem exec_resume (count : Byte) : exec (.resume item count) s = .next (withoutWords count resumeCommand s) :=
  onFrame_of_takesFrames h _

theorem exec_store (count : Byte) : exec (.store item count) s = .next (withoutWords count storeCommand s) :=
  onFrame_of_takesFrames h _

end

/-! ### Opening and closing an epoch -/

/-- The epoch that opens, with the limits it latches (R3, R6). -/
def State.opening (s : State) (n : Word) : LiveEpoch :=
  { number := n, state := .opened, damaged := false, lines := 0, firstSlot := none, firstTime := none, held := 0,
    out := 0, threshold := s.anchor.working.threshold, ageLimit := s.anchor.working.ageLimit }

theorem openEpoch_of_first {s : State} (h : s.epochs.table.entry0 = none) (n : Word) :
    openEpoch n s =
      { s with epochs := { s.epochs with table := ⟨some (s.opening n), s.epochs.table.entry1⟩ } } := by
  unfold openEpoch EpochTable.insert
  rw [h]
  rfl

theorem openEpoch_of_second {s : State} (h : s.epochs.table.entry0 ≠ none) (h' : s.epochs.table.entry1 = none)
    (n : Word) :
    openEpoch n s =
      { s with epochs := { s.epochs with table := ⟨s.epochs.table.entry0, some (s.opening n)⟩ } } := by
  obtain ⟨e, he⟩ := Option.ne_none_iff_exists'.mp h
  unfold openEpoch EpochTable.insert
  rw [he, h']
  rfl

theorem freeSaved_eq (n : Word) (tags : List TagEntry) :
    freeSaved n tags = tags.filter fun x => decide ¬(x.key.epoch = n ∧ x.state = .saved) :=
  List.filter_congr fun x _ => by
    by_cases hn : x.key.epoch = n <;> by_cases hs : x.state = .saved <;> simp [hn, hs]

/-! ### COMMIT and QUIESCE -/

section
variable {s : State}

theorem commitCommand_of_mode (h : s.judgeCommit = .mode) : commitCommand s = respond .mode [] s := by
  simp only [commitCommand, h]

theorem commitCommand_of_busy (h : s.judgeCommit = .busy ∨ s.judgeCommit = .busyCommitting) :
    commitCommand s = respond .busy [] s := by
  obtain h | h := h <;> simp only [commitCommand, h]

theorem commitCommand_of_damaged (h : s.judgeCommit = .damaged) : commitCommand s = respond .damaged [] s := by
  simp only [commitCommand, h]

theorem commitCommand_of_empty {o : LiveEpoch} (h : s.judgeCommit = .empty o) :
    commitCommand s = respond .ok [] (updateSpace (commitEmpty o.number s)) := by
  simp only [commitCommand, h]

theorem commitCommand_of_commits {o : LiveEpoch} (h : s.judgeCommit = .commits o) :
    commitCommand s = respond .ok [] (updateSpace (commitOpen o.number s)) := by
  simp only [commitCommand, h]

theorem quiesceCommand_of_mode (h : s.judgeCommit = .mode) : quiesceCommand s = respond .mode [] s := by
  simp only [quiesceCommand, h]

theorem quiesceCommand_of_busy (h : s.judgeCommit = .busy ∨ s.judgeCommit = .busyCommitting) :
    quiesceCommand s = respond .busy [] s := by
  obtain h | h := h <;> simp only [quiesceCommand, h]

theorem quiesceCommand_of_damaged (h : s.judgeCommit = .damaged) : quiesceCommand s = respond .damaged [] s := by
  simp only [quiesceCommand, h]

theorem quiesceCommand_of_empty {o : LiveEpoch} (h : s.judgeCommit = .empty o) :
    quiesceCommand s = respond .ok [] (updateSpace (quiesceEmpty o.number s)) := by
  simp only [quiesceCommand, h]

theorem quiesceCommand_of_commits {o : LiveEpoch} (h : s.judgeCommit = .commits o) :
    quiesceCommand s = respond .ok [] (updateSpace (quiesceOpen o.number s)) := by
  simp only [quiesceCommand, h]

end

/-- A rollback, or an epoch that is COMMITTING or FAILED, makes a commit request BUSY (R72). -/
theorem judgeCommit_of_busy {s : State} (hmode : s.modes.mode = .active)
    (h : s.replay.rollback ≠ none ∨ ∃ x ∈ s.epochs.table.epochs, x.state = .committing ∨ x.state = .failed) :
    s.judgeCommit = .busy ∨ s.judgeCommit = .busyCommitting := by
  by_cases hr : s.replay.rollback = none
  · obtain ⟨x, hx, hst⟩ := h.resolve_left (not_not.mpr hr)
    by_cases hc : ∃ x ∈ s.epochs.table.epochs, x.state = .committing
    · exact .inr (judgeCommit_of_committing hmode hr hc)
    · exact .inl (judgeCommit_of_failed hmode hr hc ⟨x, hx, hst.resolve_left fun hc' => hc ⟨x, hx, hc'⟩⟩)
  · exact .inl (judgeCommit_of_rollback hmode hr)

/-- The state after the COMMITTING of epoch `n` starts (R57, R74, R149). -/
theorem startCommit_eq (purpose : CommitPurpose) (n : Word) (s : State) :
    startCommit purpose n s =
      { s with
        epochs :=
          { closedThrough := s.epochs.closedThrough
            table := s.epochs.table.map fun x => if x.number = n then { x with state := .committing } else x
            commit := some { epoch := n, purpose := purpose, phase := .draining }
            heldTrigger := false, fullRequest := false }
        capture :=
          { s.capture with
            tags := s.capture.tags.filter fun x => decide ¬(x.key.epoch = n ∧ x.state = .saved) } } := by
  rw [← freeSaved_eq]
  rfl

/-- Settles O50: the epoch that opens, the two ways to close, and COMMIT and QUIESCE by their verdict. -/
theorem commitAndQuiesce : Obligations.CommitAndQuiesce := by
  intro s item failedOrCommitting opening closed started
  refine ⟨fun h n => openEpoch_of_first h n, fun h h' n => openEpoch_of_second h h' n, fun n => ⟨rfl, ?_⟩,
    fun hframes => ⟨fun count hcount => ?_, fun hmode => ?_, fun hmode hbusy => ?_, fun o hmode hr hfree ho => ?_⟩⟩
  · rw [commitOpen, startCommit_eq]
  · rw [exec_commit hframes, exec_quiesce hframes, withoutWords_of_ne hcount, withoutWords_of_ne hcount]
    exact ⟨rfl, rfl⟩
  · rw [exec_commit hframes, exec_quiesce hframes, withoutWords_zero, withoutWords_zero,
      commitCommand_of_mode (judgeCommit_of_mode hmode), quiesceCommand_of_mode (judgeCommit_of_mode hmode)]
    exact ⟨rfl, rfl⟩
  · have hjudge := judgeCommit_of_busy hmode hbusy
    rw [exec_commit hframes, exec_quiesce hframes, withoutWords_zero, withoutWords_zero, commitCommand_of_busy hjudge,
      quiesceCommand_of_busy hjudge]
    exact ⟨rfl, rfl⟩
  · have hjudge := judgeCommit_of_open hmode hr (fun ⟨x, hx, hc⟩ => hfree ⟨x, hx, .inl hc⟩)
      (fun ⟨x, hx, hf⟩ => hfree ⟨x, hx, .inr hf⟩) ho
    rw [exec_commit hframes, exec_quiesce hframes, withoutWords_zero, withoutWords_zero]
    refine ⟨fun hd => ?_, fun hd hlines hheld hout => ?_, fun hd hlive => ?_⟩
    · rw [if_pos hd] at hjudge
      rw [commitCommand_of_damaged hjudge, quiesceCommand_of_damaged hjudge]
      exact ⟨rfl, rfl⟩
    · rw [if_neg (by simp [hd]), if_pos (o.empty_iff.mpr ⟨hlines, hheld, hout⟩)] at hjudge
      rw [commitCommand_of_empty hjudge, quiesceCommand_of_empty hjudge]
      exact ⟨rfl, rfl⟩
    · rw [if_neg (by simp [hd]), if_neg (by simp [o.not_empty_iff.mpr hlive])] at hjudge
      rw [commitCommand_of_commits hjudge, quiesceCommand_of_commits hjudge, quiesceOpen, startCommit_eq]
      exact ⟨rfl, rfl⟩

/-! ### ABORT -/

/-- The tag entries after an ABORT of the live epochs (R54, R58). -/
theorem filterMap_abort (live : List Word) (tags : List TagEntry) :
    tags.filterMap (TagEntry.abort live) =
      tags.filterMap fun x =>
        if x.key.epoch ∈ live then
          match x.state with
          | .capturing _ (some i) => some { x with state := .capturing none (some i) }
          | _ => none
        else some x := by
  refine List.filterMap_congr fun x _ => ?_
  unfold TagEntry.abort
  refine if_congr List.contains_iff_mem ?_ rfl
  cases x.state with
  | saved => rfl
  | capturing owner slot => cases slot <;> rfl

/-- No tag entry of the aborted set stays SAVED (R58). -/
theorem abort_not_saved {live : List Word} {tags : List TagEntry} {x : TagEntry}
    (hx : x ∈ tags.filterMap (TagEntry.abort live)) (hlive : x.key.epoch ∈ live) : x.state ≠ .saved := by
  obtain ⟨y, -, hy⟩ := List.mem_filterMap.mp hx
  unfold TagEntry.abort at hy
  split at hy
  · split at hy
    · obtain rfl := Option.some.inj hy
      simp
    · simp at hy
    · simp at hy
  · next hout =>
    obtain rfl := Option.some.inj hy
    exact absurd (List.contains_iff_mem.mpr hlive) hout

/-- The capture slots after an ABORT (R67, R68). -/
theorem CaptureUnit.abort_slots {u : CaptureUnit} {slots : Vector (Option Capture) 4}
    (hidle : ∀ i : Fin 4, u.slots[i] = none → slots[i] = none)
    (hbusy : ∀ (i : Fin 4) (c : Capture), u.slots[i] = some c →
      (∀ cancelled, c.phase = .reading cancelled → slots[i] = some { c with hold := none, phase := .reading true }) ∧
      (∀ contents slot sequence, c.phase = .writing contents slot sequence → slots[i] = some { c with hold := none }))
    (aborted : List Word) : (u.abort aborted).slots = slots := by
  have hslot (i : Fin 4) : u.slots[i].map Capture.cancel = slots[i] := by
    cases hc : u.slots[i] with
    | none => exact (hidle i hc).symm
    | some c =>
      obtain ⟨hreading, hwriting⟩ := hbusy i c hc
      cases hphase : c.phase with
      | reading cancelled =>
        rw [hreading cancelled hphase, Option.map_some, Capture.cancel, hphase]
      | writing contents slot sequence =>
        rw [hwriting contents slot sequence hphase, Option.map_some, Capture.cancel, hphase]
  refine Vector.ext fun i hi => ?_
  interval_cases i
  · exact hslot 0
  · exact hslot 1
  · exact hslot 2
  · exact hslot 3

section
variable {s : State}

theorem abortCommand_of_mode (h : s.modes.mode ≠ .active) : abortCommand s = respond .mode [] s := if_pos h

theorem abortCommand_of_busy (hmode : s.modes.mode = .active)
    (h : s.replay.rollback ≠ none ∨ ∃ x ∈ s.epochs.table.epochs, x.state = .committing) :
    abortCommand s = respond .busy [] s := by
  by_cases hr : s.replay.rollback = none
  · have hc := (EpochTable.has_iff _ _).mpr (h.resolve_left (not_not.mpr hr))
    simp [abortCommand, hmode, State.rollingBack, hc]
  · have hrolling : s.rollingBack = true := Option.isSome_iff_ne_none.mpr hr
    simp [abortCommand, hmode, hrolling]

theorem abortCommand_of_taken (hmode : s.modes.mode = .active) (hr : s.replay.rollback = none)
    (hc : ∀ x ∈ s.epochs.table.epochs, x.state ≠ .committing) :
    abortCommand s = respond .ok [] (updateSpace (startRollback s)) := by
  have hc : s.epochs.table.has .committing = false :=
    (EpochTable.has_eq_false_iff _ _).mpr fun ⟨x, hx, hst⟩ => hc x hx hst
  simp [abortCommand, hmode, State.rollingBack, hr, hc]

end

/-- The notice that captures have settled leaves the commit sequence alone while epochs have not drained (R91). -/
theorem noteCapturesSettled_commit {s : State} {highest : Word}
    (h : s.replay.rollback = some { phase := .settling false false, highest := highest }) :
    (noteCapturesSettled s).epochs.commit = s.epochs.commit := by
  by_cases hidle : ∀ i : Fin 4, s.capture.slots[i] = none
  · rw [noteCapturesSettled_of_idle h hidle rfl]
    rfl
  · rw [noteCapturesSettled_of_busy h (not_forall.mp hidle)]

/-- A rollback starts, with no commit sequence active (R88, R91). -/
theorem startRollback_eq {s : State} {highest : Word} {tags : List TagEntry} {slots : Vector (Option Capture) 4}
    (hcommit : s.epochs.commit = none) (hhighest : highestNumber s.epochs.table.epochs = highest)
    (htags : (s.capture.abort (s.epochs.table.epochs.map (·.number))).tags = tags)
    (hslots : (s.capture.abort (s.epochs.table.epochs.map (·.number))).slots = slots) :
    startRollback s =
      drainNotice (noteCapturesSettled (rejudge
        (discardDeferred (fun d => (s.anchor.working.classify d.line).1 == .journal)
          { s with
            epochs :=
              { s.epochs with
                table := s.epochs.table.map fun x => { x with state := .rollingBack, held := 0 }
                heldTrigger := false, fullRequest := false }
            hold := { s.hold with entries := s.hold.entries.filter fun x => decide (x.cls = .pass) }
            capture := { tags := tags, slots := slots, reads := s.capture.reads }
            replay :=
              { s.replay with
                rollback := some { phase := .settling false false, highest := highest } } }))) := by
  subst hhighest htags hslots
  rw [drainNotice_of_undrained, ← withoutJournal_entries]
  · rfl
  · refine commitDrained_of_none ?_
    rw [noteCapturesSettled_commit (highest := highestNumber s.epochs.table.epochs)]
    · simp [hcommit]
    · simp

/-- Settles O51: an ABORT refused, and one taken on one or two live epochs. -/
theorem abortRollsBack : Obligations.AbortRollsBack := by
  intro s item hframes
  refine ⟨fun count hcount => ?_, fun hmode => ?_, fun hmode hbusy => ?_, fun highest hmode hr hcommit hc hhighest => ?_⟩
  · rw [exec_abort hframes, withoutWords_of_ne hcount]
  · rw [exec_abort hframes, withoutWords_zero, abortCommand_of_mode hmode]
  · rw [exec_abort hframes, withoutWords_zero, abortCommand_of_busy hmode hbusy]
  · intro live tags slots htags hidle hbusy
    have htags := htags.trans (filterMap_abort (s.epochs.table.epochs.map (·.number)) s.capture.tags).symm
    refine ⟨fun x hx hlive => ?_, ?_⟩
    · subst htags
      exact abort_not_saved hx (List.mem_map.mpr hlive)
    · have hhighest : highestNumber s.epochs.table.epochs = highest := by
        obtain ⟨x, ht, rfl⟩ | ⟨x, y, ht, rfl⟩ := hhighest <;> rw [ht] <;> rfl
      rw [exec_abort hframes, withoutWords_zero, abortCommand_of_taken hmode hr hc,
        startRollback_eq hcommit hhighest htags.symm (CaptureUnit.abort_slots hidle hbusy _)]

/-! ### Validity of a configuration -/

/-- The validation of R143, condition by condition. -/
theorem Configuration.valid_iff (c : Configuration) (base : Word) :
    c.valid base = true ↔
      16 ≤ c.slots.toNat ∧ c.slots.toNat ≤ 1048576 ∧ c.basePage.toNat * 4096 + c.slots.toNat * 128 ≤ 2 ^ 32 ∧
      (c.basePage.toNat * 4096 + c.slots.toNat * 128 ≤ base.toNat ∨ base.toNat + 256 ≤ c.basePage.toNat * 4096) ∧
      (∀ n : Fin 8,
        c.windows[n].mode.toNat ≤ 2 ∧
          (c.windows[n].enable = true → c.windows[n].base.toNat + (c.windows[n].countLessOne.toNat + 1) ≤ 1048576)) ∧
      c.startMode.toNat ≤ 1 ∧ c.defaultMode.toNat ≤ 1 ∧ c.fullPolicy.toNat ≤ 1 ∧
      8 ≤ c.discardLimit.toNat ∧ c.discardLimit.toNat ≤ 2040 ∧ c.discardLimit.toNat % 8 = 0 ∧
      c.watermark.toNat ≤ 1048576 := by
  have hwindows : c.windows.toList.all Window.valid = true ↔
      ∀ n : Fin 8, c.windows[n].mode.toNat ≤ 2 ∧
        (c.windows[n].enable = true →
          c.windows[n].base.toNat + (c.windows[n].countLessOne.toNat + 1) ≤ 1048576) := by
    rw [List.all_eq_true]
    have hwindow (w : Window) : w.valid = true ↔ w.mode.toNat ≤ 2 ∧
        (w.enable = true → w.base.toNat + (w.countLessOne.toNat + 1) ≤ 1048576) := by
      rw [w.valid_iff]
      cases w.enable <;> simp
    constructor
    · intro hall n
      exact (hwindow _).mp (hall _ (by simp))
    · intro hall w hw
      obtain ⟨n, hn, rfl⟩ := List.mem_iff_getElem.mp hw
      exact (hwindow _).mpr (by simpa using hall ⟨n, by simpa using hn⟩)
  have harea : decide (c.areaEnd ≤ 2 ^ 32) = true ↔
      c.basePage.toNat * 4096 + c.slots.toNat * 128 ≤ 2 ^ 32 := decide_eq_true_iff
  have hclear : c.clearOfAnchor base = true ↔
      c.basePage.toNat * 4096 + c.slots.toNat * 128 ≤ base.toNat ∨ base.toNat + 256 ≤ c.basePage.toNat * 4096 :=
    decide_eq_true_iff
  have hwatermark : decide (c.watermark.toNat ≤ Config.maxSlots) = true ↔ c.watermark.toNat ≤ 1048576 :=
    decide_eq_true_iff
  rw [Configuration.valid]
  simp only [Bool.and_eq_true, c.hasJournal_iff, harea, hclear, hwindows, hwatermark, decide_eq_true_iff, and_assoc]

/-! ### RESUME and STORE -/

section
variable {s : State}

theorem resumeCommand_of_mode (h : s.modes.mode ≠ .quiesced ∧ s.modes.mode ≠ .bypass) :
    resumeCommand s = respond .mode [] s := if_pos h

theorem storeCommand_of_mode (h : s.modes.mode ≠ .quiesced ∧ s.modes.mode ≠ .bypass) :
    storeCommand s = respond .mode [] s := if_pos h

variable (hmode : ¬(s.modes.mode ≠ .quiesced ∧ s.modes.mode ≠ .bypass))
include hmode

theorem resumeCommand_of_busy (h : s.storeInFlight = true) : resumeCommand s = respond .busy [] s := by
  rw [resumeCommand, if_neg hmode, if_pos h]

theorem resumeCommand_of_badConfig (h : s.storeInFlight = false)
    (hbad : s.modes.mode = .bypass ∧ s.anchor.working.hasJournal = false) :
    resumeCommand s = respond .badConfig [] s := by
  rw [resumeCommand, if_neg hmode, if_neg (by simp [h]), if_pos hbad]

/-- RESUME is carried out (R146, R151). -/
theorem resumeCommand_of_taken (h : s.storeInFlight = false)
    (hgood : ¬(s.modes.mode = .bypass ∧ s.anchor.working.hasJournal = false)) :
    resumeCommand s =
      respond .ok [] (updateSpace (rejudge
        { openEpoch (s.epochs.closedThrough + 1#32) s with
          modes :=
            { s.modes with
              mode := .active, cause := if s.modes.mode = .bypass then .none else s.modes.cause } })) := by
  rw [resumeCommand, if_neg hmode, if_neg (by simp [h]), if_neg hgood]
  rfl

theorem storeCommand_of_busy (h : s.anchor.write ≠ none ∨ s.anchor.pendingUpdate = true) :
    storeCommand s = respond .busy [] s := by
  rw [storeCommand, if_neg hmode, if_pos (h.imp_left Option.isSome_iff_ne_none.mpr)]

variable (hwrite : s.anchor.write = none) (hpending : s.anchor.pendingUpdate = false)
include hwrite hpending

theorem storeCommand_of_badConfig (h : s.management.pending.valid s.anchorBase = false) :
    storeCommand s = respond .badConfig [] s := by
  rw [storeCommand, if_neg hmode, if_neg (by simp [hwrite, hpending]), if_pos h]

theorem storeCommand_of_taken (h : s.management.pending.valid s.anchorBase = true) :
    storeCommand s = respond .ok [] (startStore s) := by
  rw [storeCommand, if_neg hmode, if_neg (by simp [hwrite, hpending]), if_neg (by simp [h])]

end

/-- A STORE starts with its target written out (R140, R144). -/
theorem startStore_eq (s : State) :
    startStore s =
      { s with
        anchor :=
          { s.anchor with
            write := some
              { kind := .store s.management.pending
                target := if s.anchor.current = some .a then .b else .a
                generation := s.anchor.generation + 1#32
                bytes := anchorBytes
                  { configuration := s.management.pending, generation := s.anchor.generation + 1#32,
                    ringId := s.anchor.generation + 1#32, tail := 0, tailSequence := 0#32,
                    closedThrough := s.epochs.closedThrough }
                granted := 0, first := none } } } := by
  rw [← AnchorUnit.target_eq]
  rfl

/-- Settles O53: RESUME and STORE by the rows of their tables. -/
theorem resumeAndStore : Obligations.ResumeAndStore := by
  intro s item hframes outside storing hasJournal c start stop valid
  have hstoring : storing ↔ s.storeInFlight = true := s.storeInFlight_iff.symm
  have hjournal : hasJournal ↔ s.anchor.working.hasJournal = true := (Configuration.hasJournal_iff _).symm
  have hvalid : valid ↔ s.management.pending.valid s.anchorBase = true := by
    have hmode (m : BitVec 2) : m ≠ 3#2 ↔ m.toNat ≤ 2 := by revert m; decide
    have hlow (m : BitVec 2) : m = 0#2 ∨ m = 1#2 ↔ m.toNat ≤ 1 := by revert m; decide
    rw [Configuration.valid_iff]
    simp only [valid, hmode, hlow, Nat.add_assoc]
    rfl
  have hnot (h : ¬storing) : s.storeInFlight = false := Bool.not_eq_true _ ▸ mt hstoring.mpr h
  refine ⟨fun count hcount => ?_, fun hmode => ?_, fun hmode hs => ?_, fun hbypass hs hj => ?_, fun hmode hs hj => ?_,
    fun hmode hbusy => ?_, fun hmode hwrite hpending => ⟨fun hbad => ?_, fun hgood => ?_⟩⟩
  · rw [exec_resume hframes, exec_store hframes, withoutWords_of_ne hcount, withoutWords_of_ne hcount]
    exact ⟨rfl, rfl⟩
  · rw [exec_resume hframes, exec_store hframes, withoutWords_zero, withoutWords_zero, resumeCommand_of_mode hmode,
      storeCommand_of_mode hmode]
    exact ⟨rfl, rfl⟩
  · rw [exec_resume hframes, withoutWords_zero, resumeCommand_of_busy hmode (hstoring.mp hs)]
  · rw [exec_resume hframes, withoutWords_zero,
      resumeCommand_of_badConfig (fun hmode => hmode.2 hbypass) (hnot hs)
        ⟨hbypass, Bool.not_eq_true _ ▸ mt hjournal.mpr hj⟩]
  · rw [exec_resume hframes, withoutWords_zero, resumeCommand_of_taken hmode (hnot hs)]
    rintro ⟨hbypass, hnone⟩
    exact Bool.false_ne_true (hnone.symm.trans (hjournal.mp (hj hbypass)))
  · rw [exec_store hframes, withoutWords_zero, storeCommand_of_busy hmode hbusy]
  · rw [exec_store hframes, withoutWords_zero,
      storeCommand_of_badConfig hmode hwrite hpending (Bool.not_eq_true _ ▸ mt hvalid.mpr hbad)]
  · rw [exec_store hframes, withoutWords_zero, storeCommand_of_taken hmode hwrite hpending (hvalid.mp hgood),
      startStore_eq]

end Sys2Proof.Machine

/-! Timeouts (R108, R115, R116): the settlement of O26. -/

namespace Sys2Proof.Machine

-- One theorem at a time: the proofs below would otherwise wait for one another in many threads.
set_option Elab.async false

/-! ### Whom the end of a request reaches -/

/-- The owner that the timeout of a request reaches (R115). -/
inductive TimeoutOwner where
  | current
  | slot (i : Fin 4)
  | anchor (second : Bool)
  | nobody

/-- The owner by the source of the request (R113, R115). -/
def Source.timeoutOwner : Source → TimeoutOwner
  | .hostRead _ .current => .current
  | .hostRead _ (.slot i) => .slot i
  | .deferredFetch i false => .slot i
  | .anchorWrite _ second => .anchor second
  | _ => .nobody

/-- A timeout reaches its owner as a FAULT answer marked as a timeout (R115). -/
def endOwner (s : State) : TimeoutOwner → State
  | .current => currentReadAnswered .fault s
  | .slot i => fetchFaulted i s
  | .anchor second => anchorLineAnswered second .timedOut s
  | .nobody => s

theorem endTimedOut_eq (s : State) (e : MemoryEntry) : endTimedOut s e = endOwner s e.source.timeoutOwner := by
  unfold endTimedOut
  cases e.source with
  | hostRead q owner => cases owner <;> rfl
  | deferredFetch i abandoned => cases abandoned <;> rfl
  | _ => rfl

theorem foldl_endTimedOut_eq (ended : List MemoryEntry) (s : State) :
    ended.foldl endTimedOut s = (ended.map fun e => e.source.timeoutOwner).foldl endOwner s := by
  induction ended generalizing s with
  | nil => rfl
  | cons e rest ih => rw [List.foldl_cons, ih, endTimedOut_eq, List.map_cons, List.foldl_cons]

theorem Source.timeoutOwner_eq_current (x : Source) : x.timeoutOwner = .current ↔ ∃ q, x = .hostRead q .current := by
  cases x with
  | hostRead q owner => cases owner <;> simp [Source.timeoutOwner]
  | deferredFetch i abandoned => cases abandoned <;> simp [Source.timeoutOwner]
  | _ => simp [Source.timeoutOwner]

theorem Source.timeoutOwner_eq_slot (x : Source) (i : Fin 4) :
    x.timeoutOwner = .slot i ↔ x = .deferredFetch i false ∨ ∃ q, x = .hostRead q (.slot i) := by
  cases x with
  | hostRead q owner => cases owner <;> simp [Source.timeoutOwner]
  | deferredFetch j abandoned => cases abandoned <;> simp [Source.timeoutOwner]
  | _ => simp [Source.timeoutOwner]

/-! ### What the ends of requests leave as it was -/

/-- What a timeout and the halt it reports leave as it was, and which flags they do not clear (R115, R154). -/
structure State.EndKeeps (s t : State) : Prop where
  pending : t.pending = s.pending
  pins : t.pins = s.pins
  freeze : t.modes.freeze = s.modes.freeze
  closedThrough : t.epochs.closedThrough = s.epochs.closedThrough
  head : t.ring.head = s.ring.head
  headSequence : t.ring.headSequence = s.ring.headSequence
  tail : t.ring.tail = s.ring.tail
  tailSequence : t.ring.tailSequence = s.ring.tailSequence
  used : t.ring.used = s.ring.used
  ringId : t.ring.ringId = s.ring.ringId
  working : t.anchor.working = s.anchor.working
  copy : t.anchor.current = s.anchor.current
  generation : t.anchor.generation = s.anchor.generation
  enables : t.management.enables = s.management.enables
  flags : ∀ i : Nat, s.management.flags.getLsbD i = true → t.management.flags.getLsbD i = true
  storeFlags : t.management.flags.getLsbD 5 = s.management.flags.getLsbD 5 ∧
    t.management.flags.getLsbD 6 = s.management.flags.getLsbD 6

theorem State.EndKeeps.refl (s : State) : s.EndKeeps s :=
  ⟨rfl, rfl, rfl, rfl, rfl, rfl, rfl, rfl, rfl, rfl, rfl, rfl, rfl, rfl, fun _ => id, rfl, rfl⟩

theorem State.EndKeeps.trans {s t u : State} (h : s.EndKeeps t) (h' : t.EndKeeps u) : s.EndKeeps u where
  pending := h'.pending.trans h.pending
  pins := h'.pins.trans h.pins
  freeze := h'.freeze.trans h.freeze
  closedThrough := h'.closedThrough.trans h.closedThrough
  head := h'.head.trans h.head
  headSequence := h'.headSequence.trans h.headSequence
  tail := h'.tail.trans h.tail
  tailSequence := h'.tailSequence.trans h.tailSequence
  used := h'.used.trans h.used
  ringId := h'.ringId.trans h.ringId
  working := h'.working.trans h.working
  copy := h'.copy.trans h.copy
  generation := h'.generation.trans h.generation
  enables := h'.enables.trans h.enables
  flags := fun i hi => h'.flags i (h.flags i hi)
  storeFlags := ⟨h'.storeFlags.1.trans h.storeFlags.1, h'.storeFlags.2.trans h.storeFlags.2⟩

/-- A change of the host port, the memory queue, the log and the counters alone. -/
theorem State.EndKeeps.of_eq {s t : State} (hpending : t.pending = s.pending) (hpins : t.pins = s.pins)
    (hmodes : t.modes = s.modes) (hepochs : t.epochs = s.epochs) (hring : t.ring = s.ring)
    (hanchor : t.anchor = s.anchor) (henables : t.management.enables = s.management.enables)
    (hflags : t.management.flags = s.management.flags) : s.EndKeeps t := by
  refine ⟨hpending, hpins, ?_, ?_, ?_, ?_, ?_, ?_, ?_, ?_, ?_, ?_, ?_, henables, fun i => ?_, ?_, ?_⟩ <;>
    simp only [hmodes, hepochs, hring, hanchor, hflags, imp_self]

theorem raise_getLsbD_of_set {v : Event} {i : Nat} {s : State} (h : s.management.flags.getLsbD i = true) :
    (raise v s).management.flags.getLsbD i = true := by
  have hor : (raise v s).management.flags.getLsbD i = (s.management.flags ||| v.mask).getLsbD i := rfl
  rw [hor, BitVec.getLsbD_or, h, Bool.true_or]

theorem raise_getLsbD_self (v : Event) (s : State) : (raise v s).management.flags.getLsbD v.bit = true := by
  have hor : (raise v s).management.flags.getLsbD v.bit = (s.management.flags ||| v.mask).getLsbD v.bit := rfl
  have hmask : v.mask.getLsbD v.bit = true := by cases v <;> rfl
  rw [hor, BitVec.getLsbD_or, hmask, Bool.or_true]

theorem raise_getLsbD_of_unset {v : Event} {i : Nat} (h : v.mask.getLsbD i = false) (s : State) :
    (raise v s).management.flags.getLsbD i = s.management.flags.getLsbD i := by
  have hor : (raise v s).management.flags.getLsbD i = (s.management.flags ||| v.mask).getLsbD i := rfl
  rw [hor, BitVec.getLsbD_or, h, Bool.or_false]

theorem raise_endKeeps {v : Event} (h5 : v.mask.getLsbD 5 = false) (h6 : v.mask.getLsbD 6 = false) (s : State) :
    s.EndKeeps (raise v s) where
  pending := rfl
  pins := rfl
  freeze := rfl
  closedThrough := rfl
  head := rfl
  headSequence := rfl
  tail := rfl
  tailSequence := rfl
  used := rfl
  ringId := rfl
  working := rfl
  copy := rfl
  generation := rfl
  enables := rfl
  flags := fun _ => raise_getLsbD_of_set
  storeFlags := ⟨raise_getLsbD_of_unset h5 s, raise_getLsbD_of_unset h6 s⟩

theorem appendError_enables (m : ManagementPort) (e : ErrorEntry) : (m.appendError e).enables = m.enables := by
  unfold ManagementPort.appendError
  split <;> rfl

theorem appendError_flags (m : ManagementPort) (e : ErrorEntry) : (m.appendError e).flags = m.flags := by
  unfold ManagementPort.appendError
  split <;> rfl

theorem logError_endKeeps (kind : ErrorKind) (epoch line : Option Word) (slot : Option Nat) (s : State) :
    s.EndKeeps (logError kind epoch line slot s) := by
  refine State.EndKeeps.trans (t := s.setManagement (s.management.appendError
    { kind := kind, epoch := epoch, line := line, slot := slot, mode := s.modes.mode })) ?_ (raise_endKeeps rfl rfl _)
  exact .of_eq rfl rfl rfl rfl rfl rfl (appendError_enables _ _) (appendError_flags _ _)

@[simp] theorem answerWaiting_enables (a : HostAnswer) (s : State) :
    (answerWaiting a s).management.enables = s.management.enables := by
  cases a <;> rfl

theorem rejudge_enables (s : State) : (rejudge s).management.enables = s.management.enables := by
  unfold rejudge
  (repeat' split) <;> simp

theorem answerFault_endKeeps (k : FaultKind) (s : State) : s.EndKeeps (answerHost (.fault k) s) :=
  .of_eq rfl rfl rfl rfl rfl rfl rfl rfl

theorem discardSlot_endKeeps (i : Fin 4) (s : State) : s.EndKeeps (discardSlot i s) := by
  unfold discardSlot
  split
  · exact .refl s
  · exact .of_eq rfl rfl rfl rfl rfl rfl rfl rfl

theorem fetchFaulted_endKeeps (i : Fin 4) (s : State) : s.EndKeeps (fetchFaulted i s) := by
  unfold fetchFaulted
  split
  · exact (discardSlot_endKeeps i s).trans (answerFault_endKeeps _ _)
  · exact discardSlot_endKeeps i s

theorem currentReadAnswered_endKeeps (s : State) : s.EndKeeps (currentReadAnswered .fault s) := by
  unfold currentReadAnswered
  split
  · exact .refl s
  · exact answerFault_endKeeps _ s

theorem logAnchorFault_endKeeps (c : Copy) (first second : LineAnswer) (s : State) :
    s.EndKeeps (logAnchorFault c first second s) := by
  unfold logAnchorFault
  split_ifs
  · exact logError_endKeeps ..
  · exact logError_endKeeps ..
  · exact .refl s

theorem setAnchorWrite_endKeeps (s : State) (write : Option AnchorWrite) (stale : Bool) :
    s.EndKeeps { s with anchor := { s.anchor with write := write, stale := stale } } :=
  ⟨rfl, rfl, rfl, rfl, rfl, rfl, rfl, rfl, rfl, rfl, rfl, rfl, rfl, rfl, fun _ => id, rfl, rfl⟩

/-! ### An anchor write whose second line is ended -/

section
variable {s : State} (q : s.Quiet) (hmode : s.modes.mode = .halted) {w : AnchorWrite} (hw : s.anchor.write = some w)
include q

theorem judgeAnchorWrite_update_of_quiet {tail : Nat} {sequence : Word} {ends : Bool}
    (hkind : w.kind = .update tail sequence ends) (first : LineAnswer) :
    judgeAnchorWrite w first .timedOut s =
      raise .anchorStale
        (logAnchorFault w.target first .timedOut
          { s with anchor := { s.anchor with write := none, stale := true } }) := by
  have hjudged : judgeUpdate w tail sequence ends first .timedOut { s with anchor := { s.anchor with write := none } } =
      raise .anchorStale
        (logAnchorFault w.target first .timedOut
          { s with anchor := { s.anchor with write := none, stale := true } }) :=
    judgeUpdate_of_failed _ _ _ _ (by simp) _
  obtain ⟨-, hepochs, hreplay, hpending, -, -⟩ :=
    judgeUpdate_updateJudged w tail sequence ends first .timedOut { s with anchor := { s.anchor with write := none } }
  rw [hjudged] at hepochs hreplay hpending
  rw [judgeAnchorWrite_of_update hkind hjudged, if_neg, completeRecovery_of_none, completeQuiesce_of_none]
  · rw [hepochs]
    exact q.commit
  · rw [hreplay]
    exact q.recovery
  · rw [hpending]
    simp [q.pendingUpdate]

include hmode

theorem judgeAnchorWrite_store_of_quiet {c : Configuration} (hkind : w.kind = .store c) (first : LineAnswer) :
    judgeAnchorWrite w first .timedOut s =
      logAnchorFault w.target first .timedOut { s with anchor := { s.anchor with write := none } } := by
  rw [judgeAnchorWrite_of_store hkind q.pendingUpdate, judgeStore_of_failed w c (by simp), if_pos (by exact hmode)]

/-- What the end of a second line does to the anchor write in flight (R115, R141, R145). -/
theorem judgeAnchorWrite_endKeeps (first : LineAnswer) : s.EndKeeps (judgeAnchorWrite w first .timedOut s) := by
  cases hkind : w.kind with
  | update tail sequence ends =>
    rw [judgeAnchorWrite_update_of_quiet q hkind]
    exact ((setAnchorWrite_endKeeps s none true).trans (logAnchorFault_endKeeps _ _ _ _)).trans
      (raise_endKeeps rfl rfl _)
  | store c =>
    rw [judgeAnchorWrite_store_of_quiet q hmode hkind]
    exact (setAnchorWrite_endKeeps s none s.anchor.stale).trans (logAnchorFault_endKeeps _ _ _ _)

theorem anchorLineAnswered_endKeeps (second : Bool) : s.EndKeeps (anchorLineAnswered second .timedOut s) := by
  unfold anchorLineAnswered
  split
  · exact .refl s
  · split
    · split
      · exact judgeAnchorWrite_endKeeps q hmode _
      · exact .refl s
    · exact setAnchorWrite_endKeeps s _ s.anchor.stale

theorem endOwner_endKeeps (o : TimeoutOwner) : s.EndKeeps (endOwner s o) := by
  cases o with
  | current => exact currentReadAnswered_endKeeps s
  | slot i => exact fetchFaulted_endKeeps i s
  | anchor second => exact anchorLineAnswered_endKeeps q hmode second
  | nobody => exact .refl s

end

/-! ### The host port -/

theorem discardSlot_deferred (i j : Fin 4) (s : State) :
    (discardSlot i s).host.deferred[j] = if j = i then none else s.host.deferred[j] := by
  unfold discardSlot
  split
  · next hnone =>
    split_ifs with hj
    · rw [hj]
      exact hnone
    · rfl
  · split_ifs with hj
    · rw [hj]
      exact Vector.getElem_set_self i.isLt
    · exact Vector.getElem_set_ne i.isLt j.isLt fun hval => hj (Fin.ext hval.symm)

theorem currentReadAnswered_deferred (s : State) :
    (currentReadAnswered .fault s).host.deferred = s.host.deferred := by
  unfold currentReadAnswered
  split <;> rfl

theorem discardSlot_current (i : Fin 4) (s : State) : (discardSlot i s).host.current = s.host.current := by
  unfold discardSlot
  split <;> rfl

theorem discardSlot_answer (i : Fin 4) (s : State) : (discardSlot i s).host.answer = s.host.answer := by
  unfold discardSlot
  split <;> rfl

theorem fetchFaulted_deferred (i j : Fin 4) (s : State) :
    (fetchFaulted i s).host.deferred[j] = if j = i then none else s.host.deferred[j] := by
  rw [← discardSlot_deferred]
  unfold fetchFaulted
  split <;> rfl

section
variable {s : State} (q : s.Quiet) (hmode : s.modes.mode = .halted)
include q hmode

/-- The end of an anchor line reaches the anchor unit, the events and the log alone. -/
theorem anchorLineAnswered_host (second : Bool) : (anchorLineAnswered second .timedOut s).host = s.host := by
  have hlog (c : Copy) (first : LineAnswer) (t : State) : (logAnchorFault c first .timedOut t).host = t.host := by
    unfold logAnchorFault
    split_ifs <;> rfl
  unfold anchorLineAnswered
  split
  · rfl
  · next w _ =>
    split
    · split
      · cases hkind : w.kind with
        | update tail sequence ends =>
          rw [judgeAnchorWrite_update_of_quiet q hkind]
          exact hlog _ _ _
        | store c =>
          rw [judgeAnchorWrite_store_of_quiet q hmode hkind]
          exact hlog _ _ _
      · rfl
    · rfl

theorem endOwner_deferred (i : Fin 4) (o : TimeoutOwner) :
    (o = .slot i → (endOwner s o).host.deferred[i] = none) ∧
      (o ≠ .slot i → (endOwner s o).host.deferred[i] = s.host.deferred[i]) := by
  cases o with
  | current =>
    refine ⟨nofun, fun _ => ?_⟩
    rw [endOwner, currentReadAnswered_deferred]
  | slot j =>
    refine ⟨fun h => ?_, fun h => ?_⟩
    · obtain rfl := TimeoutOwner.slot.inj h
      exact (fetchFaulted_deferred j j s).trans (if_pos rfl)
    · exact (fetchFaulted_deferred j i s).trans (if_neg fun hij => h (congrArg _ hij.symm))
  | anchor second =>
    refine ⟨nofun, fun _ => ?_⟩
    rw [endOwner, anchorLineAnswered_host q hmode]
  | nobody => exact ⟨nofun, fun _ => rfl⟩

/-- With no request current nothing is answered. -/
theorem endOwner_of_free (h : s.host.current = none) (o : TimeoutOwner) :
    (endOwner s o).host.current = none ∧ (endOwner s o).host.answer = s.host.answer := by
  cases o with
  | current => simp [endOwner, currentReadAnswered, h]
  | slot i =>
    have hwait : s.awaitsSlot i = false := by simp [State.awaitsSlot, h]
    rw [endOwner, fetchFaulted, if_neg (by simp [hwait]), discardSlot_current, discardSlot_answer]
    exact ⟨h, rfl⟩
  | anchor second =>
    rw [endOwner, anchorLineAnswered_host q hmode]
    exact ⟨h, rfl⟩
  | nobody => exact ⟨h, rfl⟩

end

/-- The end of the request ends the read `r` of the current request (R127, R131). -/
def TimeoutOwner.EndsRead (o : TimeoutOwner) (r : HostRequest) : Prop :=
  o = .current ∨ ∃ i : Fin 4, r.wait = .slotWait i ∧ o = .slot i

section
variable {s : State} {r : HostRequest} (hr : s.host.current = some r) {o : TimeoutOwner}
include hr

theorem endOwner_of_ends (h : o.EndsRead r) :
    (endOwner s o).host.current = none ∧ (endOwner s o).host.answer = some (.fault .memory) := by
  obtain rfl | ⟨i, hwait, rfl⟩ := h
  · simp [endOwner, currentReadAnswered, hr, answerHost]
  · have hawaits : s.awaitsSlot i = true := (s.awaitsSlot_iff i).mpr ⟨r, hr, hwait⟩
    rw [endOwner, fetchFaulted, if_pos hawaits]
    exact ⟨rfl, rfl⟩

theorem endOwner_of_spares (q : s.Quiet) (hmode : s.modes.mode = .halted) (h : ¬o.EndsRead r) :
    (endOwner s o).host.current = some r := by
  cases o with
  | current => exact absurd (.inl rfl) h
  | slot i =>
    have hwait : s.awaitsSlot i = false := by
      rw [← Bool.not_eq_true, s.awaitsSlot_iff]
      rintro ⟨r', hr', hwait⟩
      cases hr.symm.trans hr'
      exact h (.inr ⟨i, hwait, rfl⟩)
    rw [endOwner, fetchFaulted, if_neg (by simp [hwait]), discardSlot_current]
    exact hr
  | anchor second =>
    rw [endOwner, anchorLineAnswered_host q hmode]
    exact hr
  | nobody => exact hr

end

/-! ### The anchor unit and the log -/

/-- The line of an anchor write that the end of a request ends (R115). -/
def TimeoutOwner.anchorLine : TimeoutOwner → Option Bool
  | .anchor second => some second
  | _ => none

theorem TimeoutOwner.anchorLine_eq_some (o : TimeoutOwner) (second : Bool) :
    o.anchorLine = some second ↔ o = .anchor second := by
  cases o <;> simp [TimeoutOwner.anchorLine]

theorem endOwner_anchor_of_none {o : TimeoutOwner} (h : o.anchorLine = none) (s : State) :
    (endOwner s o).anchor = s.anchor := by
  cases o with
  | current =>
    rw [endOwner]
    simp
  | slot i =>
    rw [endOwner]
    simp
  | anchor second => simp [TimeoutOwner.anchorLine] at h
  | nobody => rfl

theorem currentReadAnswered_log (s : State) :
    (currentReadAnswered .fault s).management.log = s.management.log := by
  unfold currentReadAnswered
  split <;> rfl

theorem fetchFaulted_log (i : Fin 4) (s : State) : (fetchFaulted i s).management.log = s.management.log := by
  unfold fetchFaulted discardSlot
  (repeat' split) <;> rfl

theorem endOwner_log_of_none {o : TimeoutOwner} (h : o.anchorLine = none) (s : State) :
    (endOwner s o).management.log = s.management.log := by
  cases o with
  | current => exact currentReadAnswered_log s
  | slot i => exact fetchFaulted_log i s
  | anchor second => simp [TimeoutOwner.anchorLine] at h
  | nobody => rfl

theorem endOwner_first {s : State} {w : AnchorWrite} (hw : s.anchor.write = some w) :
    endOwner s (.anchor false) =
      { s with anchor := { s.anchor with write := some { w with first := some .timedOut } } } := by
  simp only [endOwner, anchorLineAnswered, hw, Bool.false_eq_true, if_false]
  rfl

theorem endOwner_second {s : State} {w : AnchorWrite} {first : LineAnswer} (hw : s.anchor.write = some w)
    (hfirst : w.first = some first) : endOwner s (.anchor true) = judgeAnchorWrite w first .timedOut s := by
  simp only [endOwner, anchorLineAnswered, hw, hfirst, if_true]

section
variable {s : State} (q : s.Quiet) (hmode : s.modes.mode = .halted)
include q hmode

/-- With no first line answered FAULT the end of a second line logs nothing (R115; log entry 11). -/
theorem judgeAnchorWrite_log {w : AnchorWrite} {first : LineAnswer} (hfirst : first ≠ .fault) :
    (judgeAnchorWrite w first .timedOut s).management.log = s.management.log ∧
      (judgeAnchorWrite w first .timedOut s).anchor.write = none := by
  cases hkind : w.kind with
  | update tail sequence ends =>
    rw [judgeAnchorWrite_update_of_quiet q hkind, logAnchorFault_of_none _ hfirst (by simp)]
    exact ⟨rfl, rfl⟩
  | store c =>
    rw [judgeAnchorWrite_store_of_quiet q hmode hkind, logAnchorFault_of_none _ hfirst (by simp)]
    exact ⟨rfl, rfl⟩

theorem endOwner_log (hn : s.NoFaultedFirstLine) (o : TimeoutOwner) :
    (endOwner s o).management.log = s.management.log ∧ (endOwner s o).NoFaultedFirstLine := by
  cases hline : o.anchorLine with
  | none =>
    refine ⟨endOwner_log_of_none hline s, ?_⟩
    rw [State.NoFaultedFirstLine, endOwner_anchor_of_none hline]
    exact hn
  | some second =>
    obtain rfl := (o.anchorLine_eq_some second).mp hline
    cases hw : s.anchor.write with
    | none =>
      have hsame : endOwner s (.anchor second) = s := by simp [endOwner, anchorLineAnswered, hw]
      rw [hsame]
      exact ⟨rfl, hn⟩
    | some w =>
      cases second with
      | false =>
        rw [endOwner_first hw]
        refine ⟨rfl, fun w' hw' => ?_⟩
        obtain rfl := Option.some.inj hw'
        simp
      | true =>
        cases hfirst : w.first with
        | none =>
          have hsame : endOwner s (.anchor true) = s := by simp [endOwner, anchorLineAnswered, hw, hfirst]
          rw [hsame]
          exact ⟨rfl, hn⟩
        | some first =>
          rw [endOwner_second hw hfirst]
          obtain ⟨hlog, hwrite⟩ := judgeAnchorWrite_log q hmode (w := w) fun hfault => hn w hw (hfault ▸ hfirst)
          exact ⟨hlog, fun w' hw' => absurd (hwrite.symm.trans hw') (by simp)⟩

/-- The end of a second line takes the anchor write out of flight (R115, R141, R145). -/
theorem endOwner_second_anchor {w : AnchorWrite} (hw : s.anchor.write = some w) (hfirst : w.first ≠ none) :
    (endOwner s (.anchor true)).anchor.write = none ∧
    (∀ tail sequence ends, w.kind = .update tail sequence ends →
      (endOwner s (.anchor true)).anchor.stale = true ∧
        (endOwner s (.anchor true)).management.flags.getLsbD 11 = true) ∧
    (∀ c, w.kind = .store c → (endOwner s (.anchor true)).anchor.stale = s.anchor.stale) := by
  obtain ⟨first, hfirst⟩ := Option.ne_none_iff_exists'.mp hfirst
  have hanchor (c : Copy) (t : State) : (logAnchorFault c first .timedOut t).anchor = t.anchor := by
    unfold logAnchorFault
    split_ifs <;> rfl
  rw [endOwner_second hw hfirst]
  cases hkind : w.kind with
  | update tail sequence ends =>
    rw [judgeAnchorWrite_update_of_quiet q hkind]
    exact ⟨congrArg AnchorUnit.write (hanchor _ _),
      fun _ _ _ _ => ⟨congrArg AnchorUnit.stale (hanchor _ _), raise_getLsbD_self .anchorStale _⟩, nofun⟩
  | store c =>
    rw [judgeAnchorWrite_store_of_quiet q hmode hkind, hanchor]
    exact ⟨rfl, nofun, fun _ _ => rfl⟩

end

/-! ### The ends of all requests, one after another -/

/-- A state in HALTED with no journal work left. -/
structure State.QuietHalt (s : State) : Prop where
  mode : s.modes.mode = .halted
  quiet : s.Quiet

theorem endOwner_quietHalt {s : State} (h : s.QuietHalt) (o : TimeoutOwner) :
    (endOwner s o).QuietHalt ∧ (endOwner s o).modes.cause = s.modes.cause := by
  have hkeeps : s.KeepsHalt (endOwner s o) := by
    cases o with
    | current => exact State.KeepsHalt.of_eq (t := currentReadAnswered .fault s)
    | slot i => exact State.KeepsHalt.of_eq (t := fetchFaulted i s)
    | anchor second => exact anchorLineAnswered_keepsHalt second .timedOut s
    | nobody => exact .refl s
  have hquiet := s.haltQuiet_iff.mpr fun _ => h.quiet
  obtain ⟨hmode, hcause⟩ := hkeeps.stands hquiet h.mode
  exact ⟨⟨hmode, (State.haltQuiet_iff _).mp (hkeeps.quiet hquiet) hmode⟩, hcause⟩

/-- What the ends of the requests of `owners` leave as it was. -/
theorem foldl_endOwner_keeps (owners : List TimeoutOwner) {s : State} (h : s.QuietHalt) :
    (owners.foldl endOwner s).QuietHalt ∧ (owners.foldl endOwner s).modes.cause = s.modes.cause ∧
      s.EndKeeps (owners.foldl endOwner s) := by
  induction owners generalizing s with
  | nil => exact ⟨h, rfl, .refl s⟩
  | cons o owners ih =>
    obtain ⟨hquiet, hcause⟩ := endOwner_quietHalt h o
    obtain ⟨hquiet', hcause', hkeeps⟩ := ih hquiet
    exact ⟨hquiet', hcause'.trans hcause, (endOwner_endKeeps h.quiet h.mode o).trans hkeeps⟩

theorem foldl_endOwner_deferred (owners : List TimeoutOwner) {s : State} (h : s.QuietHalt) (i : Fin 4) :
    (.slot i ∈ owners → (owners.foldl endOwner s).host.deferred[i] = none) ∧
      (.slot i ∉ owners → (owners.foldl endOwner s).host.deferred[i] = s.host.deferred[i]) := by
  induction owners generalizing s with
  | nil => exact ⟨fun hmem => absurd hmem List.not_mem_nil, fun _ => rfl⟩
  | cons o owners ih =>
    obtain ⟨hends, hspares⟩ := ih (endOwner_quietHalt h o).1
    obtain ⟨hend, hspare⟩ := endOwner_deferred h.quiet h.mode i o
    refine ⟨fun hmem => ?_, fun hmem => ?_⟩
    · by_cases hrest : .slot i ∈ owners
      · exact hends hrest
      · have ho : o = .slot i := ((List.mem_cons.mp hmem).resolve_right hrest).symm
        exact (hspares hrest).trans (hend ho)
    · obtain ⟨hne, hrest⟩ := not_or.mp (mt List.mem_cons.mpr hmem)
      exact (hspares hrest).trans (hspare (Ne.symm hne))

theorem foldl_endOwner_of_free (owners : List TimeoutOwner) {s : State} (h : s.QuietHalt)
    (hfree : s.host.current = none) :
    (owners.foldl endOwner s).host.current = none ∧ (owners.foldl endOwner s).host.answer = s.host.answer := by
  induction owners generalizing s with
  | nil => exact ⟨hfree, rfl⟩
  | cons o owners ih =>
    obtain ⟨hfree', hanswer⟩ := endOwner_of_free h.quiet h.mode hfree o
    obtain ⟨hfree'', hanswer'⟩ := ih (endOwner_quietHalt h o).1 hfree'
    exact ⟨hfree'', hanswer'.trans hanswer⟩

theorem foldl_endOwner_of_ends (owners : List TimeoutOwner) {s : State} (h : s.QuietHalt) {r : HostRequest}
    (hr : s.host.current = some r) (hends : ∃ o ∈ owners, o.EndsRead r) :
    (owners.foldl endOwner s).host.current = none ∧
      (owners.foldl endOwner s).host.answer = some (.fault .memory) := by
  induction owners generalizing s with
  | nil => simp at hends
  | cons o owners ih =>
    have hquiet := (endOwner_quietHalt h o).1
    by_cases ho : o.EndsRead r
    · obtain ⟨hfree, hanswer⟩ := endOwner_of_ends hr ho
      obtain ⟨hfree', hanswer'⟩ := foldl_endOwner_of_free owners hquiet hfree
      exact ⟨hfree', hanswer'.trans hanswer⟩
    · refine ih hquiet (endOwner_of_spares hr h.quiet h.mode ho) ?_
      obtain ⟨o', ho', hends'⟩ := hends
      obtain rfl | hrest := List.mem_cons.mp ho'
      · exact absurd hends' ho
      · exact ⟨o', hrest, hends'⟩

theorem foldl_endOwner_log (owners : List TimeoutOwner) {s : State} (h : s.QuietHalt) (hn : s.NoFaultedFirstLine) :
    (owners.foldl endOwner s).management.log = s.management.log := by
  induction owners generalizing s with
  | nil => rfl
  | cons o owners ih =>
    obtain ⟨hlog, hn'⟩ := endOwner_log h.quiet h.mode hn o
    exact (ih (endOwner_quietHalt h o).1 hn').trans hlog

theorem foldl_endOwner_anchor_of_none {owners : List TimeoutOwner}
    (hlines : owners.filterMap TimeoutOwner.anchorLine = []) (s : State) :
    (owners.foldl endOwner s).anchor = s.anchor := by
  induction owners generalizing s with
  | nil => rfl
  | cons o owners ih =>
    have hnone := List.filterMap_eq_nil_iff.mp hlines
    exact (ih (List.filterMap_eq_nil_iff.mpr fun x hx => hnone x (List.mem_cons_of_mem _ hx)) _).trans
      (endOwner_anchor_of_none (hnone o List.mem_cons_self) s)

/-- The ends up to the first anchor line leave the anchor unit alone. -/
theorem foldl_endOwner_anchor_of_cons {owners : List TimeoutOwner} {line : Bool} {lines : List Bool}
    (hlines : owners.filterMap TimeoutOwner.anchorLine = line :: lines) {s : State} (h : s.QuietHalt) :
    ∃ (t : State) (rest : List TimeoutOwner), t.QuietHalt ∧ t.anchor = s.anchor ∧
      rest.filterMap TimeoutOwner.anchorLine = lines ∧
      owners.foldl endOwner s = rest.foldl endOwner (endOwner t (.anchor line)) := by
  obtain ⟨before, o, rest, rfl, hbefore, ho, hrest⟩ := List.filterMap_eq_cons_iff.mp hlines
  obtain rfl := (o.anchorLine_eq_some line).mp ho
  refine ⟨before.foldl endOwner s, rest, (foldl_endOwner_keeps before h).1,
    foldl_endOwner_anchor_of_none (List.filterMap_eq_nil_iff.mpr hbefore) s, hrest, ?_⟩
  rw [List.foldl_append, List.foldl_cons]

section
variable {owners : List TimeoutOwner} {s : State} (h : s.QuietHalt) {w : AnchorWrite} (hw : s.anchor.write = some w)
include h hw

theorem foldl_endOwner_first (hlines : owners.filterMap TimeoutOwner.anchorLine = [false]) :
    (owners.foldl endOwner s).anchor.write = some { w with first := some .timedOut } ∧
      (owners.foldl endOwner s).anchor.stale = s.anchor.stale := by
  obtain ⟨t, rest, -, hanchor, hrest, hfold⟩ := foldl_endOwner_anchor_of_cons hlines h
  have hstale : t.anchor.stale = s.anchor.stale := congrArg AnchorUnit.stale hanchor
  rw [hfold, foldl_endOwner_anchor_of_none hrest, endOwner_first (by rw [hanchor]; exact hw)]
  exact ⟨rfl, hstale⟩

/-- The second line ended with its first line answered, or ended before it (R115, R141, R145). -/
theorem foldl_endOwner_second
    (hlines : (owners.filterMap TimeoutOwner.anchorLine = [true] ∧ w.first ≠ none) ∨
      owners.filterMap TimeoutOwner.anchorLine = [false, true]) :
    (owners.foldl endOwner s).anchor.write = none ∧
    (∀ tail sequence ends, w.kind = .update tail sequence ends →
      (owners.foldl endOwner s).anchor.stale = true ∧
        (owners.foldl endOwner s).management.flags.getLsbD 11 = true) ∧
    (∀ c, w.kind = .store c → (owners.foldl endOwner s).anchor.stale = s.anchor.stale) := by
  have hone {owners : List TimeoutOwner} {s : State} (h : s.QuietHalt) {w : AnchorWrite}
      (hw : s.anchor.write = some w) (hlines : owners.filterMap TimeoutOwner.anchorLine = [true])
      (hfirst : w.first ≠ none) :
      (owners.foldl endOwner s).anchor.write = none ∧
      (∀ tail sequence ends, w.kind = .update tail sequence ends →
        (owners.foldl endOwner s).anchor.stale = true ∧
          (owners.foldl endOwner s).management.flags.getLsbD 11 = true) ∧
      (∀ c, w.kind = .store c → (owners.foldl endOwner s).anchor.stale = s.anchor.stale) := by
    obtain ⟨t, rest, ht, hanchor, hrest, hfold⟩ := foldl_endOwner_anchor_of_cons hlines h
    obtain ⟨hwrite, hupdate, hstore⟩ :=
      endOwner_second_anchor ht.quiet ht.mode (by rw [hanchor]; exact hw) hfirst
    obtain ⟨-, -, hkeeps⟩ := foldl_endOwner_keeps rest (endOwner_quietHalt ht (.anchor true)).1
    rw [hfold, foldl_endOwner_anchor_of_none hrest]
    refine ⟨hwrite, fun tail sequence ends hkind => ?_, fun c hkind => ?_⟩
    · obtain ⟨hstale, hflag⟩ := hupdate tail sequence ends hkind
      exact ⟨hstale, hkeeps.flags 11 hflag⟩
    · exact (hstore c hkind).trans (congrArg AnchorUnit.stale hanchor)
  obtain ⟨hlines, hfirst⟩ | hlines := hlines
  · exact hone h hw hlines hfirst
  · obtain ⟨t, rest, ht, hanchor, hrest, hfold⟩ := foldl_endOwner_anchor_of_cons hlines h
    have hfirst := endOwner_first (s := t) (w := w) (by rw [hanchor]; exact hw)
    have hsecond := hone (owners := rest) (endOwner_quietHalt ht (.anchor false)).1
      (w := { w with first := some .timedOut }) (by rw [hfirst]) hrest (by simp)
    rw [hfold]
    refine ⟨hsecond.1, hsecond.2.1, fun c hkind => (hsecond.2.2 c hkind).trans ?_⟩
    have hstale : t.anchor.stale = s.anchor.stale := congrArg AnchorUnit.stale hanchor
    rw [hfirst]
    exact hstale

end

end Sys2Proof.Machine

/-! The halt that a timeout reports, and the settlement of O26 (R108, R115, R116, R154). -/

namespace Sys2Proof.Machine

-- One theorem at a time: the proofs below would otherwise wait for one another in many threads.
set_option Elab.async false

/-! ### The halt -/

/-- The owners of the ISSUED requests, oldest first (R115). -/
def State.timedOutOwners (s : State) : List TimeoutOwner :=
  (s.memory.queue.filter fun x => x.issued.isSome).map fun x => x.source.timeoutOwner

/-- The owner once the current request has been answered: its read is abandoned (R128). -/
def TimeoutOwner.dropped : TimeoutOwner → TimeoutOwner
  | .current => .nobody
  | o => o

theorem timeoutOwner_owned (x : Source) : (x.owned .abandoned).timeoutOwner = x.timeoutOwner.dropped := by
  cases x with
  | hostRead q owner => cases owner <;> rfl
  | deferredFetch i abandoned => cases abandoned <;> rfl
  | _ => rfl

theorem TimeoutOwner.dropped_eq_slot (o : TimeoutOwner) (i : Fin 4) : o.dropped = .slot i ↔ o = .slot i := by
  cases o <;> simp [TimeoutOwner.dropped]

theorem TimeoutOwner.anchorLine_dropped (o : TimeoutOwner) : o.dropped.anchorLine = o.anchorLine := by
  cases o <;> rfl

/-- What a halt leaves as it was, beside what `State.EndKeeps` says (R154). -/
structure State.HaltKeeps (s t : State) : Prop where
  keeps : s.EndKeeps t
  log : t.management.log = s.management.log
  write : t.anchor.write = s.anchor.write
  stale : t.anchor.stale = s.anchor.stale
  deferred : t.host.deferred = s.host.deferred
  marks : t.issueMarks = s.issueMarks
  owners : t.timedOutOwners = s.timedOutOwners ∨ t.timedOutOwners = s.timedOutOwners.map TimeoutOwner.dropped
  reads : ∀ r, s.host.current = some r → s.modes.freeze = false → r.kind = .read →
    t.host.current = some r ∧ t.timedOutOwners = s.timedOutOwners

theorem State.HaltKeeps.refl (s : State) : s.HaltKeeps s :=
  ⟨.refl s, rfl, rfl, rfl, rfl, rfl, .inl rfl, fun _ hr _ _ => ⟨hr, rfl⟩⟩

theorem rejudge_eq_or (s : State) : rejudge s = s ∨ ∃ a, rejudge s = answerWaiting a s := by
  unfold rejudge
  split
  · exact .inl rfl
  · split
    · exact .inr ⟨_, rfl⟩
    · split
      · exact .inr ⟨_, rfl⟩
      · exact .inr ⟨_, rfl⟩
      · exact .inl rfl
      · exact .inl rfl

theorem answerWaiting_owners (a : HostAnswer) (s : State) :
    (answerWaiting a s).timedOutOwners = s.timedOutOwners.map TimeoutOwner.dropped := by
  have hqueue : (answerWaiting a s).memory.queue =
      s.memory.queue.map fun e => { e with source := e.source.owned .abandoned } := by
    rw [answerWaiting, ownCurrentRead_eq]
    cases a <;> rfl
  rw [State.timedOutOwners, hqueue, List.filter_map, List.map_map, State.timedOutOwners, List.map_map]
  refine List.map_congr_left fun e _ => ?_
  exact timeoutOwner_owned e.source

theorem answerWaiting_haltKeeps (a : HostAnswer) (s : State) :
    s.EndKeeps (answerWaiting a s) ∧ (answerWaiting a s).management.log = s.management.log ∧
      (answerWaiting a s).anchor = s.anchor ∧ (answerWaiting a s).host.deferred = s.host.deferred := by
  refine ⟨.of_eq ?_ ?_ ?_ ?_ ?_ ?_ ?_ ?_, ?_, ?_, ?_⟩ <;> cases a <;> rfl

/-- A read passes on in HALTED (R125). -/
theorem judge_read_of_halted {s : State} (h : s.modes.mode = .halted) (cls : AccessClass) :
    s.judge .read cls = .forward := by
  cases cls <;> simp [State.judge, h]

theorem rejudge_haltKeeps {s : State} (hmode : s.modes.mode = .halted) : s.HaltKeeps (rejudge s) where
  keeps := by
    obtain h | ⟨a, h⟩ := rejudge_eq_or s <;> rw [h]
    · exact .refl s
    · exact (answerWaiting_haltKeeps a s).1
  log := by
    obtain h | ⟨a, h⟩ := rejudge_eq_or s <;> rw [h]
    exact (answerWaiting_haltKeeps a s).2.1
  write := by simp
  stale := by simp
  deferred := by
    obtain h | ⟨a, h⟩ := rejudge_eq_or s <;> rw [h]
    exact (answerWaiting_haltKeeps a s).2.2.2
  marks := (rejudge_within s).marks
  owners := by
    obtain h | ⟨a, h⟩ := rejudge_eq_or s <;> rw [h]
    · exact .inl rfl
    · exact .inr (answerWaiting_owners a s)
  reads := fun r hr hfreeze hread => by
    have hpass : rejudge s = s := by
      simp [rejudge, hr, hfreeze, hread, judge_read_of_halted hmode]
    rw [hpass]
    exact ⟨hr, rfl⟩

theorem halt_haltKeeps (cause : Cause) (s : State) : s.HaltKeeps (halt cause s) := by
  by_cases hmode : s.modes.mode = .halted
  · rw [halt_of_halted hmode]
    exact .refl s
  · rw [halt_of_running hmode]
    obtain ⟨hkeeps, hlog, hwrite, hstale, hdeferred, hmarks, howners, hreads⟩ :=
      rejudge_haltKeeps (s := haltBlocks (s.setModes { s.modes with mode := .halted, cause := cause })) rfl
    have hblocks : s.EndKeeps (haltBlocks (s.setModes { s.modes with mode := .halted, cause := cause })) :=
      ⟨rfl, rfl, rfl, rfl, rfl, rfl, rfl, rfl, rfl, rfl, rfl, rfl, rfl, rfl, fun _ => id, rfl, rfl⟩
    exact ⟨(hblocks.trans hkeeps).trans (raise_endKeeps rfl rfl _), hlog, hwrite, hstale, hdeferred, hmarks, howners,
      hreads⟩

/-! ### The timeout -/

/-- The state in which a timeout ends the ISSUED requests: one entry logged, the bridge halted, and only the WAITING
requests in the queue (R115, R116). -/
def State.timeoutHalt (s : State) (e : MemoryEntry) : State :=
  halt .memoryTimeout (logError .memoryTimeout none (some e.line) e.source.ringSlot s)

/-- Only the WAITING requests stay in the queue (R115). -/
def State.waitingOnly (s : State) : State :=
  s.setMemory { s.memory with queue := s.memory.queue.filter fun x => x.issued.isNone }

theorem timeOut_of_oldest {s : State} {e : MemoryEntry} (h : s.oldestIssued = some e) :
    timeOut s = (s.timeoutHalt e).timedOutOwners.foldl endOwner (s.timeoutHalt e).waitingOnly := by
  rw [timeOut, h]
  exact foldl_endTimedOut_eq _ _

/-- The facts of a timeout up to the ends of the requests. -/
structure State.TimeoutStarts (s : State) (e : MemoryEntry) (t : State) : Prop where
  halted : t.QuietHalt
  keeps : s.EndKeeps t
  cause : t.modes.cause = if s.modes.mode = .halted then s.modes.cause else .memoryTimeout
  raised : s.modes.mode ≠ .halted → t.management.flags.getLsbD 12 = true
  logged : t.management.flags.getLsbD 13 = true
  log : s.management.log.length < 8 →
    t.management.log = s.management.log ++
      [{ kind := .memoryTimeout, epoch := none, line := some e.line, slot := e.source.ringSlot, mode := s.modes.mode }]
  write : t.anchor.write = s.anchor.write
  stale : t.anchor.stale = s.anchor.stale
  deferred : t.host.deferred = s.host.deferred

theorem timeoutHalt_haltKeeps (s : State) (e : MemoryEntry) :
    (logError .memoryTimeout none (some e.line) e.source.ringSlot s).HaltKeeps (s.timeoutHalt e) :=
  halt_haltKeeps _ _

theorem timeoutHalt_starts {s : State} (hquiet : s.HaltQuiet) (e : MemoryEntry) :
    s.TimeoutStarts e (s.timeoutHalt e).waitingOnly := by
  obtain ⟨hkeeps, hlog, hwrite, hstale, hdeferred, -, -, -⟩ := timeoutHalt_haltKeeps s e
  have hkeepsHalt := logError_halt_keepsHalt .memoryTimeout .memoryTimeout none (some e.line) e.source.ringSlot s
  have hmode : (s.timeoutHalt e).modes.mode = .halted := halt_mode _ _
  have hq : (s.timeoutHalt e).Quiet := (State.haltQuiet_iff _).mp (hkeepsHalt.quiet hquiet) hmode
  have hlogged : (logError .memoryTimeout none (some e.line) e.source.ringSlot s).management.flags.getLsbD 13 = true :=
    raise_getLsbD_self .errorLogged _
  constructor
  case halted => exact ⟨hmode, ⟨hq.1, hq.2, hq.3, hq.4, hq.5, hq.6, hq.7, hq.8, hq.9, hq.10, hq.11, hq.12, hq.13, hq.14,
    hq.15, hq.16, hq.17⟩⟩
  case keeps =>
    refine ((logError_endKeeps _ _ _ _ s).trans hkeeps).trans ?_
    exact .of_eq rfl rfl rfl rfl rfl rfl rfl rfl
  case cause =>
    by_cases hs : s.modes.mode = .halted
    · rw [if_pos hs]
      exact (hkeepsHalt.stands hquiet hs).2
    · rw [if_neg hs]
      have hrun : (logError .memoryTimeout none (some e.line) e.source.ringSlot s).modes.mode ≠ .halted := hs
      change (s.timeoutHalt e).modes.cause = .memoryTimeout
      rw [State.timeoutHalt, halt_of_running hrun]
      simp [haltBlocks]
  case raised =>
    intro hs
    have hrun : (logError .memoryTimeout none (some e.line) e.source.ringSlot s).modes.mode ≠ .halted := hs
    change (s.timeoutHalt e).management.flags.getLsbD 12 = true
    rw [State.timeoutHalt, halt_of_running hrun]
    exact raise_getLsbD_self .halted _
  case logged => exact hkeeps.flags 13 hlogged
  case log =>
    intro hroom
    refine hlog.trans ?_
    rw [logError, raise_log]
    exact congrArg ManagementPort.log (ManagementPort.appendError_of_room hroom _)
  case write => exact hwrite
  case stale => exact hstale
  case deferred => exact hdeferred

/-! ### The requests that stay -/

theorem countP_isNone (s : State) :
    s.memory.queue.countP (fun x => x.issued.isNone) = s.issueMarks.countP fun b => !b := by
  rw [State.issueMarks, List.countP_map]
  refine List.countP_congr fun x _ => ?_
  cases hissued : x.issued <;> simp [hissued]

theorem timeOut_marks {s : State} {e : MemoryEntry} (h : s.oldestIssued = some e) :
    (timeOut s).issueMarks = (s.timeoutHalt e).waitingOnly.issueMarks := by
  rw [timeOut, h]
  exact (foldl_endTimedOut_within _ _).marks

theorem timeOut_waiting {s : State} {e : MemoryEntry} (h : s.oldestIssued = some e) :
    (∀ x ∈ (timeOut s).memory.queue, x.issued = none) ∧
      (timeOut s).memory.queue.length = s.memory.queue.countP (fun x => x.issued.isNone) := by
  have hmarks := timeOut_marks h
  constructor
  · intro x hx
    have hmem : x.issued.isSome ∈ (timeOut s).issueMarks := List.mem_map_of_mem hx
    rw [hmarks] at hmem
    obtain ⟨y, hy, hxy⟩ := List.mem_map.mp hmem
    have hnone : y.issued.isNone = true := (List.mem_filter.mp hy).2
    have hisSome : y.issued.isSome = false := by rw [Option.isNone_iff_eq_none.mp hnone]; rfl
    rw [hisSome] at hxy
    cases hissued : x.issued with
    | none => rfl
    | some t =>
      rw [hissued] at hxy
      exact absurd hxy Bool.false_ne_true
  · have hlength : (timeOut s).memory.queue.length = (s.timeoutHalt e).waitingOnly.memory.queue.length := by
      have hlength := congrArg List.length hmarks
      rwa [State.issueMarks, State.issueMarks, List.length_map, List.length_map] at hlength
    have hcount : (s.timeoutHalt e).waitingOnly.memory.queue.length =
        (s.timeoutHalt e).memory.queue.countP (fun x => x.issued.isNone) := List.countP_eq_length_filter.symm
    rw [hlength, hcount, countP_isNone, (timeoutHalt_haltKeeps s e).marks, countP_isNone]
    rfl

/-! ### The indications after a halt -/

theorem updateLow_endKeeps (s : State) :
    s.EndKeeps (updateLow s) ∧ (updateLow s).management.log = s.management.log := by
  have hlow : s.EndKeeps (s.setRing { s.ring with lowSpace := s.lowNow }) :=
    ⟨rfl, rfl, rfl, rfl, rfl, rfl, rfl, rfl, rfl, rfl, rfl, rfl, rfl, rfl, fun _ => id, rfl, rfl⟩
  unfold updateLow
  split
  · exact ⟨hlow.trans (raise_endKeeps rfl rfl _), rfl⟩
  · exact ⟨hlow, rfl⟩

/-- Outside ACTIVE the space indications touch no block but the ring manager and the events (R36, R37). -/
theorem updateSpace_of_halted {s : State} (h : s.modes.mode = .halted) :
    s.EndKeeps (updateSpace s) ∧ (updateSpace s).management.log = s.management.log ∧
      (updateSpace s).modes = s.modes ∧ (updateSpace s).memory = s.memory ∧ (updateSpace s).host = s.host ∧
      (updateSpace s).anchor = s.anchor := by
  have hclear (t : State) (ht : t.modes.mode = .halted) :
      t.EndKeeps (updateBlocked t) ∧ (updateBlocked t).management.log = t.management.log ∧
        (updateBlocked t).modes = t.modes ∧ (updateBlocked t).memory = t.memory ∧ (updateBlocked t).host = t.host ∧
        (updateBlocked t).anchor = t.anchor := by
    rw [updateBlocked_of_clear (by simp [State.blockedNow, ht])]
    exact ⟨⟨rfl, rfl, rfl, rfl, rfl, rfl, rfl, rfl, rfl, rfl, rfl, rfl, rfl, rfl, fun _ => id, rfl, rfl⟩, rfl, rfl, rfl,
      rfl, rfl⟩
  obtain ⟨hkeeps, hlog⟩ := updateLow_endKeeps s
  obtain ⟨hkeeps', hlog', hmodes, hmemory, hhost, hanchor⟩ := hclear (updateLow s) (by simp [h])
  obtain ⟨hkeeps'', hlog''⟩ := updateLow_endKeeps (updateBlocked (updateLow s))
  refine ⟨(hkeeps.trans hkeeps').trans hkeeps'', hlog''.trans (hlog'.trans hlog), ?_, ?_, ?_, ?_⟩ <;>
    simp [updateSpace, hmodes, hmemory, hhost, hanchor]

/-! ### The rows of a timeout -/

theorem exec_memoryTimeout {s : State} {e : MemoryEntry} {rest : List MemoryEntry} {t : Nat} (hrun : s.Running)
    (h : s.Awaits e rest) (ht : e.issued = some t) :
    exec .memoryTimeout s = .next (updateSpace (timeOut (elapseTo (t + 2048) s))) := by
  refine (whileRunning_of_running hrun expireOldest).trans (congrArg Host.Outcome.next ?_)
  simp only [expireOldest, oldestIssued_of_awaits h, ht]
  rfl

theorem exec_unexpectedMemoryAnswer {s : State} {e : MemoryEntry} {rest : List MemoryEntry} (hrun : s.Running)
    (h : s.Awaits e rest) (kind : AnswerKind) :
    exec (.unexpectedMemoryAnswer kind) s =
      .next (if kind = e.source.kind then s else updateSpace (timeOut s)) := by
  refine (next_of_running hrun _).trans (congrArg Host.Outcome.next ?_)
  simp only [oldestIssued_of_awaits h]
  exact if_congr eq_comm rfl rfl

theorem exec_unexpectedMemoryAnswer_of_idle {s : State} (hrun : s.Running) (kind : AnswerKind)
    (h : ∀ e rest, s.memory.queue = e :: rest → e.issued = none) : exec (.unexpectedMemoryAnswer kind) s = .next s := by
  have hnone : s.oldestIssued = none := by
    unfold State.oldestIssued
    split
    · rfl
    · next e rest hqueue => rw [h e rest hqueue]; rfl
  refine (next_of_running hrun _).trans (congrArg Host.Outcome.next ?_)
  simp only [hnone]

/-! ### The settlement -/

theorem slot_mem_timedOutOwners (s : State) (i : Fin 4) :
    .slot i ∈ s.timedOutOwners ↔
      ∃ x ∈ s.memory.queue, x.issued.isSome = true ∧
        (x.source = .deferredFetch i false ∨ ∃ q, x.source = .hostRead q (.slot i)) := by
  simp only [State.timedOutOwners, List.mem_map, List.mem_filter, Source.timeoutOwner_eq_slot, and_assoc]

theorem exists_endsRead {s : State} {r : HostRequest}
    (h : ∃ x ∈ s.memory.queue, x.issued.isSome = true ∧
      ((∃ q, x.source = .hostRead q .current) ∨
        ∃ i : Fin 4, r.wait = .slotWait i ∧
          (x.source = .deferredFetch i false ∨ ∃ q, x.source = .hostRead q (.slot i)))) :
    ∃ o ∈ s.timedOutOwners, o.EndsRead r := by
  obtain ⟨x, hx, hissued, hends⟩ := h
  refine ⟨x.source.timeoutOwner, List.mem_map.mpr ⟨x, List.mem_filter.mpr ⟨hx, hissued⟩, rfl⟩, ?_⟩
  obtain hcurrent | ⟨i, hwait, hslot⟩ := hends
  · exact .inl ((Source.timeoutOwner_eq_current _).mpr hcurrent)
  · exact .inr ⟨i, hwait, (Source.timeoutOwner_eq_slot _ i).mpr hslot⟩

theorem timedOutOwners_anchorLines (s : State) :
    s.timedOutOwners.filterMap TimeoutOwner.anchorLine =
      s.memory.queue.filterMap fun x =>
        match x.source with
        | .anchorWrite _ second => if x.issued.isSome then some second else none
        | _ => none := by
  rw [State.timedOutOwners, List.filterMap_map, List.filterMap_filter]
  refine List.filterMap_congr fun x _ => ?_
  cases hissued : x.issued.isSome with
  | false => cases x.source <;> rfl
  | true =>
    cases hsource : x.source with
    | hostRead q owner => cases owner <;> simp [hsource, Source.timeoutOwner, TimeoutOwner.anchorLine]
    | deferredFetch i abandoned =>
      cases abandoned <;> simp [hsource, Source.timeoutOwner, TimeoutOwner.anchorLine]
    | _ => simp [hsource, Source.timeoutOwner, TimeoutOwner.anchorLine]

/-- The owners that the ends of the requests reach, after the halt: the same slots and anchor lines (R115). -/
theorem timeoutHalt_owners (s : State) (e : MemoryEntry) :
    (∀ i : Fin 4, .slot i ∈ (s.timeoutHalt e).timedOutOwners ↔ .slot i ∈ s.timedOutOwners) ∧
      (s.timeoutHalt e).timedOutOwners.filterMap TimeoutOwner.anchorLine =
        s.timedOutOwners.filterMap TimeoutOwner.anchorLine := by
  have howners : (s.timeoutHalt e).timedOutOwners = s.timedOutOwners ∨
      (s.timeoutHalt e).timedOutOwners = s.timedOutOwners.map TimeoutOwner.dropped :=
    (timeoutHalt_haltKeeps s e).owners
  obtain howners | howners := howners
  · rw [howners]
    exact ⟨fun _ => Iff.rfl, rfl⟩
  · rw [howners, List.filterMap_map]
    refine ⟨fun i => ?_, List.filterMap_congr fun o _ => o.anchorLine_dropped⟩
    simp only [List.mem_map, TimeoutOwner.dropped_eq_slot, exists_eq_right]

/-- Settles O26: the kinds and slots of the requests, the rows, and the state after the timeout block by block. -/
theorem timeoutsEndIssuedRequests : Obligations.TimeoutsEndIssuedRequests := by
  refine ⟨fun _ _ _ _ _ _ _ _ _ => ⟨rfl, rfl, rfl, rfl, rfl, rfl, rfl, rfl, rfl, rfl, rfl, rfl, rfl, rfl, rfl, rfl, rfl,
    rfl⟩, fun s kind hrun h => exec_unexpectedMemoryAnswer_of_idle hrun kind h, fun s e rest hrun h hquiet => ?_⟩
  intro v
  have holdest := oldestIssued_of_awaits h
  have start := timeoutHalt_starts hquiet e
  have hfold := timeOut_of_oldest holdest
  obtain ⟨hslots, hlines⟩ := timeoutHalt_owners s e
  obtain ⟨hhalted, hcause, hends⟩ := foldl_endOwner_keeps (s.timeoutHalt e).timedOutOwners start.halted
  rw [← hfold] at hhalted hcause hends
  obtain ⟨hspace, hlog, hmodes, hmemory, hhost, hanchor⟩ := updateSpace_of_halted hhalted.mode
  have hkeeps : s.EndKeeps v := (start.keeps.trans hends).trans hspace
  have hflag {i : Nat} (hi : (s.timeoutHalt e).waitingOnly.management.flags.getLsbD i = true) :
      v.management.flags.getLsbD i = true := hspace.flags i (hends.flags i hi)
  obtain ⟨hwaiting, hlength⟩ := timeOut_waiting holdest
  have hvcause : v.modes.cause = if s.modes.mode = .halted then s.modes.cause else .memoryTimeout :=
    (congrArg ModeController.cause hmodes).trans (hcause.trans start.cause)
  refine ⟨fun t ht => exec_memoryTimeout hrun h ht, exec_unexpectedMemoryAnswer hrun h, ?_, ?_,
    (congrArg ModeController.mode hmodes).trans hhalted.mode, hkeeps.freeze, fun hs => ⟨?_, ?_, hflag (start.raised hs)⟩,
    fun hs => ?_, hflag start.logged, fun hn hroom => ?_, fun r hr hfreeze hread hx => ?_, fun i => ?_, ?_,
    hkeeps.pending, hkeeps.pins, hkeeps.closedThrough, hkeeps.working, hkeeps.copy, hkeeps.generation, hkeeps.head,
    hkeeps.headSequence, hkeeps.tail, hkeeps.tailSequence, hkeeps.used, hkeeps.ringId, hkeeps.enables⟩
  · rw [hmemory]
    exact hwaiting
  · rw [hmemory]
    exact hlength
  · rw [hvcause, if_neg hs]
  · exact ((timeOut_keepsHalt s).trans (updateSpace_keepsHalt _)).quiet hquiet
  · rw [hvcause, if_pos hs]
  · have hfault : (s.timeoutHalt e).waitingOnly.NoFaultedFirstLine := by
      rw [State.NoFaultedFirstLine, start.write]
      exact hn
    rw [hlog, hfold, foldl_endOwner_log _ start.halted hfault]
    exact start.log hroom
  · obtain ⟨hcurrent, howners⟩ := (timeoutHalt_haltKeeps s e).reads r hr hfreeze hread
    have hread := foldl_endOwner_of_ends (s.timeoutHalt e).timedOutOwners start.halted (r := r) hcurrent
      (howners ▸ exists_endsRead hx)
    rw [hhost, hfold]
    exact hread
  · intro ended
    obtain ⟨hdiscards, hspares⟩ := foldl_endOwner_deferred (s.timeoutHalt e).timedOutOwners start.halted i
    have hended : ended ↔ .slot i ∈ (s.timeoutHalt e).timedOutOwners :=
      (slot_mem_timedOutOwners s i).symm.trans (hslots i).symm
    rw [hhost, hfold]
    refine ⟨fun hyes => hdiscards (hended.mp hyes), fun hno => (hspares (mt hended.mpr hno)).trans ?_⟩
    rw [start.deferred]
  · intro lines
    have hlines : (s.timeoutHalt e).timedOutOwners.filterMap TimeoutOwner.anchorLine = lines :=
      hlines.trans (timedOutOwners_anchorLines s)
    rw [hanchor, hfold]
    refine ⟨fun hnone => ?_, fun w hw => ⟨fun hfirst => ?_, fun hsecond => ?_⟩⟩
    · rw [foldl_endOwner_anchor_of_none (hlines.trans hnone)]
      exact ⟨start.write, start.stale⟩
    · obtain ⟨hwrite, hstale⟩ :=
        foldl_endOwner_first start.halted (start.write.trans hw) (hlines.trans hfirst)
      exact ⟨hwrite, hstale.trans start.stale⟩
    · obtain ⟨hwrite, hupdate, hstore⟩ :=
        foldl_endOwner_second start.halted (start.write.trans hw)
          (hsecond.imp (And.imp_left hlines.trans) hlines.trans)
      refine ⟨hwrite, fun tail sequence ends hkind => ?_, fun c hkind => ⟨?_, hkeeps.storeFlags⟩⟩
      · obtain ⟨hstale, hraised⟩ := hupdate tail sequence ends hkind
        rw [← hfold] at hraised
        exact ⟨hstale, hspace.flags 11 hraised⟩
      · exact (hstore c hkind).trans start.stale

end Sys2Proof.Machine

/-! The formats of Chapter 12 for memory: how a record and an anchor copy are read back from their bytes, and the
CRC-32 over them (Sections 12.1 to 12.3). -/

namespace Sys2Proof.Machine

-- One theorem at a time: the proofs below would otherwise wait for one another in many threads.
set_option Elab.async false

/-! ### The CRC-32, byte by byte -/

theorem crc32Bits_eq_iterate (n : Nat) (c : Word) :
    crc32Bits n c = (fun c : Word => if c.getLsbD 0 then (c >>> 1) ^^^ 0xEDB88320#32 else c >>> 1)^[n] c := by
  induction n generalizing c with
  | zero => rfl
  | succ n ih => exact ih _

/-- The final XOR of the CRC-32 is the complement. -/
theorem crc32_eq_not (bytes : List Byte) : crc32 bytes = ~~~ bytes.foldl crc32Byte 0xFFFFFFFF#32 := by
  rw [crc32, BitVec.xor_comm]
  exact BitVec.allOnes_xor

theorem crc32_concat (bytes : List Byte) (b : Byte) :
    crc32 (bytes ++ [b]) =
      ~~~ (fun c : Word => if c.getLsbD 0 then (c >>> 1) ^^^ 0xEDB88320#32 else c >>> 1)^[8]
        (~~~ crc32 bytes ^^^ b.setWidth 32) := by
  rw [crc32_eq_not, crc32_eq_not, BitVec.not_not, List.foldl_concat, crc32Byte, crc32Bits_eq_iterate]

/-! ### Records -/

theorem RecordKind.ofCode_eq_some_iff {b : Byte} {k : RecordKind} : RecordKind.ofCode b = some k ↔ b = k.code := by
  refine ⟨fun h => ?_, fun h => h ▸ RecordKind.ofCode_code k⟩
  unfold RecordKind.ofCode at h
  split at h
  case isTrue h1 => exact Option.some.inj h ▸ h1
  case isFalse =>
    split at h
    case isTrue h2 => exact Option.some.inj h ▸ h2
    case isFalse =>
      split at h
      case isTrue h3 => exact Option.some.inj h ▸ h3
      case isFalse => exact absurd h (by simp)

/-- A kind byte is one of the three that the layout lists. -/
theorem RecordKind.eq_code_iff {b : Byte} {k : RecordKind} :
    b = k.code ↔ (b = 1#8 ∧ k = .line) ∨ (b = 2#8 ∧ k = .commit) ∨ (b = 3#8 ∧ k = .close) := by
  cases k <;> simp [RecordKind.code]

/-- The check of a record covers the body of a LINE record alone. -/
theorem checkedBytes_eq (k : RecordKind) (pre body : List Byte) :
    checkedBytes k pre body = pre ++ if k = .line then body else [] := by
  cases k <;> simp [checkedBytes]

/-- What the two lines of slot `slot` say, their tests apart, when the record is of kind `kind` (R172). -/
def recordAt (kind : RecordKind) (sequence : Word) (slot : Nat) (head : List Byte) : RecordInfo where
  kind := kind
  epoch := wordAt head 12
  line := if kind = .line then some (wordAt head 16) else none
  slot := slot
  sequence := sequence

theorem verifyRecord_eq_some_iff (ringId sequence : Word) (slot : Nat) (head body : List Byte) (info : RecordInfo) :
    verifyRecord ringId sequence slot head body = some info ↔
      halfAt head 0 = Config.recordSignature ∧ byteAt head 2 = info.kind.code ∧ wordAt head 4 = ringId ∧
        wordAt head 8 = sequence ∧ wordAt head 20 = BitVec.ofNat 32 slot ∧
        wordAt head 60 = crc32 (checkedBytes info.kind (head.take 60) body) ∧
        info = recordAt info.kind sequence slot head := by
  have hread : ∀ k : RecordKind,
      ({ kind := k, epoch := wordAt head 12,
          line := match k with | .line => some (wordAt head 16) | .commit => none | .close => none,
          slot := slot, sequence := sequence } : RecordInfo) = recordAt k sequence slot head := by
    intro k
    cases k <;> rfl
  unfold verifyRecord
  split
  case h_1 hkind =>
    refine ⟨fun h => absurd h (by simp), fun ⟨_, hcode, _⟩ => ?_⟩
    rw [RecordKind.ofCode_eq_some_iff.mpr hcode] at hkind
    exact absurd hkind (by simp)
  case h_2 kind hkind =>
    constructor
    · intro h
      split at h
      case isFalse => exact absurd h (by simp)
      case isTrue htests =>
        obtain ⟨hsignature, hring, hsequence, hslot, hcheck⟩ := htests
        obtain rfl : recordAt kind sequence slot head = info := (hread kind).symm.trans (Option.some.inj h)
        exact ⟨hsignature, RecordKind.ofCode_eq_some_iff.mp hkind, hring, hsequence, hslot, hcheck, rfl⟩
    · rintro ⟨hsignature, hcode, hring, hsequence, hslot, hcheck, hinfo⟩
      obtain rfl : kind = info.kind :=
        Option.some.inj (hkind.symm.trans (RecordKind.ofCode_eq_some_iff.mpr hcode))
      rw [if_pos ⟨hsignature, hring, hsequence, hslot, hcheck⟩]
      exact congrArg some ((hread info.kind).trans hinfo.symm)

section Fields
variable (info : RecordInfo) (window : Byte) (ringId : Word) (body : List Byte)

theorem recordHead_length : (recordHead info window ringId body).length = 64 := by
  rw [recordHead, List.length_append, recordPrefix_length, le32_length]

theorem recordHead_take : (recordHead info window ringId body).take 60 = recordPrefix info window ringId := by
  rw [recordHead, List.take_left' (recordPrefix_length info window ringId)]

theorem recordHead_signature : halfAt (recordHead info window ringId body) 0 = Config.recordSignature := by
  exact half_of_bytes _

theorem recordHead_kind : byteAt (recordHead info window ringId body) 2 = info.kind.code := rfl

theorem recordHead_ringId : wordAt (recordHead info window ringId body) 4 = ringId := by
  exact word_of_bytes _

theorem recordHead_sequence : wordAt (recordHead info window ringId body) 8 = info.sequence := by
  exact word_of_bytes _

theorem recordHead_epoch : wordAt (recordHead info window ringId body) 12 = info.epoch := by
  exact word_of_bytes _

theorem recordHead_line : wordAt (recordHead info window ringId body) 16 = info.line.getD 0#32 := by
  exact word_of_bytes _

theorem recordHead_slot : wordAt (recordHead info window ringId body) 20 = BitVec.ofNat 32 info.slot := by
  exact word_of_bytes _

theorem recordHead_check :
    wordAt (recordHead info window ringId body) 60 =
      crc32 (checkedBytes info.kind (recordPrefix info window ringId) body) := by
  exact word_of_bytes _

end Fields

/-- The head of a record says what it was built from, a LINE record alone having a line address. -/
theorem recordAt_recordHead {info : RecordInfo} (hline : info.kind = .line ↔ info.line.isSome = true) (window : Byte)
    (ringId : Word) (body : List Byte) :
    recordAt info.kind info.sequence info.slot (recordHead info window ringId body) = info := by
  have hread : (if info.kind = .line then some (info.line.getD 0#32) else none) = info.line := by
    by_cases hkind : info.kind = .line
    · rw [if_pos hkind]
      obtain ⟨line, h⟩ := Option.isSome_iff_exists.mp (hline.mp hkind)
      rw [h]; rfl
    · rw [if_neg hkind, Option.not_isSome_iff_eq_none.mp (mt hline.mpr hkind)]
  unfold recordAt
  rw [recordHead_epoch, recordHead_line, hread]

/-- Settles O8: the tests are those of `verifyRecord_eq_some_iff`, and each field of a head built for a slot reads back
what it was built from. -/
theorem recordsReadBack : Obligations.RecordsReadBack := by
  refine ⟨fun ringId sequence slot head body info => ?tests, ⟨by decide, crc32_concat⟩,
    fun info window ringId body hline => ⟨fun other hother => ?same, fun ringId' sequence' slot' hother => ?other,
      recordHead_length info window ringId body⟩⟩
  case tests =>
    intro byte half word
    rw [verifyRecord_eq_some_iff, RecordKind.eq_code_iff, checkedBytes_eq]
    exact Iff.rfl
  case same =>
    rw [verifyRecord_eq_some_iff]
    refine ⟨recordHead_signature .., recordHead_kind .., recordHead_ringId .., recordHead_sequence ..,
      recordHead_slot .., ?_, (recordAt_recordHead hline window ringId body).symm⟩
    rw [recordHead_check, recordHead_take, checkedBytes_eq, checkedBytes_eq]
    by_cases hkind : info.kind = .line
    · rw [hother hkind]
    · rw [if_neg hkind, if_neg hkind]
  case other =>
    rw [Option.eq_none_iff_forall_ne_some]
    intro read h
    obtain ⟨_, _, hring, hsequence, hslot, _⟩ := (verifyRecord_eq_some_iff ..).mp h
    rw [recordHead_ringId] at hring
    rw [recordHead_sequence] at hsequence
    rw [recordHead_slot] at hslot
    rcases hother with h | h | h
    · exact h hring.symm
    · exact h hsequence.symm
    · exact h hslot.symm

end Sys2Proof.Machine

/-! Anchor copies: what their bytes say, and how a copy built from a valid configuration is read back (Section 12.3). -/

namespace Sys2Proof.Machine

-- One theorem at a time: the proofs below would otherwise wait for one another in many threads.
set_option Elab.async false

/-! ### What a copy says -/

theorem enumeratedBytesListed_iff (bytes : List Byte) :
    enumeratedBytesListed bytes = true ↔
      (byteAt bytes 3).toNat ≤ 1 ∧ (byteAt bytes 32).toNat ≤ 1 ∧ (byteAt bytes 33).toNat ≤ 1 ∧
        ∀ n : Fin 8, (byteAt bytes (58 + 8 * n.val)).toNat ≤ 2 := by
  simp [enumeratedBytesListed, Fin.forall_fin_succ, and_assoc]

theorem judgeCopy_eq_some_iff (base : Word) (bytes : List Byte) (f : AnchorFields) :
    judgeCopy base bytes = some f ↔
      (halfAt bytes 0 = Config.anchorSignature ∧ byteAt bytes 2 = 1#8 ∧ wordAt bytes 124 = crc32 (bytes.take 124) ∧
        enumeratedBytesListed bytes = true ∧ f.configuration.valid base = true ∧
        f.tail < f.configuration.slots.toNat) ∧ f = anchorFieldsOf bytes := by
  unfold judgeCopy
  constructor
  · intro h
    dsimp only at h
    split at h
    case isFalse => exact absurd h (by simp)
    case isTrue htests =>
      obtain rfl := Option.some.inj h
      exact ⟨htests, rfl⟩
  · rintro ⟨htests, rfl⟩
    exact if_pos htests

/-- The low 20 bits of a 3-byte field are the low 4 bits of its last byte and the two bytes below it. -/
theorem extractLsb'_tripleAt (bytes : List Byte) (o : Nat) :
    (tripleAt bytes o).extractLsb' 0 20 =
      ((byteAt bytes (o + 2)).extractLsb' 0 4 ++ (byteAt bytes (o + 1) ++ byteAt bytes o) : BitVec 20) := by
  unfold tripleAt
  refine BitVec.eq_of_getLsbD_eq fun i hi => ?_
  simp only [BitVec.getLsbD_append, BitVec.getLsbD_extractLsb']
  interval_cases i <;> simp

theorem windowAt_eq (bytes : List Byte) (o : Nat) :
    windowAt bytes o =
      { enable := (byteAt bytes (o + 7)).getLsbD 0,
        base := (byteAt bytes (o + 2)).extractLsb' 0 4 ++ (byteAt bytes (o + 1) ++ byteAt bytes o),
        countLessOne :=
          (byteAt bytes (o + 5)).extractLsb' 0 4 ++ (byteAt bytes (o + 4) ++ byteAt bytes (o + 3)),
        mode := (byteAt bytes (o + 6)).extractLsb' 0 2 } := by
  rw [windowAt, extractLsb'_tripleAt, extractLsb'_tripleAt]

/-- The window of index `n`, byte by byte at its offsets in a copy. -/
theorem windowAt_index (bytes : List Byte) (n : Fin 8) :
    windowAt bytes (52 + 8 * n.val) =
      { enable := (byteAt bytes (59 + 8 * n.val)).getLsbD 0,
        base := (byteAt bytes (52 + 8 * n.val + 2)).extractLsb' 0 4 ++
          (byteAt bytes (52 + 8 * n.val + 1) ++ byteAt bytes (52 + 8 * n.val)),
        countLessOne := (byteAt bytes (55 + 8 * n.val + 2)).extractLsb' 0 4 ++
          (byteAt bytes (55 + 8 * n.val + 1) ++ byteAt bytes (55 + 8 * n.val)),
        mode := (byteAt bytes (58 + 8 * n.val)).extractLsb' 0 2 } := by
  rw [windowAt_eq, show 59 + 8 * n.val = 52 + 8 * n.val + 7 by omega, show 55 + 8 * n.val = 52 + 8 * n.val + 3 by omega,
    show 58 + 8 * n.val = 52 + 8 * n.val + 6 by omega]

theorem configurationOf_windows (bytes : List Byte) (n : Fin 8) :
    (configurationOf bytes).windows[n] = windowAt bytes (52 + 8 * n.val) := by
  fin_cases n <;> rfl

/-- A byte of 8 µs units is the discard limit it names, without a carry. -/
theorem discardLimit_iff (limit : Word) (units : Byte) :
    limit = BitVec.ofNat 32 (units.toNat * 8) ↔ limit.toNat = 8 * units.toNat := by
  have := units.isLt
  rw [← BitVec.toNat_inj, BitVec.toNat_ofNat, Nat.mod_eq_of_lt (by omega), Nat.mul_comm]

/-- Two configurations are the same when their fields are, window by window. -/
theorem Configuration.eq_iff (c d : Configuration) :
    c = d ↔
      c.basePage = d.basePage ∧ c.slots = d.slots ∧ c.startMode = d.startMode ∧ c.defaultMode = d.defaultMode ∧
        c.fullPolicy = d.fullPolicy ∧ c.waitLimit = d.waitLimit ∧ c.discardLimit = d.discardLimit ∧
        c.threshold = d.threshold ∧ c.ageLimit = d.ageLimit ∧ c.watermark = d.watermark ∧
        ∀ n : Fin 8, c.windows[n] = d.windows[n] := by
  have hwindows : c.windows = d.windows ↔ ∀ n : Fin 8, c.windows[n] = d.windows[n] :=
    ⟨fun h n => h ▸ rfl, fun h => Vector.ext fun i hi => h ⟨i, hi⟩⟩
  rw [← hwindows]
  cases c
  cases d
  simp only [Configuration.mk.injEq]

/-- The fields that the tables of R173 give a copy, at their offsets. -/
theorem eq_configurationOf_iff (c : Configuration) (bytes : List Byte) :
    c = configurationOf bytes ↔
      (c.basePage = wordAt bytes 12 ∧ c.slots = wordAt bytes 16 ∧ c.startMode = (byteAt bytes 3).extractLsb' 0 2 ∧
        c.defaultMode = (byteAt bytes 32).extractLsb' 0 2 ∧ c.fullPolicy = (byteAt bytes 33).extractLsb' 0 2 ∧
        c.waitLimit = byteAt bytes 34 ∧ c.discardLimit.toNat = 8 * (byteAt bytes 35).toNat ∧
        c.threshold = halfAt bytes 36 ∧ c.ageLimit = halfAt bytes 38 ∧ c.watermark = wordAt bytes 40) ∧
      ∀ n : Fin 8, c.windows[n] = windowAt bytes (52 + 8 * n.val) := by
  rw [Configuration.eq_iff, ← discardLimit_iff]
  simp only [configurationOf_windows, and_assoc]
  exact Iff.rfl

theorem eq_anchorFieldsOf_iff (bytes : List Byte) (f : AnchorFields) :
    f = anchorFieldsOf bytes ↔
      (f.generation = wordAt bytes 4 ∧ f.ringId = wordAt bytes 8 ∧ f.tail = (wordAt bytes 20).toNat ∧
        f.tailSequence = wordAt bytes 24 ∧ f.closedThrough = wordAt bytes 28) ∧
      f.configuration = configurationOf bytes := by
  constructor
  · rintro rfl
    exact ⟨⟨rfl, rfl, rfl, rfl, rfl⟩, rfl⟩
  · rintro ⟨⟨hgeneration, hring, htail, hsequence, hclosed⟩, hconfiguration⟩
    cases f
    simp only at hgeneration hring htail hsequence hclosed hconfiguration
    rw [anchorFieldsOf, hgeneration, hring, htail, hsequence, hclosed, hconfiguration]

/-! ### A copy built is read back -/

/-- A 3-byte page field gives back the 20 bits it was built from. -/
theorem page_of_bytes (p : BitVec 20) :
    (((p.setWidth 24).extractLsb' 16 8 ++ (p.setWidth 24).extractLsb' 8 8) ++ (p.setWidth 24).extractLsb' 0 8 :
      BitVec 24).extractLsb' 0 20 = p := by
  rw [triple_of_bytes]
  refine BitVec.eq_of_getLsbD_eq fun i hi => ?_
  interval_cases i <;> simp

/-- A byte that holds a 2-bit field gives it back. -/
theorem extractLsb'_setWidth_two (m : BitVec 2) : (m.setWidth 8).extractLsb' 0 2 = m := by
  refine BitVec.eq_of_getLsbD_eq fun i hi => ?_
  interval_cases i <;> simp

theorem toNat_setWidth_two (m : BitVec 2) : (m.setWidth 8).toNat = m.toNat := by
  rw [BitVec.toNat_setWidth, Nat.mod_eq_of_lt (by have := m.isLt; omega)]

/-! A field at an offset, by what lies from there on. -/

theorem byteAt_drop (bytes : List Byte) (o k : Nat) : byteAt (bytes.drop o) k = byteAt bytes (o + k) := by
  simp only [byteAt, List.getD_eq_getElem?_getD, List.getElem?_drop]

theorem halfAt_of_drop {bytes : List Byte} {o : Nat} {w : BitVec 16} (h : ∃ rest, bytes.drop o = le16 w ++ rest) :
    halfAt bytes o = w := by
  have hat : halfAt (bytes.drop o) 0 = halfAt bytes o := by simp only [halfAt, byteAt_drop, Nat.zero_add, Nat.add_zero]
  obtain ⟨rest, h⟩ := h
  rw [← hat, h]
  exact half_of_bytes w

theorem wordAt_of_drop {bytes : List Byte} {o : Nat} {w : Word} (h : ∃ rest, bytes.drop o = le32 w ++ rest) :
    wordAt bytes o = w := by
  have hat : wordAt (bytes.drop o) 0 = wordAt bytes o := by simp only [wordAt, byteAt_drop, Nat.zero_add, Nat.add_zero]
  obtain ⟨rest, h⟩ := h
  rw [← hat, h]
  exact word_of_bytes w

theorem getLsbD_enableByte (enable : Bool) : (if enable then 1#8 else 0#8 : Byte).getLsbD 0 = enable := by
  cases enable <;> rfl

theorem windowAt_of_drop {bytes : List Byte} {o : Nat} {w : Window} (h : ∃ rest, bytes.drop o = w.bytes ++ rest) :
    windowAt bytes o = w := by
  have hat : windowAt (bytes.drop o) 0 = windowAt bytes o := by
    simp only [windowAt_eq, byteAt_drop, Nat.zero_add, Nat.add_zero]
  obtain ⟨enable, base, countLessOne, mode⟩ := w
  obtain ⟨rest, h⟩ := h
  rw [← hat, h]
  exact congr (congr (congr (congrArg Window.mk (getLsbD_enableByte enable)) (page_of_bytes base))
    (page_of_bytes countLessOne)) (extractLsb'_setWidth_two mode)

/-! Passing over the fields that stand in front. -/

theorem drop_pair (a b : Byte) (rest : List Byte) (n : Nat) : ([a, b] ++ rest).drop (n + 2) = rest.drop n := by
  simp

theorem drop_quad (a b c d : Byte) (rest : List Byte) (n : Nat) :
    ([a, b, c, d] ++ rest).drop (n + 4) = rest.drop n := by
  simp

theorem drop_zeros (rest : List Byte) (n : Nat) : (List.replicate 8 0#8 ++ rest).drop (n + 8) = rest.drop n := by
  simp [List.replicate_succ]

theorem drop_le16 (w : BitVec 16) (rest : List Byte) (n : Nat) : (le16 w ++ rest).drop (n + 2) = rest.drop n := by
  simp [le16]

theorem drop_le32 (w : Word) (rest : List Byte) (n : Nat) : (le32 w ++ rest).drop (n + 4) = rest.drop n := by
  simp [le32]

theorem drop_window (w : Window) (rest : List Byte) (n : Nat) : (w.bytes ++ rest).drop (n + 8) = rest.drop n := by
  simp [Window.bytes, le24]

section Fields
variable (f : AnchorFields)

theorem anchorBytes_length : (anchorBytes f).length = 128 := by
  rw [anchorBytes, List.length_append, anchorPrefix_length, le32_length]

theorem anchorBytes_take : (anchorBytes f).take 124 = anchorPrefix f := by
  rw [anchorBytes, List.take_left' (anchorPrefix_length f)]

/-- The bytes of a copy, field after field. -/
theorem anchorBytes_eq :
    anchorBytes f =
      le16 Config.anchorSignature ++ ([1#8, f.configuration.startMode.setWidth 8] ++ (le32 f.generation ++
      (le32 f.ringId ++ (le32 f.configuration.basePage ++ (le32 f.configuration.slots ++
      (le32 (BitVec.ofNat 32 f.tail) ++ (le32 f.tailSequence ++ (le32 f.closedThrough ++
      ([f.configuration.defaultMode.setWidth 8, f.configuration.fullPolicy.setWidth 8, f.configuration.waitLimit,
        BitVec.ofNat 8 (f.configuration.discardLimit.toNat / 8)] ++ (le16 f.configuration.threshold ++
      (le16 f.configuration.ageLimit ++ (le32 f.configuration.watermark ++ (List.replicate 8 0#8 ++
      (f.configuration.windows[0].bytes ++ (f.configuration.windows[1].bytes ++ (f.configuration.windows[2].bytes ++
      (f.configuration.windows[3].bytes ++ (f.configuration.windows[4].bytes ++ (f.configuration.windows[5].bytes ++
      (f.configuration.windows[6].bytes ++ (f.configuration.windows[7].bytes ++ (List.replicate 8 0#8 ++
      le32 (crc32 (anchorPrefix f)))))))))))))))))))))))) := by
  unfold anchorBytes
  generalize crc32 (anchorPrefix f) = check
  unfold anchorPrefix
  simp only [List.append_assoc]

theorem wordAt_anchorBytes :
    wordAt (anchorBytes f) 4 = f.generation ∧ wordAt (anchorBytes f) 8 = f.ringId ∧
      wordAt (anchorBytes f) 12 = f.configuration.basePage ∧ wordAt (anchorBytes f) 16 = f.configuration.slots ∧
      wordAt (anchorBytes f) 20 = BitVec.ofNat 32 f.tail ∧ wordAt (anchorBytes f) 24 = f.tailSequence ∧
      wordAt (anchorBytes f) 28 = f.closedThrough ∧ wordAt (anchorBytes f) 40 = f.configuration.watermark := by
  rw [anchorBytes_eq]
  refine ⟨wordAt_of_drop ?_, wordAt_of_drop ?_, wordAt_of_drop ?_, wordAt_of_drop ?_, wordAt_of_drop ?_,
    wordAt_of_drop ?_, wordAt_of_drop ?_, wordAt_of_drop ?_⟩ <;>
    exact ⟨_, by simp only [drop_pair, drop_quad, drop_le16, drop_le32, List.drop_zero]; rfl⟩

theorem halfAt_anchorBytes :
    halfAt (anchorBytes f) 0 = Config.anchorSignature ∧ halfAt (anchorBytes f) 36 = f.configuration.threshold ∧
      halfAt (anchorBytes f) 38 = f.configuration.ageLimit := by
  rw [anchorBytes_eq]
  refine ⟨halfAt_of_drop ⟨_, List.drop_zero⟩, halfAt_of_drop ?_, halfAt_of_drop ?_⟩ <;>
    exact ⟨_, by simp only [drop_pair, drop_quad, drop_le16, drop_le32, List.drop_zero]; rfl⟩

theorem drop_anchorBytes_window (n : Fin 8) :
    ∃ rest, (anchorBytes f).drop (52 + 8 * n.val) = f.configuration.windows[n].bytes ++ rest := by
  have hwindows :
      (∃ rest, (anchorBytes f).drop 52 = f.configuration.windows[0].bytes ++ rest) ∧
      (∃ rest, (anchorBytes f).drop 60 = f.configuration.windows[1].bytes ++ rest) ∧
      (∃ rest, (anchorBytes f).drop 68 = f.configuration.windows[2].bytes ++ rest) ∧
      (∃ rest, (anchorBytes f).drop 76 = f.configuration.windows[3].bytes ++ rest) ∧
      (∃ rest, (anchorBytes f).drop 84 = f.configuration.windows[4].bytes ++ rest) ∧
      (∃ rest, (anchorBytes f).drop 92 = f.configuration.windows[5].bytes ++ rest) ∧
      (∃ rest, (anchorBytes f).drop 100 = f.configuration.windows[6].bytes ++ rest) ∧
      ∃ rest, (anchorBytes f).drop 108 = f.configuration.windows[7].bytes ++ rest := by
    rw [anchorBytes_eq]
    refine ⟨?_, ?_, ?_, ?_, ?_, ?_, ?_, ?_⟩ <;>
      exact ⟨_, by
        simp only [drop_pair, drop_quad, drop_zeros, drop_le16, drop_le32, drop_window, List.drop_zero]; rfl⟩
  obtain ⟨h0, h1, h2, h3, h4, h5, h6, h7⟩ := hwindows
  match n with
  | 0 => exact h0
  | 1 => exact h1
  | 2 => exact h2
  | 3 => exact h3
  | 4 => exact h4
  | 5 => exact h5
  | 6 => exact h6
  | 7 => exact h7

theorem windowAt_anchorBytes (n : Fin 8) :
    windowAt (anchorBytes f) (52 + 8 * n.val) = f.configuration.windows[n] :=
  windowAt_of_drop (drop_anchorBytes_window f n)

theorem modeByte_anchorBytes (n : Fin 8) :
    byteAt (anchorBytes f) (58 + 8 * n.val) = f.configuration.windows[n].mode.setWidth 8 := by
  obtain ⟨rest, h⟩ := drop_anchorBytes_window f n
  rw [show 58 + 8 * n.val = 52 + 8 * n.val + 6 by omega, ← byteAt_drop, h]
  rfl

theorem byteAt_anchorBytes :
    byteAt (anchorBytes f) 2 = 1#8 ∧ byteAt (anchorBytes f) 3 = f.configuration.startMode.setWidth 8 ∧
      byteAt (anchorBytes f) 32 = f.configuration.defaultMode.setWidth 8 ∧
      byteAt (anchorBytes f) 33 = f.configuration.fullPolicy.setWidth 8 ∧
      byteAt (anchorBytes f) 34 = f.configuration.waitLimit ∧
      byteAt (anchorBytes f) 35 = BitVec.ofNat 8 (f.configuration.discardLimit.toNat / 8) := by
  have hfirst (k : Nat) : byteAt (anchorBytes f) (2 + k) = byteAt ((anchorBytes f).drop 2) k := (byteAt_drop ..).symm
  have hoptions (k : Nat) : byteAt (anchorBytes f) (32 + k) = byteAt ((anchorBytes f).drop 32) k :=
    (byteAt_drop ..).symm
  rw [anchorBytes_eq] at hfirst hoptions
  simp only [drop_pair, drop_le16, drop_le32, List.drop_zero] at hfirst hoptions
  rw [anchorBytes_eq]
  exact ⟨hfirst 0, hfirst 1, hoptions 0, hoptions 1, hoptions 2, hoptions 3⟩

theorem anchorBytes_check : wordAt (anchorBytes f) 124 = crc32 (anchorPrefix f) := by
  refine wordAt_of_drop ⟨[], ?_⟩
  rw [anchorBytes, List.drop_left' (anchorPrefix_length f), List.append_nil]

end Fields

/-- The configuration of a copy built from a valid one is that configuration. -/
theorem configurationOf_anchorBytes {f : AnchorFields} {base : Word} (h : f.configuration.valid base = true) :
    configurationOf (anchorBytes f) = f.configuration := by
  obtain ⟨-, -, -, -, -, -, -, -, -, hlimit, hunits, -⟩ := (Configuration.valid_iff ..).mp h
  obtain ⟨-, -, hbase, hslots, -, -, -, hwatermark⟩ := wordAt_anchorBytes f
  obtain ⟨-, hthreshold, hage⟩ := halfAt_anchorBytes f
  obtain ⟨-, hstart, hdefault, hpolicy, hwait, hdiscard⟩ := byteAt_anchorBytes f
  refine Eq.symm <| (eq_configurationOf_iff ..).mpr
    ⟨⟨hbase.symm, hslots.symm, ?_, ?_, ?_, hwait.symm, ?_, hthreshold.symm, hage.symm, hwatermark.symm⟩,
      fun n => (windowAt_anchorBytes f n).symm⟩
  · rw [hstart, extractLsb'_setWidth_two]
  · rw [hdefault, extractLsb'_setWidth_two]
  · rw [hpolicy, extractLsb'_setWidth_two]
  · rw [hdiscard, BitVec.toNat_ofNat]
    omega

/-- A copy built from a valid configuration, and a tail below its journal slots, carries the fields it was built from. -/
theorem anchorFieldsOf_anchorBytes {f : AnchorFields} {base : Word} (h : f.configuration.valid base = true)
    (htail : f.tail < f.configuration.slots.toNat) : anchorFieldsOf (anchorBytes f) = f := by
  obtain ⟨hgeneration, hring, -, -, htailAt, hsequence, hclosed, -⟩ := wordAt_anchorBytes f
  refine Eq.symm <| (eq_anchorFieldsOf_iff ..).mpr
    ⟨⟨hgeneration.symm, hring.symm, ?_, hsequence.symm, hclosed.symm⟩, (configurationOf_anchorBytes h).symm⟩
  rw [htailAt, BitVec.toNat_ofNat, Nat.mod_eq_of_lt (htail.trans f.configuration.slots.isLt)]

theorem enumeratedBytesListed_anchorBytes {f : AnchorFields} {base : Word} (h : f.configuration.valid base = true) :
    enumeratedBytesListed (anchorBytes f) = true := by
  obtain ⟨-, -, -, -, hwindows, hstartMode, hdefaultMode, hfullPolicy, -⟩ := (Configuration.valid_iff ..).mp h
  obtain ⟨-, hstart, hdefault, hpolicy, -⟩ := byteAt_anchorBytes f
  refine (enumeratedBytesListed_iff _).mpr ⟨?_, ?_, ?_, fun n => ?_⟩
  · rw [hstart, toNat_setWidth_two]; exact hstartMode
  · rw [hdefault, toNat_setWidth_two]; exact hdefaultMode
  · rw [hpolicy, toNat_setWidth_two]; exact hfullPolicy
  · rw [modeByte_anchorBytes, toNat_setWidth_two]; exact (hwindows n).1

theorem judgeCopy_anchorBytes {f : AnchorFields} {base : Word} (h : f.configuration.valid base = true)
    (htail : f.tail < f.configuration.slots.toNat) : judgeCopy base (anchorBytes f) = some f := by
  obtain ⟨hsignature, -⟩ := halfAt_anchorBytes f
  obtain ⟨hformat, -⟩ := byteAt_anchorBytes f
  refine (judgeCopy_eq_some_iff ..).mpr ⟨⟨hsignature, hformat, ?_, enumeratedBytesListed_anchorBytes h, h, htail⟩,
    (anchorFieldsOf_anchorBytes h htail).symm⟩
  rw [anchorBytes_check, anchorBytes_take]

/-- Settles O9: a copy is judged by its fields at their offsets (`judgeCopy_eq_some_iff`), and a copy built gives each
field back there; the validation is `Configuration.valid_iff`. -/
theorem anchorCopiesReadBack : Obligations.AnchorCopiesReadBack := by
  refine ⟨fun f base h htail => ⟨judgeCopy_anchorBytes h htail, anchorBytes_length f⟩, fun base bytes f => ?_,
    fun c base => c.valid_iff base⟩
  intro c byte half page word
  rw [judgeCopy_eq_some_iff, enumeratedBytesListed_iff, eq_anchorFieldsOf_iff, eq_configurationOf_iff]
  simp only [windowAt_index]
  constructor
  · rintro ⟨⟨hsignature, hformat, hcheck, ⟨h3, h32, h33, hmodes⟩, hvalid, htail⟩,
      ⟨hgeneration, hring, htailAt, hsequence, hclosed⟩, hfields, hwindows⟩
    exact ⟨⟨hsignature, hformat, hcheck, h3, h32, h33, hmodes, hvalid, htail⟩,
      ⟨hgeneration, hring, htailAt, hsequence, hclosed, hfields⟩, hwindows⟩
  · rintro ⟨⟨hsignature, hformat, hcheck, h3, h32, h33, hmodes, hvalid, htail⟩,
      ⟨hgeneration, hring, htailAt, hsequence, hclosed, hfields⟩, hwindows⟩
    exact ⟨⟨hsignature, hformat, hcheck, ⟨h3, h32, h33, hmodes⟩, hvalid, htail⟩,
      ⟨hgeneration, hring, htailAt, hsequence, hclosed⟩, hfields, hwindows⟩

end Sys2Proof.Machine

/-! Frames: how requests are read back from their bytes, the CRC-8 over them, and what the bridge drives on MISO
(Sections 11.1, 12.1 and 12.4). -/

namespace Sys2Proof.Machine

-- One theorem at a time: the proofs below would otherwise wait for one another in many threads.
set_option Elab.async false

/-! ### The CRC-8, byte by byte -/

theorem crc8Bits_eq_iterate (n : Nat) (c : Byte) :
    crc8Bits n c = (fun c : Byte => if c.getLsbD 7 then (c <<< 1) ^^^ 0x07#8 else c <<< 1)^[n] c := by
  induction n generalizing c with
  | zero => rfl
  | succ n ih => exact ih _

theorem crc8_concat (bytes : List Byte) (b : Byte) :
    crc8 (bytes ++ [b]) =
      (fun c : Byte => if c.getLsbD 7 then (c <<< 1) ^^^ 0x07#8 else c <<< 1)^[8] (crc8 bytes ^^^ b) := by
  rw [crc8, List.foldl_concat, crc8Bits_eq_iterate, crc8]

/-! ### Requests -/

/-- WRITE and TAG-PROBE, the commands whose requests carry data words (R159). -/
def CarriesData (code : Byte) : Prop := code = 0x02#8 ∨ code = 0x2C#8

/-- The command of a long request with a good CRC-8. -/
def longCommand (code : Byte) (item : BitVec 16) (words : List Word) : Instr :=
  if code = 0x02#8 then .write item words else .tagProbe item words

theorem requestLength_of_short {code : Byte} (h : ¬ CarriesData code) (a1 a0 count : Byte) (rest : List Byte) :
    requestLength (code :: a1 :: a0 :: count :: rest) = 5 := if_neg h

theorem requestLength_of_long {code : Byte} (h : CarriesData code) (a1 a0 count : Byte) (rest : List Byte) :
    requestLength (code :: a1 :: a0 :: count :: rest) = 5 + 4 * count.toNat := if_pos h

/-- A short request is judged by its CRC-8 and its code. -/
theorem frameCommand_of_short {code : Byte} (h : ¬ CarriesData code) (a1 a0 count crc : Byte) (extra : List Byte) :
    frameCommand (code :: a1 :: a0 :: count :: crc :: extra) =
      if crc = crc8 [code, a1, a0, count] then shortCommand code (a1 ++ a0) count else .badFrame := if_neg h

/-- A long request is judged by its CRC-8, which lies behind its data words. -/
theorem frameCommand_of_long {code count : Byte} (h : CarriesData code) {data : List Byte}
    (hdata : data.length = 4 * count.toNat) (a1 a0 crc : Byte) (extra : List Byte) :
    frameCommand (code :: a1 :: a0 :: count :: (data ++ crc :: extra)) =
      if crc = crc8 ([code, a1, a0, count] ++ data) then longCommand code (a1 ++ a0) (wordsOf data) else .badFrame := by
  refine (if_pos h).trans ?_
  dsimp only
  rw [← hdata, List.drop_left, List.take_left]
  rfl

theorem frameCommand_of_short_cut {code : Byte} (h : ¬ CarriesData code) (a1 a0 count : Byte) :
    frameCommand [code, a1, a0, count] = .frameDiscarded := if_neg h

theorem frameCommand_of_long_cut {code count : Byte} (h : CarriesData code) {rest : List Byte}
    (hrest : rest.length ≤ 4 * count.toNat) (a1 a0 : Byte) :
    frameCommand (code :: a1 :: a0 :: count :: rest) = .frameDiscarded := by
  refine (if_pos h).trans ?_
  dsimp only
  rw [List.drop_of_length_le hrest]

/-- A frame that ends before its CRC-8 is discarded (R160). -/
theorem frameCommand_of_cut {bytes : List Byte} (h : bytes.length < requestLength bytes) :
    frameCommand bytes = .frameDiscarded := by
  match bytes with
  | [] | [_] | [_, _] | [_, _, _] => rfl
  | code :: a1 :: a0 :: count :: rest =>
    by_cases hcode : CarriesData code
    · rw [requestLength_of_long hcode] at h
      refine frameCommand_of_long_cut hcode ?_ a1 a0
      simp only [List.length_cons] at h
      omega
    · rw [requestLength_of_short hcode] at h
      obtain rfl : rest = [] := List.eq_nil_of_length_eq_zero (by simp only [List.length_cons] at h; omega)
      exact frameCommand_of_short_cut hcode a1 a0 count

/-- A short request is read back as its command, whatever follows it. -/
theorem frameCommand_shortRequest {code : Byte} (h : ¬ CarriesData code) (item : BitVec 16) (count : Byte)
    (extra : List Byte) : frameCommand (shortRequest code item count ++ extra) = shortCommand code item count := by
  refine (frameCommand_of_short h ..).trans ((if_pos rfl).trans ?_)
  rw [half_of_bytes]

/-- A long request is read back as its command, whatever follows it. -/
theorem frameCommand_longRequest {code : Byte} (h : CarriesData code) (item : BitVec 16) {words : List Word}
    (hwords : words.length ≤ 255) (extra : List Byte) :
    frameCommand (longRequest code item words ++ extra) = longCommand code item words := by
  have hdata : (words.flatMap be32).length = 4 * (BitVec.ofNat 8 words.length).toNat := by
    rw [flatMap_be32_length, BitVec.toNat_ofNat, Nat.mod_eq_of_lt (by omega)]
  have hbytes : longRequest code item words ++ extra =
      code :: item.extractLsb' 8 8 :: item.extractLsb' 0 8 :: BitVec.ofNat 8 words.length ::
        (words.flatMap be32 ++ crc8 ([code] ++ be16 item ++ [BitVec.ofNat 8 words.length] ++ words.flatMap be32) ::
          extra) := by
    simp only [longRequest, be16, List.cons_append, List.nil_append, List.append_assoc]
  rw [hbytes]
  refine (frameCommand_of_long h hdata ..).trans ((if_pos rfl).trans ?_)
  rw [half_of_bytes, wordsOf_flatMap_be32]

theorem requestLength_shortRequest {code : Byte} (h : ¬ CarriesData code) (item : BitVec 16) (count : Byte)
    (extra : List Byte) : requestLength (shortRequest code item count ++ extra) = 5 :=
  requestLength_of_short h ..

theorem requestLength_longRequest {code : Byte} (h : CarriesData code) (item : BitVec 16) {words : List Word}
    (hwords : words.length ≤ 255) (extra : List Byte) :
    requestLength (longRequest code item words ++ extra) = 5 + 4 * words.length := by
  simp only [longRequest, be16, List.cons_append, List.nil_append, List.append_assoc]
  rw [requestLength_of_long h, BitVec.toNat_ofNat, Nat.mod_eq_of_lt (by omega)]

/-- An unknown code names no command. -/
theorem shortCommand_of_unknown {code : Byte}
    (h : code ∉ [0x01#8, 0x02#8, 0x20#8, 0x21#8, 0x22#8, 0x23#8, 0x24#8, 0x28#8, 0x2C#8, 0x30#8])
    (item : BitVec 16) (count : Byte) : shortCommand code item count = .badFrame := by
  simp only [List.mem_cons, List.not_mem_nil, or_false, not_or] at h
  obtain ⟨h01, -, h20, h21, h22, h23, h24, h28, -, h30⟩ := h
  simp only [shortCommand, h01, h20, h21, h22, h23, h24, h28, h30, if_false]

/-! ### Responses on MISO -/

theorem misoByte_outside {n k : Nat} {r : Response} (h : k < n + 1 ∨ n + 1 + r.bytes.length ≤ k) :
    misoByte n (some r) k = 0x00#8 := by
  unfold misoByte
  dsimp only
  split
  case isTrue => rfl
  case isFalse hk => exact List.getD_eq_default _ _ (by omega)

theorem misoByte_inside {n k : Nat} {r : Response} (h : n + 1 ≤ k) (hk : k < n + 1 + r.bytes.length) :
    some (misoByte n (some r) k) = r.bytes[k - (n + 1)]? := by
  unfold misoByte
  dsimp only
  rw [if_neg (by omega), List.getD_eq_getElem _ _ (by omega), List.getElem?_eq_getElem (by omega)]

/-! ### The settlement of O7 -/

/-- A short request carries a command when its code names it: its bytes, read back, give the command again. -/
theorem carries_short {c : Instr} {code : Byte} (hcode : ¬ CarriesData code) (item : BitVec 16) (count : Byte)
    (hbytes : requestBytes c = some (shortRequest code item count)) (hcommand : shortCommand code item count = c)
    (extra : List Byte) :
    let covered : List Byte := code :: [item.extractLsb' 8 8, item.extractLsb' 0 8] ++ [count]
    requestBytes c = some (covered ++ [crc8 covered]) ∧ frameCommand (covered ++ [crc8 covered] ++ extra) = c ∧
      requestLength (covered ++ [crc8 covered] ++ extra) = covered.length + 1 :=
  ⟨hbytes, (frameCommand_shortRequest hcode item count extra).trans hcommand,
    requestLength_shortRequest hcode item count extra⟩

theorem carries_long {c : Instr} {code : Byte} (hcode : CarriesData code) (item : BitVec 16) {words : List Word}
    (hwords : words.length ≤ 255)
    (hbytes : requestBytes c = some (longRequest code item words)) (hcommand : longCommand code item words = c)
    (extra : List Byte) :
    let covered : List Byte :=
      code :: [item.extractLsb' 8 8, item.extractLsb' 0 8] ++ [BitVec.ofNat 8 words.length] ++ words.flatMap be32
    requestBytes c = some (covered ++ [crc8 covered]) ∧ frameCommand (covered ++ [crc8 covered] ++ extra) = c ∧
      requestLength (covered ++ [crc8 covered] ++ extra) = covered.length + 1 := by
  refine ⟨hbytes, (frameCommand_longRequest hcode item hwords extra).trans hcommand,
    (requestLength_longRequest hcode item hwords extra).trans ?_⟩
  rw [List.length_append, flatMap_be32_length]
  simp only [List.length_append, List.length_cons, List.length_nil]
  omega

/-- Settles O7: short and long requests are read back from their bytes (`carries_short`, `carries_long`), and MISO is
driven byte by byte as `misoByte` gives. -/
theorem framesReadBack : Obligations.FramesReadBack := by
  refine ⟨fun item count words value extra => ?carried, fun code a1 a0 count crc data extra => ?judged,
    fun _ => frameCommand_of_cut, fun x => ?response, ⟨rfl, crc8_concat⟩, fun s mosi k => ?driven,
    fun mosi response k hk => ?miso⟩
  case carried =>
    intro address data carries
    have hshort : ∀ code : Byte, code ∈ [0x01#8, 0x20#8, 0x21#8, 0x22#8, 0x23#8, 0x24#8, 0x28#8, 0x30#8] →
        ¬ CarriesData code := by
      unfold CarriesData
      decide
    refine ⟨?_, ?_, ?_, ?_, ?_, ?_, ?_, ?_, fun hwords => ⟨?_, ?_⟩, rfl, rfl, rfl, rfl⟩
    · exact carries_short (hshort 0x01#8 (by decide)) item count rfl rfl extra
    · exact carries_short (hshort 0x20#8 (by decide)) item count rfl rfl extra
    · exact carries_short (hshort 0x21#8 (by decide)) item count rfl rfl extra
    · exact carries_short (hshort 0x22#8 (by decide)) item count rfl rfl extra
    · exact carries_short (hshort 0x23#8 (by decide)) item count rfl rfl extra
    · exact carries_short (hshort 0x24#8 (by decide)) item count rfl rfl extra
    · exact carries_short (hshort 0x28#8 (by decide)) item count rfl rfl extra
    · exact carries_short (hshort 0x30#8 (by decide)) item count rfl rfl extra
    · exact carries_long (.inl rfl) item hwords rfl rfl extra
    · exact carries_long (.inr rfl) item hwords rfl rfl extra
  case judged =>
    intro covered long hlong hnot
    by_cases hcode : CarriesData code
    · have hcommand := frameCommand_of_long hcode (hlong hcode) a1 a0 crc extra
      refine ⟨fun hcrc => hcommand.trans (if_neg hcrc), fun hunknown => absurd hcode ?_⟩
      rintro (rfl | rfl) <;> simp at hunknown
    · obtain rfl := hnot hcode
      have hcommand := frameCommand_of_short hcode a1 a0 count crc extra
      refine ⟨fun hcrc => hcommand.trans (if_neg hcrc), fun hunknown => hcommand.trans ?_⟩
      rw [shortCommand_of_unknown hunknown, ite_self]
  case response =>
    obtain ⟨status, words⟩ := x
    cases status <;> rfl
  case driven =>
    refine ⟨fun hreset => State.miso_of_inReset hreset mosi k, State.miso_of_length_le s, fun hrun hk => ?_⟩
    rw [State.miso_of_running hrun hk, misoBytes_getElem? hk]
  case miso =>
    rw [misoBytes_getElem? hk]
    refine ⟨misoBytes_length mosi response, ?_, ?_⟩
    · rintro rfl; rfl
    · rintro x rfl
      exact ⟨fun h => congrArg some (misoByte_outside h), misoByte_inside⟩

end Sys2Proof.Machine

/-! What the counts and the bounds of the journal speak of (R10 to R14, R24 to R30): the sources of the memory queue that
are the journal's, the counts of the live epochs, and the changes of a state that keep all of it. -/

namespace Sys2Proof.Machine

-- One theorem at a time: the proofs below would otherwise wait for one another in many threads.
set_option Elab.async false

/-! ### The journal's sources in the memory queue -/

/-- The source, when it is the journal's: a JOURNAL data write, a capture read or a record write. -/
def Source.ofJournal : Source → Option Source
  | .holdRelease (some n) => some (.holdRelease (some n))
  | .captureRead i => some (.captureRead i)
  | .recordWrite info isHead => some (.recordWrite info isHead)
  | _ => none

/-- The journal's sources in the memory queue, oldest first. -/
def State.journalSources (s : State) : List Source := s.memory.queue.filterMap fun e => e.source.ofJournal

theorem Source.ofJournal_eq_some {x y : Source} (h : x.ofJournal = some y) : y = x := by
  unfold Source.ofJournal at h
  split at h <;> cases h <;> rfl

theorem State.journalSources_of_memory {s t : State} (h : t.memory = s.memory) :
    t.journalSources = s.journalSources := by
  rw [State.journalSources, h, State.journalSources]

/-- A change of the entries that keeps each source of the journal. -/
theorem State.journalSources_map {s : State} {f : MemoryEntry → MemoryEntry}
    (hf : ∀ e, (f e).source.ofJournal = e.source.ofJournal) (t : Turn) :
    (s.setMemory { queue := s.memory.queue.map f, turn := t }).journalSources = s.journalSources := by
  simp only [State.journalSources, State.setMemory_memory, List.filterMap_map, Function.comp_def, hf]

theorem enqueue_journalSources (e : MemoryEntry) (s : State) :
    (enqueue e s).journalSources = s.journalSources ++ e.source.ofJournal.toList := by
  simp only [State.journalSources, enqueue, State.setMemory_memory, List.filterMap_append]
  cases h : e.source.ofJournal <;> simp [h]

theorem State.Awaits.journalSources {s : State} {e : MemoryEntry} {rest : List MemoryEntry} (h : s.Awaits e rest) :
    s.journalSources = e.source.ofJournal.toList ++ (s.answered rest).journalSources := by
  simp only [State.journalSources, h.1, State.answered]
  cases hsource : e.source.ofJournal <;> simp [hsource]

@[simp] theorem raise_journalSources (v : Event) (s : State) : (raise v s).journalSources = s.journalSources := rfl

@[simp] theorem bump_journalSources (c : Counter) (s : State) : (bump c s).journalSources = s.journalSources := rfl

@[simp] theorem logError_journalSources (kind : ErrorKind) (epoch line : Option Word) (slot : Option Nat) (s : State) :
    (logError kind epoch line slot s).journalSources = s.journalSources := rfl

@[simp] theorem respond_journalSources (status : Status) (words : List Word) (s : State) :
    (respond status words s).journalSources = s.journalSources := rfl

@[simp] theorem setHost_journalSources (x : HostPort) (s : State) : (s.setHost x).journalSources = s.journalSources := rfl

@[simp] theorem setPins_journalSources (x : Pins) (s : State) : (s.setPins x).journalSources = s.journalSources := rfl

@[simp] theorem setModes_journalSources (x : ModeController) (s : State) :
    (s.setModes x).journalSources = s.journalSources := rfl

@[simp] theorem setEpochs_journalSources (x : EpochController) (s : State) :
    (s.setEpochs x).journalSources = s.journalSources := rfl

@[simp] theorem setRing_journalSources (x : RingManager) (s : State) :
    (s.setRing x).journalSources = s.journalSources := rfl

@[simp] theorem setHold_journalSources (x : HoldQueue) (s : State) :
    (s.setHold x).journalSources = s.journalSources := rfl

@[simp] theorem setCapture_journalSources (x : CaptureUnit) (s : State) :
    (s.setCapture x).journalSources = s.journalSources := rfl

@[simp] theorem setReplay_journalSources (x : ReplayEngine) (s : State) :
    (s.setReplay x).journalSources = s.journalSources := rfl

@[simp] theorem setAnchor_journalSources (x : AnchorUnit) (s : State) :
    (s.setAnchor x).journalSources = s.journalSources := rfl

@[simp] theorem setTable_journalSources (x : EpochTable) (s : State) :
    (s.setTable x).journalSources = s.journalSources := rfl

@[simp] theorem passTurn_journalSources (t : Turn) (s : State) : (passTurn t s).journalSources = s.journalSources := rfl

@[simp] theorem answerHost_journalSources (a : HostAnswer) (s : State) :
    (answerHost a s).journalSources = s.journalSources := State.journalSources_of_memory (by simp)

@[simp] theorem answerRead_journalSources (data : List Byte) (s : State) :
    (answerRead data s).journalSources = s.journalSources := State.journalSources_of_memory (by simp)

@[simp] theorem ownCurrentRead_journalSources (owner : ReadOwner) (s : State) :
    (ownCurrentRead owner s).journalSources = s.journalSources :=
  State.journalSources_map (fun e => by
    split
    · next h => rw [h]; rfl
    · rfl) _

@[simp] theorem answerWaiting_journalSources (a : HostAnswer) (s : State) :
    (answerWaiting a s).journalSources = s.journalSources := by simp [answerWaiting]

@[simp] theorem abandonFetch_journalSources (i : Fin 4) (s : State) :
    (abandonFetch i s).journalSources = s.journalSources :=
  State.journalSources_map (fun e => by
    split
    · next h =>
      split
      · rw [h]; rfl
      · rfl
    · next h =>
      split
      · rw [h]; rfl
      · rfl
    · rfl) _

@[simp] theorem discardSlot_journalSources (i : Fin 4) (s : State) :
    (discardSlot i s).journalSources = s.journalSources := by
  unfold discardSlot
  split <;> simp

@[simp] theorem discardIf_journalSources (p : Deferred → Bool) (i : Fin 4) (s : State) :
    (discardIf p i s).journalSources = s.journalSources := by
  unfold discardIf
  (repeat' split) <;> simp

@[simp] theorem discardDeferred_journalSources (p : Deferred → Bool) (s : State) :
    (discardDeferred p s).journalSources = s.journalSources := by simp [discardDeferred]

@[simp] theorem serveDeferred_journalSources (i : Fin 4) (data : List Byte) (s : State) :
    (serveDeferred i data s).journalSources = s.journalSources := by simp [serveDeferred]

@[simp] theorem fetchDone_journalSources (i : Fin 4) (data : List Byte) (s : State) :
    (fetchDone i data s).journalSources = s.journalSources := by
  unfold fetchDone
  (repeat' split) <;> simp

@[simp] theorem fetchFaulted_journalSources (i : Fin 4) (s : State) :
    (fetchFaulted i s).journalSources = s.journalSources := by
  unfold fetchFaulted
  split <;> simp

@[simp] theorem fetchAnswered_journalSources (i : Fin 4) (a : ReadAnswer) (s : State) :
    (fetchAnswered i a s).journalSources = s.journalSources := by
  unfold fetchAnswered
  split <;> simp

@[simp] theorem currentReadAnswered_journalSources (a : ReadAnswer) (s : State) :
    (currentReadAnswered a s).journalSources = s.journalSources := by
  unfold currentReadAnswered
  (repeat' split) <;> simp

@[simp] theorem hostReadAnswered_journalSources (owner : ReadOwner) (a : ReadAnswer) (s : State) :
    (hostReadAnswered owner a s).journalSources = s.journalSources := by
  unfold hostReadAnswered
  split <;> simp

@[simp] theorem keepRead_journalSources (r : HostRequest) (stage : FetchStage) (s : State) :
    (keepRead r stage s).journalSources = s.journalSources := by
  unfold keepRead
  split <;> simp

@[simp] theorem expireRequest_journalSources (r : HostRequest) (s : State) :
    (expireRequest r s).journalSources = s.journalSources := by
  unfold expireRequest
  split <;> simp

@[simp] theorem beginWait_journalSources (r : HostRequest) (s : State) :
    (beginWait r s).journalSources = s.journalSources := by
  unfold beginWait
  split <;> simp

@[simp] theorem startRead_journalSources (r : HostRequest) (s : State) :
    (startRead r s).journalSources = s.journalSources := by
  unfold startRead
  (repeat' split) <;> simp

@[simp] theorem rejudge_journalSources (s : State) : (rejudge s).journalSources = s.journalSources := by
  unfold rejudge
  (repeat' split) <;> simp

@[simp] theorem reclassify_journalSources (s : State) : (reclassify s).journalSources = s.journalSources := by
  unfold reclassify
  (repeat' split) <;> simp

@[simp] theorem setMode_journalSources (m : Mode) (s : State) : (setMode m s).journalSources = s.journalSources := by
  simp [setMode]

theorem issueOldest_filterMap {β : Type} (f : Source → Option β) (now : Nat) (queue : List MemoryEntry) :
    ((issueOldest now queue).filterMap fun e => f e.source) = queue.filterMap fun e => f e.source := by
  induction queue with
  | nil => rfl
  | cons e rest ih =>
    unfold issueOldest
    split
    · simp only [List.filterMap_cons, ih]
    · simp only [List.filterMap_cons]

@[simp] theorem issue_journalSources (s : State) : (issue s).journalSources = s.journalSources := by
  unfold issue
  split
  · exact issueOldest_filterMap _ _ _
  · rfl

/-! ### The three uses of the sources -/

theorem State.dataWritesOf_eq (s : State) (n : Word) :
    s.dataWritesOf n = s.journalSources.count (.holdRelease (some n)) := by
  unfold State.dataWritesOf State.journalSources
  induction s.memory.queue with
  | nil => rfl
  | cons e rest ih =>
    rw [List.countP_cons, ih, List.filterMap_cons]
    cases hsource : e.source with
    | holdRelease epoch => cases epoch <;> simp [Source.ofJournal, List.count_cons]
    | _ => simp [Source.ofJournal, List.count_cons]

theorem State.mem_journalSources {s : State} {x : Source} (hx : x.ofJournal = some x) :
    x ∈ s.journalSources ↔ ∃ e ∈ s.memory.queue, e.source = x := by
  unfold State.journalSources
  rw [List.mem_filterMap]
  refine exists_congr fun e => and_congr_right fun _ => ⟨fun h => (Source.ofJournal_eq_some h).symm, fun h => ?_⟩
  rw [h, hx]

theorem State.captureReads_eq (s : State) :
    s.captureReads = s.capture.reads ++ s.journalSources.filterMap Source.asCaptureRead := by
  unfold State.captureReads State.journalSources
  rw [List.filterMap_filterMap]
  congr 1
  refine List.filterMap_congr fun e _ => ?_
  cases hsource : e.source with
  | holdRelease epoch => cases epoch <;> rfl
  | _ => rfl

theorem State.recordHeads_eq (s : State) :
    s.recordHeads = s.journalSources.filterMap Source.asRecordHead ++
      s.ring.writes.filterMap fun w => if w.isHead then some w.info else none := by
  unfold State.recordHeads State.journalSources
  rw [List.filterMap_filterMap]
  congr 1
  refine List.filterMap_congr fun e _ => ?_
  cases hsource : e.source with
  | holdRelease epoch => cases epoch <;> rfl
  | recordWrite info isHead => cases isHead <;> rfl
  | _ => rfl

/-! ### The counts of the live epochs -/

/-- The number of an epoch with its held entries and data writes outstanding. -/
def LiveEpoch.tally (e : LiveEpoch) : Word × Nat × Nat := (e.number, e.held, e.out)

/-- The numbers and counts of the live epochs. -/
def EpochTable.tallies (t : EpochTable) : List (Word × Nat × Nat) := t.epochs.map LiveEpoch.tally

theorem EpochTable.tallies_map {t : EpochTable} {f : LiveEpoch → LiveEpoch} (hf : ∀ e, (f e).tally = e.tally) :
    (t.map f).tallies = t.tallies := by
  simp [EpochTable.tallies, EpochTable.epochs_map, hf]

theorem EpochTable.tallies_modify {t : EpochTable} {n : Word} {f : LiveEpoch → LiveEpoch}
    (hf : ∀ e, (f e).tally = e.tally) : (t.modify n f).tallies = t.tallies :=
  EpochTable.tallies_map fun e => by split <;> simp [hf]

theorem LiveEpoch.drained_iff_tally (e : LiveEpoch) : e.drained = true ↔ e.tally.2 = (0, 0) := by
  rw [LiveEpoch.drained_iff, LiveEpoch.tally, Prod.mk.injEq]

/-! ### Changes that keep the work of the journal -/

/-- From `s` to `t` nothing has changed of what the counts and the bounds of the journal speak of. -/
structure State.SameWork (s t : State) : Prop where
  mode : t.modes.mode = s.modes.mode
  tallies : t.epochs.table.tallies = s.epochs.table.tallies
  commit : t.epochs.commit = s.epochs.commit
  rollback : t.replay.rollback = s.replay.rollback
  recovery : t.replay.recovery = s.replay.recovery
  loading : t.anchor.loading.isSome = s.anchor.loading.isSome
  write : t.anchor.write.map (·.kind) = s.anchor.write.map (·.kind)
  size : t.anchor.working.slots = s.anchor.working.slots
  used : t.ring.used = s.ring.used
  promised : t.ring.promised = s.ring.promised
  writes : t.ring.writes = s.ring.writes
  slots : t.capture.slots = s.capture.slots
  reads : t.capture.reads = s.capture.reads
  hold : t.hold = s.hold
  sources : t.journalSources = s.journalSources

theorem State.SameWork.refl (s : State) : s.SameWork s :=
  ⟨rfl, rfl, rfl, rfl, rfl, rfl, rfl, rfl, rfl, rfl, rfl, rfl, rfl, rfl, rfl⟩

theorem State.SameWork.trans {s t u : State} (h : s.SameWork t) (h' : t.SameWork u) : s.SameWork u :=
  ⟨h'.mode.trans h.mode, h'.tallies.trans h.tallies, h'.commit.trans h.commit, h'.rollback.trans h.rollback,
    h'.recovery.trans h.recovery, h'.loading.trans h.loading, h'.write.trans h.write, h'.size.trans h.size,
    h'.used.trans h.used, h'.promised.trans h.promised, h'.writes.trans h.writes, h'.slots.trans h.slots,
    h'.reads.trans h.reads, h'.hold.trans h.hold, h'.sources.trans h.sources⟩

/-- A change that leaves the blocks alone, but for the host port, the memory port's other entries and what no rule of
the journal's speaks of. -/
theorem State.SameWork.of_eq {s t : State} (hmode : t.modes.mode = s.modes.mode := by simp)
    (hepochs : t.epochs = s.epochs := by simp) (hring : t.ring = s.ring := by simp)
    (hhold : t.hold = s.hold := by simp) (hcapture : t.capture = s.capture := by simp)
    (hreplay : t.replay = s.replay := by simp) (hanchor : t.anchor = s.anchor := by simp)
    (hsources : t.journalSources = s.journalSources := by simp) : s.SameWork t :=
  ⟨hmode, by rw [hepochs], by rw [hepochs], by rw [hreplay], by rw [hreplay], by rw [hanchor], by rw [hanchor],
    by rw [hanchor], by rw [hring], by rw [hring], by rw [hring], by rw [hcapture], by rw [hcapture], hhold, hsources⟩

theorem raise_sameWork (v : Event) (s : State) : s.SameWork (raise v s) := .of_eq

theorem bump_sameWork (c : Counter) (s : State) : s.SameWork (bump c s) := .of_eq

theorem logError_sameWork (kind : ErrorKind) (epoch line : Option Word) (slot : Option Nat) (s : State) :
    s.SameWork (logError kind epoch line slot s) := .of_eq

theorem rejudge_sameWork (s : State) : s.SameWork (rejudge s) := .of_eq

theorem discardDeferred_sameWork (p : Deferred → Bool) (s : State) : s.SameWork (discardDeferred p s) := .of_eq

theorem expireRequest_sameWork (r : HostRequest) (s : State) : s.SameWork (expireRequest r s) := .of_eq

theorem discardSlot_sameWork (i : Fin 4) (s : State) : s.SameWork (discardSlot i s) := .of_eq

theorem setModes_sameWork {s : State} {x : ModeController} (hmode : x.mode = s.modes.mode) :
    s.SameWork (s.setModes x) := .of_eq hmode

theorem setEpochs_sameWork {s : State} {x : EpochController} (htallies : x.table.tallies = s.epochs.table.tallies)
    (hcommit : x.commit = s.epochs.commit) : s.SameWork (s.setEpochs x) :=
  { State.SameWork.refl s with tallies := htallies, commit := hcommit }

theorem setCapture_sameWork {s : State} {x : CaptureUnit} (hslots : x.slots = s.capture.slots)
    (hreads : x.reads = s.capture.reads) : s.SameWork (s.setCapture x) :=
  { State.SameWork.refl s with slots := hslots, reads := hreads }

theorem setRing_sameWork {s : State} {x : RingManager} (hused : x.used = s.ring.used)
    (hpromised : x.promised = s.ring.promised) (hwrites : x.writes = s.ring.writes) : s.SameWork (s.setRing x) :=
  { State.SameWork.refl s with used := hused, promised := hpromised, writes := hwrites }

theorem setAnchor_sameWork {s : State} {x : AnchorUnit} (hloading : x.loading.isSome = s.anchor.loading.isSome)
    (hwrite : x.write.map (·.kind) = s.anchor.write.map (·.kind)) (hworking : x.working.slots = s.anchor.working.slots) :
    s.SameWork (s.setAnchor x) :=
  { State.SameWork.refl s with loading := hloading, write := hwrite, size := hworking }

/-- A change of the replay engine that keeps its two sequences. -/
theorem setReplay_sameWork {s : State} {x : ReplayEngine} (hrollback : x.rollback = s.replay.rollback)
    (hrecovery : x.recovery = s.replay.recovery) : s.SameWork (s.setReplay x) :=
  { State.SameWork.refl s with rollback := hrollback, recovery := hrecovery }

theorem elapse_sameWork (d : Nat) (s : State) : s.SameWork (elapse d s) := by
  dsimp only [elapse]
  split
  · exact { State.SameWork.refl s with tallies := EpochTable.tallies_map fun _ => rfl }
  · exact .of_eq

theorem elapseTo_sameWork (moment : Nat) (s : State) : s.SameWork (elapseTo moment s) := elapse_sameWork _ s

theorem updateLow_sameWork (s : State) : s.SameWork (updateLow s) := by
  dsimp only [updateLow]
  split
  · refine State.SameWork.trans ?_ (raise_sameWork _ _)
    exact setRing_sameWork rfl rfl rfl
  · exact setRing_sameWork rfl rfl rfl

theorem logAnchorFault_sameWork (target : Copy) (first second : LineAnswer) (s : State) :
    s.SameWork (logAnchorFault target first second s) := by
  unfold logAnchorFault
  split_ifs
  · exact logError_sameWork _ _ _ _ s
  · exact logError_sameWork _ _ _ _ s
  · exact .refl s

theorem makeCurrent_sameWork (w : AnchorWrite) (s : State) : s.SameWork (makeCurrent w s) :=
  setAnchor_sameWork rfl rfl rfl

theorem passWriteAnswered_sameWork (a : WriteAnswer) (e : MemoryEntry) (s : State) :
    s.SameWork (passWriteAnswered a e s) := by
  cases a with
  | done => exact .refl s
  | fault => exact logError_sameWork _ _ _ _ s

theorem clearLine_sameWork (line : Word) (s : State) : s.SameWork (clearLine line s) := by
  unfold clearLine
  split
  · exact .refl s
  · exact .of_eq

theorem expireWait_sameWork (s : State) : s.SameWork (expireWait s) := by
  unfold expireWait
  split
  · exact .refl s
  · exact (elapseTo_sameWork _ s).trans (expireRequest_sameWork _ _)

theorem expireDeferred_sameWork (i : Fin 4) (s : State) : s.SameWork (expireDeferred i s) := by
  unfold expireDeferred
  split
  · exact .refl s
  · split
    · dsimp only
      split_ifs
      · exact .of_eq
      · exact .refl s
      · exact (elapse_sameWork _ s).trans (discardSlot_sameWork i _)
    · exact .refl s

theorem grantHostRead_sameWork (s : State) : s.SameWork (grantHostRead s) := by
  unfold grantHostRead
  split
  · exact .refl s
  · refine .of_eq rfl rfl rfl rfl rfl rfl rfl ?_
    rw [passTurn_journalSources, enqueue_journalSources]
    exact List.append_nil _

theorem grantFetch_sameWork (i : Fin 4) (s : State) : s.SameWork (grantFetch i s) := by
  unfold grantFetch
  split
  · exact .refl s
  · refine .of_eq rfl rfl rfl rfl rfl rfl rfl ?_
    rw [passTurn_journalSources, enqueue_journalSources]
    exact List.append_nil _

theorem grantReplay_sameWork (s : State) : s.SameWork (grantReplay s) := by
  unfold grantReplay
  split
  · exact .refl s
  · next q rest _ =>
    have hsource : (s.replayEntry q).source.ofJournal = none := by cases q <;> rfl
    refine (setReplay_sameWork (x := { s.replay with requests := rest }) rfl rfl).trans ?_
    refine .of_eq rfl rfl rfl rfl rfl rfl rfl ?_
    rw [enqueue_journalSources, hsource]
    exact List.append_nil _

theorem anchorRequest_ofJournal {s : State} {e : MemoryEntry} (h : s.anchorRequest = some e) :
    e.source.ofJournal = none := by
  unfold State.anchorRequest at h
  dsimp only at h
  split at h
  · split at h
    · cases h; rfl
    · cases h
  · split at h
    · split_ifs at h
      · cases h; rfl
      · cases h; rfl
    · cases h

theorem grantAnchor_sameWork (s : State) : s.SameWork (grantAnchor s) := by
  unfold grantAnchor
  split
  · exact .refl s
  · next e he =>
    refine (setAnchor_sameWork (x := s.anchor.lineGranted) ?_ ?_ ?_).trans (.of_eq rfl rfl rfl rfl rfl rfl rfl ?_)
    · unfold AnchorUnit.lineGranted
      split <;> simp_all
    · unfold AnchorUnit.lineGranted
      split <;> simp [Option.map_map, Function.comp_def]
    · unfold AnchorUnit.lineGranted
      split <;> rfl
    · rw [enqueue_journalSources, anchorRequest_ofJournal he]
      exact List.append_nil _

/-- An answered entry that is not the journal's leaves. -/
theorem State.Awaits.sameWork {s : State} {e : MemoryEntry} {rest : List MemoryEntry} (h : s.Awaits e rest)
    (he : e.source.ofJournal = none) : s.SameWork (s.answered rest) := by
  refine .of_eq rfl rfl rfl rfl rfl rfl rfl ?_
  rw [h.journalSources, he]
  rfl

end Sys2Proof.Machine

/-! The counts of the live epochs (R10 to R14): what they say, block by block, and which changes keep them. -/

namespace Sys2Proof.Machine

-- One theorem at a time: the proofs below would otherwise wait for one another in many threads.
set_option Elab.async false

/-! ### The counts, said of the blocks -/

/-- The epochs of the JOURNAL data writes in the memory queue. -/
def State.dataWrites (s : State) : List Word := s.journalSources.filterMap Source.asDataWrite

theorem State.dataWritesOf_eq_count (s : State) (n : Word) : s.dataWritesOf n = s.dataWrites.count n := by
  rw [State.dataWritesOf_eq, State.dataWrites]
  induction s.journalSources with
  | nil => rfl
  | cons x rest ih =>
    rw [List.count_cons, ih]
    cases x with
    | holdRelease epoch => cases epoch <;> simp [Source.asDataWrite, List.filterMap_cons, List.count_cons]
    | _ => simp [Source.asDataWrite, List.filterMap_cons]

theorem State.dataWrites_congr {s t : State} (h : t.journalSources = s.journalSources) : t.dataWrites = s.dataWrites := by
  rw [State.dataWrites, h, State.dataWrites]

theorem State.mem_dataWrites {s : State} {n : Word} :
    n ∈ s.dataWrites ↔ ∃ e ∈ s.memory.queue, e.source = .holdRelease (some n) := by
  rw [← State.mem_journalSources rfl, State.dataWrites, List.mem_filterMap]
  refine ⟨fun ⟨x, hx, hn⟩ => Source.eq_of_asDataWrite hn ▸ hx, fun h => ⟨_, h, rfl⟩⟩

/-- What `State.CountsRight` says outside HALTED, the live epochs said by their counts. -/
structure State.Counted (s : State) : Prop where
  counts : ∀ k ∈ s.epochs.table.tallies, k.2.1 = s.heldOf k.1 ∧ k.2.2 = s.dataWritesOf k.1
  stamped : ∀ e ∈ s.hold.entries, ∀ n, e.cls.epoch = some n → ∃ k ∈ s.epochs.table.tallies, k.1 = n
  released : ∀ n ∈ s.dataWrites, ∃ k ∈ s.epochs.table.tallies, k.1 = n
  names : s.hold.entries.Pairwise (fun x y => x.id ≠ y.id)
  supply : ∀ e ∈ s.hold.entries, e.id < s.hold.nextId ∧ ∀ key, e.tag = some key → e.cls.epoch = some key.epoch
  captures : ∀ (i : Fin 4) (c : Capture), s.capture.slots[i] = some c → s.CaptureRight i c
  pass : ∀ q, s.replay.rollback = some q → ∀ e ∈ s.hold.entries, e.cls = .pass
  settled : ∀ q, s.replay.rollback = some q → (∀ epochs, q.phase ≠ .settling false epochs) →
    ∀ i : Fin 4, s.capture.slots[i] = none
  drained : ∀ q, s.replay.rollback = some q → (∀ captures, q.phase ≠ .settling captures false) →
    ∀ k ∈ s.epochs.table.tallies, k.2 = (0, 0)
  marker : ∀ q slot sequence, s.epochs.commit = some q → q.phase = .markerWriting slot sequence →
    ∀ k ∈ s.epochs.table.tallies, k.1 = q.epoch → k.2 = (0, 0)
  store : ∀ c, s.anchor.write.map (·.kind) = some (.store c) → s.modes.mode = .quiesced ∨ s.modes.mode = .bypass

theorem EpochTable.forall_mem_tallies {t : EpochTable} {p : Word × Nat × Nat → Prop} :
    (∀ k ∈ t.tallies, p k) ↔ ∀ x ∈ t.epochs, p x.tally := List.forall_mem_map

theorem EpochTable.exists_mem_tallies {t : EpochTable} {n : Word} :
    (∃ k ∈ t.tallies, k.1 = n) ↔ ∃ x ∈ t.epochs, x.number = n := by
  simp [EpochTable.tallies, LiveEpoch.tally]

theorem State.storing_iff {s : State} {p : Prop} :
    (∀ c, s.anchor.write.map (·.kind) = some (.store c) → p) ↔
      ∀ w c, s.anchor.write = some w → w.kind = .store c → p := by
  constructor
  · intro h w c hw hkind
    exact h c (by rw [hw, Option.map_some, hkind])
  · intro h c hc
    obtain ⟨w, hw, hkind⟩ := Option.map_eq_some_iff.mp hc
    exact h w c hw hkind

theorem State.countsRight_iff (s : State) : s.CountsRight ↔ (s.modes.mode ≠ .halted → s.Counted) := by
  refine forall_congr' fun _ => ?_
  constructor
  · rintro ⟨hcounts, hstamped, hreleased, hnames, hsupply, hcaptures, hrollback, hmarker, hstore⟩
    exact ⟨EpochTable.forall_mem_tallies.mpr hcounts,
      fun e he n hn => EpochTable.exists_mem_tallies.mpr (hstamped e he n hn),
      fun n hn => EpochTable.exists_mem_tallies.mpr
        (let ⟨e, he, hsource⟩ := State.mem_dataWrites.mp hn; hreleased e he n hsource),
      hnames, hsupply, hcaptures, fun q hq => (hrollback q hq).1, fun q hq => (hrollback q hq).2.1,
      fun q hq hphase => EpochTable.forall_mem_tallies.mpr fun x hx =>
        x.drained_iff_tally.mp ((hrollback q hq).2.2 hphase x hx),
      fun q slot sequence hq hphase => EpochTable.forall_mem_tallies.mpr fun x hx hn =>
        x.drained_iff_tally.mp (hmarker q slot sequence hq hphase x hx hn),
      State.storing_iff.mpr hstore⟩
  · intro h
    exact ⟨EpochTable.forall_mem_tallies.mp h.counts,
      fun e he n hn => EpochTable.exists_mem_tallies.mp (h.stamped e he n hn),
      fun e he n hn => EpochTable.exists_mem_tallies.mp (h.released n (State.mem_dataWrites.mpr ⟨e, he, hn⟩)),
      h.names, h.supply, h.captures,
      fun q hq => ⟨h.pass q hq, h.settled q hq, fun hphase x hx =>
        x.drained_iff_tally.mpr (h.drained q hq hphase _ (List.mem_map_of_mem hx))⟩,
      fun q slot sequence hq hphase x hx hn =>
        x.drained_iff_tally.mpr (h.marker q slot sequence hq hphase _ (List.mem_map_of_mem hx) hn),
      State.storing_iff.mp h.store⟩

theorem State.Counted.right {s : State} (h : s.Counted) : s.CountsRight := (State.countsRight_iff s).mpr fun _ => h

theorem State.CountsRight.counted {s : State} (h : s.CountsRight) (hmode : s.modes.mode ≠ .halted) : s.Counted :=
  (State.countsRight_iff s).mp h hmode

theorem State.countsRight_of_halted {s : State} (h : s.modes.mode = .halted) : s.CountsRight := fun hmode => absurd h hmode

/-- From `s` to `t` nothing has changed of what the counts speak of. -/
structure State.SameCounts (s t : State) : Prop where
  mode : t.modes.mode = s.modes.mode
  tallies : t.epochs.table.tallies = s.epochs.table.tallies
  commit : t.epochs.commit = s.epochs.commit
  rollback : t.replay.rollback = s.replay.rollback
  write : t.anchor.write.map (·.kind) = s.anchor.write.map (·.kind)
  slots : t.capture.slots = s.capture.slots
  hold : t.hold = s.hold
  writes : t.dataWrites = s.dataWrites

theorem State.SameWork.counts {s t : State} (h : s.SameWork t) : s.SameCounts t :=
  ⟨h.mode, h.tallies, h.commit, h.rollback, h.write, h.slots, h.hold,
    State.dataWrites_congr h.sources⟩

theorem State.SameCounts.refl (s : State) : s.SameCounts s := ⟨rfl, rfl, rfl, rfl, rfl, rfl, rfl, rfl⟩

theorem State.dataWritesOf_congr {s t : State} (h : t.dataWrites = s.dataWrites) (n : Word) :
    t.dataWritesOf n = s.dataWritesOf n := by
  rw [State.dataWritesOf_eq_count, h, State.dataWritesOf_eq_count]

theorem State.heldOf_congr {s t : State} (h : t.hold.entries = s.hold.entries) (n : Word) :
    t.heldOf n = s.heldOf n := by
  rw [State.heldOf, h, State.heldOf]

theorem State.captureRight_congr {s t : State} (hhold : t.hold.entries = s.hold.entries)
    (hrollback : t.replay.rollback.isSome = s.replay.rollback.isSome) (i : Fin 4) (c : Capture) :
    t.CaptureRight i c ↔ s.CaptureRight i c := by
  unfold State.CaptureRight State.OwnsCapture
  rw [hhold, hrollback]

theorem State.Counted.same {s t : State} (h : s.Counted) (hsame : s.SameCounts t) : t.Counted where
  counts := by
    rw [hsame.tallies]
    intro k hk
    rw [State.heldOf_congr (congrArg HoldQueue.entries hsame.hold), State.dataWritesOf_congr hsame.writes]
    exact h.counts k hk
  stamped := by rw [hsame.hold, hsame.tallies]; exact h.stamped
  released := by rw [hsame.writes, hsame.tallies]; exact h.released
  names := by rw [hsame.hold]; exact h.names
  supply := by rw [hsame.hold]; exact h.supply
  captures := by
    rw [hsame.slots]
    intro i c hc
    exact (State.captureRight_congr (by rw [hsame.hold]) (by rw [hsame.rollback]) i c).mpr (h.captures i c hc)
  pass := by rw [hsame.rollback, hsame.hold]; exact h.pass
  settled := by rw [hsame.rollback, hsame.slots]; exact h.settled
  drained := by rw [hsame.rollback, hsame.tallies]; exact h.drained
  marker := by rw [hsame.commit, hsame.tallies]; exact h.marker
  store := by rw [hsame.write, hsame.mode]; exact h.store

theorem State.CountsRight.same {s t : State} (h : s.CountsRight) (hsame : s.SameCounts t) : t.CountsRight := by
  rw [State.countsRight_iff] at h ⊢
  rw [hsame.mode]
  exact fun hmode => (h hmode).same hsame

theorem State.CountsRight.work {s t : State} (h : s.CountsRight) (hsame : s.SameWork t) : t.CountsRight :=
  h.same hsame.counts

/-! ### What the counts say -/

theorem State.heldOf_eq_zero_iff {s : State} {n : Word} :
    s.heldOf n = 0 ↔ ∀ e ∈ s.hold.entries, e.cls.epoch ≠ some n := by
  simp [State.heldOf, List.countP_eq_zero]

theorem State.dataWritesOf_eq_zero_iff {s : State} {n : Word} :
    s.dataWritesOf n = 0 ↔ n ∉ s.dataWrites := by
  rw [State.dataWritesOf_eq_count, List.count_eq_zero]

/-- An epoch of a held entry has not drained. -/
theorem State.Counted.not_drained_of_held {s : State} (h : s.Counted) {e : HoldEntry} (he : e ∈ s.hold.entries)
    {k : Word × Nat × Nat} (hk : k ∈ s.epochs.table.tallies) (hn : e.cls.epoch = some k.1) : k.2 ≠ (0, 0) := by
  intro hzero
  have hheld := (h.counts k hk).1
  rw [hzero] at hheld
  exact State.heldOf_eq_zero_iff.mp hheld.symm e he hn

/-- An epoch of a data write outstanding has not drained. -/
theorem State.Counted.not_drained_of_write {s : State} (h : s.Counted) {k : Word × Nat × Nat}
    (hk : k ∈ s.epochs.table.tallies) (hn : k.1 ∈ s.dataWrites) : k.2 ≠ (0, 0) := by
  intro hzero
  have hout := (h.counts k hk).2
  rw [hzero] at hout
  exact State.dataWritesOf_eq_zero_iff.mp hout.symm hn

/-- Outside a rollback a capture has its hold entry. -/
theorem State.Counted.owner {s : State} (h : s.Counted) (hr : s.replay.rollback = none) {i : Fin 4} {c : Capture}
    (hc : s.capture.slots[i] = some c) : ∃ id, c.hold = some id ∧ s.OwnsCapture i c id := by
  obtain ⟨-, howns, hnone, -⟩ := h.captures i c hc
  cases hhold : c.hold with
  | none =>
    have hrolling := hnone.mp hhold
    rw [hr] at hrolling
    exact absurd hrolling (by simp)
  | some id => exact ⟨id, rfl, howns id hhold⟩

/-- With no live epoch and no rollback no capture runs. -/
theorem State.Counted.slot_none {s : State} (h : s.Counted) (hr : s.replay.rollback = none)
    (hlive : s.epochs.table.tallies = []) (i : Fin 4) : s.capture.slots[i] = none := by
  cases hc : s.capture.slots[i] with
  | none => rfl
  | some c =>
    obtain ⟨id, -, e, he, -, hepoch, -⟩ := h.owner hr hc
    obtain ⟨k, hk, -⟩ := h.stamped e he _ hepoch
    simp [hlive] at hk

theorem EpochTable.tallies_fst (t : EpochTable) : t.tallies.map Prod.fst = t.keys.map Prod.fst := by
  simp [EpochTable.tallies, EpochTable.keys, LiveEpoch.tally, LiveEpoch.key]

theorem EpochTable.tallies_eq_nil {t : EpochTable} : t.tallies = [] ↔ t.keys = [] := by
  rw [EpochTable.tallies, EpochTable.keys, List.map_eq_nil_iff, List.map_eq_nil_iff]

/-- Outside ACTIVE and QUIESCING no capture runs. -/
theorem State.Counted.slot_none_of_mode {s : State} (h : s.Counted) (hshape : s.EpochShape)
    (hactive : s.modes.mode ≠ .active) (hquiescing : s.modes.mode ≠ .quiescing) (i : Fin 4) :
    s.capture.slots[i] = none :=
  h.slot_none (hshape.rollback_none hactive) (EpochTable.tallies_eq_nil.mpr (hshape.empty hactive hquiescing).1) i

/-! ### Changes of the epoch controller -/

/-- The live epochs of `x` are live epochs with the counts they have, and what leaves the table has drained. -/
theorem State.Counted.setEpochs {s : State} (h : s.Counted) {x : EpochController}
    (hsub : ∀ k ∈ x.table.tallies, k ∈ s.epochs.table.tallies)
    (hgone : ∀ k ∈ s.epochs.table.tallies, k ∉ x.table.tallies → k.2 = (0, 0))
    (hmarker : ∀ q slot sequence, x.commit = some q → q.phase = .markerWriting slot sequence →
      ∀ k ∈ x.table.tallies, k.1 = q.epoch → k.2 = (0, 0)) : (s.setEpochs x).Counted where
  counts := fun k hk => h.counts k (hsub k hk)
  stamped := by
    intro e he n hn
    obtain ⟨k, hk, rfl⟩ := h.stamped e he n hn
    exact ⟨k, by_contra fun hx => h.not_drained_of_held he hk hn (hgone k hk hx), rfl⟩
  released := by
    intro n hn
    obtain ⟨k, hk, rfl⟩ := h.released n hn
    exact ⟨k, by_contra fun hx => h.not_drained_of_write hk hn (hgone k hk hx), rfl⟩
  names := h.names
  supply := h.supply
  captures := h.captures
  pass := h.pass
  settled := h.settled
  drained := fun q hq hphase k hk => h.drained q hq hphase k (hsub k hk)
  marker := hmarker
  store := h.store

/-- A change of the epoch controller that keeps the counts and the numbers of the live epochs, and starts no marker. -/
theorem State.Counted.setEpochs_same {s : State} (h : s.Counted) {x : EpochController}
    (htallies : x.table.tallies = s.epochs.table.tallies)
    (hmarker : ∀ q slot sequence, x.commit = some q → q.phase = .markerWriting slot sequence →
      s.epochs.commit = some q) : (s.setEpochs x).Counted := by
  refine h.setEpochs (by simp [htallies]) (fun k hk hx => absurd (htallies ▸ hk) hx) ?_
  rw [htallies]
  exact fun q slot sequence hq hphase => h.marker q slot sequence (hmarker q slot sequence hq hphase) hphase

theorem EpochTable.tallies_remove (t : EpochTable) (n : Word) :
    (t.remove n).tallies = t.tallies.filter fun k => k.1 != n := by
  simp [EpochTable.tallies, EpochTable.epochs_remove, List.filter_map, Function.comp_def, LiveEpoch.tally]

/-- Epoch `n`, which has drained, leaves the table. -/
theorem State.Counted.removeEpoch {s : State} (h : s.Counted) {n : Word} {x : EpochController}
    (htable : x.table = s.epochs.table.remove n) (hdrained : ∀ k ∈ s.epochs.table.tallies, k.1 = n → k.2 = (0, 0))
    (hmarker : ∀ q slot sequence, x.commit = some q → q.phase ≠ .markerWriting slot sequence) :
    (s.setEpochs x).Counted := by
  refine h.setEpochs ?_ ?_ fun q slot sequence hq hphase => absurd hphase (hmarker q slot sequence hq)
  · rw [htable, EpochTable.tallies_remove]
    exact fun k hk => List.mem_of_mem_filter hk
  · rw [htable, EpochTable.tallies_remove]
    intro k hk hx
    refine hdrained k hk (by_contra fun hn => hx ?_)
    exact List.mem_filter.mpr ⟨hk, by simpa using hn⟩

theorem EpochTable.mem_tallies_insert {t : EpochTable} (h : t.keys.length ≤ 1) (e : LiveEpoch)
    (k : Word × Nat × Nat) : k ∈ (t.insert e).tallies ↔ k = e.tally ∨ k ∈ t.tallies := by
  unfold EpochTable.keys at h
  unfold EpochTable.tallies
  match ht : t.epochs with
  | [] => simp [EpochTable.epochs_insert_of_nil ht]
  | [x] =>
    obtain hi | hi := EpochTable.epochs_insert_of_one ht e
    · simp [hi]
    · simp [hi, or_comm]
  | x :: y :: rest => simp [ht] at h

/-- An epoch opens, whose number no live epoch has. -/
theorem State.Counted.openEpoch {s : State} (h : s.Counted) (hroom : s.epochs.table.keys.length ≤ 1) {n : Word}
    (hnew : ∀ k ∈ s.epochs.table.tallies, k.1 ≠ n) : (openEpoch n s).Counted := by
  have hmem (k : Word × Nat × Nat) :
      k ∈ (Machine.openEpoch n s).epochs.table.tallies ↔ k = (n, 0, 0) ∨ k ∈ s.epochs.table.tallies :=
    EpochTable.mem_tallies_insert hroom _ k
  constructor
  case counts =>
    intro k hk
    obtain rfl | hk := (hmem k).mp hk
    · refine ⟨(State.heldOf_eq_zero_iff.mpr fun e he hn => ?_).symm,
        (State.dataWritesOf_eq_zero_iff.mpr fun hn => ?_).symm⟩
      · obtain ⟨k, hk, hkn⟩ := h.stamped e he n hn
        exact hnew k hk hkn
      · obtain ⟨k, hk, hkn⟩ := h.released n hn
        exact hnew k hk hkn
    · exact h.counts k hk
  case stamped =>
    intro e he m hm
    obtain ⟨k, hk, hkm⟩ := h.stamped e he m hm
    exact ⟨k, (hmem k).mpr (.inr hk), hkm⟩
  case released =>
    intro m hm
    obtain ⟨k, hk, hkm⟩ := h.released m hm
    exact ⟨k, (hmem k).mpr (.inr hk), hkm⟩
  case names => exact h.names
  case supply => exact h.supply
  case captures => exact h.captures
  case pass => exact h.pass
  case settled => exact h.settled
  case drained =>
    intro q hq hphase k hk
    obtain rfl | hk := (hmem k).mp hk
    · rfl
    · exact h.drained q hq hphase k hk
  case marker =>
    intro q slot sequence hq hphase k hk hn
    obtain rfl | hk := (hmem k).mp hk
    · rfl
    · exact h.marker q slot sequence hq hphase k hk hn
  case store => exact h.store

theorem State.Counted.openEpoch_of_empty {s : State} (h : s.Counted) (hkeys : s.epochs.table.keys = []) (n : Word) :
    (Machine.openEpoch n s).Counted :=
  h.openEpoch (by simp [hkeys]) (by simp [EpochTable.tallies_eq_nil.mpr hkeys])

theorem EpochTable.fst_mem_tallies {t : EpochTable} {n : Word} {st : EpochState} (hkeys : t.keys = [(n, st)])
    {k : Word × Nat × Nat} (hk : k ∈ t.tallies) : k.1 = n := by
  have hmem : k.1 ∈ t.tallies.map Prod.fst := List.mem_map_of_mem hk
  rw [EpochTable.tallies_fst, hkeys] at hmem
  simpa using hmem

/-- The epoch after the one live epoch opens. -/
theorem State.Counted.openNext {s : State} (h : s.Counted) {n : Word} {st : EpochState}
    (hkeys : s.epochs.table.keys = [(n, st)]) : (Machine.openEpoch (n + 1#32) s).Counted :=
  h.openEpoch (by simp [hkeys]) fun k hk hk1 =>
    Word.succ_ne n (hk1.symm.trans (EpochTable.fst_mem_tallies hkeys hk))

/-! ### Changes of other blocks -/

/-- A change of the replay engine: a rollback runs after it when one ran before. -/
theorem State.Counted.setReplay {s : State} (h : s.Counted) {x : ReplayEngine}
    (hsome : x.rollback.isSome = s.replay.rollback.isSome)
    (hsettled : ∀ q, x.rollback = some q → (∀ epochs, q.phase ≠ .settling false epochs) →
      ∀ i : Fin 4, s.capture.slots[i] = none)
    (hdrained : ∀ q, x.rollback = some q → (∀ captures, q.phase ≠ .settling captures false) →
      ∀ k ∈ s.epochs.table.tallies, k.2 = (0, 0)) : (s.setReplay x).Counted :=
  { h with
    captures := fun i c hc =>
      (State.captureRight_congr (t := s.setReplay x) (s := s) rfl hsome i c).mpr (h.captures i c hc)
    pass := by
      intro q hq
      obtain ⟨q', hq'⟩ := Option.isSome_iff_exists.mp (hsome ▸ (show x.rollback.isSome = true from by
        rw [show x.rollback = some q from hq]; rfl))
      exact h.pass q' hq'
    settled := hsettled
    drained := hdrained }

/-- A change of the replay engine that keeps the rollback. -/
theorem State.CountsRight.setReplay_same {s : State} (h : s.CountsRight) {x : ReplayEngine}
    (hrollback : x.rollback = s.replay.rollback) : (s.setReplay x).CountsRight :=
  h.same { State.SameCounts.refl s with rollback := hrollback }

/-- A change of the ring manager. -/
theorem State.CountsRight.setRing {s : State} (h : s.CountsRight) (x : RingManager) : (s.setRing x).CountsRight :=
  h.same (t := s.setRing x) ⟨rfl, rfl, rfl, rfl, rfl, rfl, rfl, rfl⟩

theorem State.Counted.setRing {s : State} (h : s.Counted) (x : RingManager) : (s.setRing x).Counted :=
  h.same (t := s.setRing x) ⟨rfl, rfl, rfl, rfl, rfl, rfl, rfl, rfl⟩

/-- The mode changes; a STORE is in flight in QUIESCED and BYPASS only. -/
theorem State.Counted.setMode_of_store {s : State} (h : s.Counted) {m : Mode}
    (hstore : ∀ c, s.anchor.write.map (·.kind) = some (.store c) → m = .quiesced ∨ m = .bypass) :
    (Machine.setMode m s).Counted := by
  have hmodes : (s.setModes { s.modes with mode := m }).Counted := { h with store := hstore }
  exact hmodes.same (rejudge_sameWork _).counts

theorem State.Counted.setMode {s : State} (h : s.Counted) {m : Mode}
    (hstore : (m = .quiesced ∨ m = .bypass) ∨ (s.modes.mode ≠ .quiesced ∧ s.modes.mode ≠ .bypass)) :
    (Machine.setMode m s).Counted :=
  h.setMode_of_store fun c hc => hstore.elim id fun hno => by
    obtain hq | hb := h.store c hc
    · exact absurd hq hno.1
    · exact absurd hb hno.2

/-- A change of the anchor unit after which no STORE is in flight that was not before. -/
theorem State.CountsRight.setAnchor {s : State} (h : s.CountsRight) {x : AnchorUnit}
    (hstore : ∀ c, x.write.map (·.kind) = some (.store c) → s.anchor.write.map (·.kind) = some (.store c)) :
    (s.setAnchor x).CountsRight := by
  rw [State.countsRight_iff] at h ⊢
  exact fun hmode => { h hmode with store := fun c hc => (h hmode).store c (hstore c hc) }

end Sys2Proof.Machine

/-! The counts of the live epochs through the sequences that commands share: markers, the drain notice, damage, commits
and triggers (R14 to R18, R72 to R86). -/

namespace Sys2Proof.Machine

-- One theorem at a time: the proofs below would otherwise wait for one another in many threads.
set_option Elab.async false

/-! ### Markers and settling -/

theorem halt_countsRight (cause : Cause) (s : State) : (halt cause s).CountsRight :=
  State.countsRight_of_halted (halt_mode cause s)

theorem requestMarker_countsRight {kind : RecordKind} {n : Word} {next : Nat → Word → State → State} {s : State}
    (hnext : ∀ slot sequence, (next slot sequence (assignMarker kind n s)).CountsRight) :
    (requestMarker kind n next s).CountsRight := by
  unfold requestMarker
  split
  · exact hnext _ _
  · exact halt_countsRight _ _

theorem State.Counted.assignMarker {s : State} (h : s.Counted) (kind : RecordKind) (n : Word) :
    (assignMarker kind n s).Counted := h.setRing _

theorem queueCommitRecord_countsRight {s : State} (h : s.Counted) {q : CommitSequence}
    (hdrained : ∀ k ∈ s.epochs.table.tallies, k.1 = q.epoch → k.2 = (0, 0)) : (queueCommitRecord q s).CountsRight := by
  refine requestMarker_countsRight fun slot sequence => State.Counted.right ?_
  refine (h.assignMarker .commit q.epoch).setEpochs (fun k hk => hk) (fun k hk hx => absurd hk hx) ?_
  rintro q' slot' sequence' hq' - k hk hn
  cases hq'
  exact hdrained k hk hn

theorem queueClose_countsRight {s : State} (h : s.Counted) (hr : s.replay.rollback.isSome = true) (highest : Word)
    (hsettled : ∀ i : Fin 4, s.capture.slots[i] = none) (hdrained : ∀ k ∈ s.epochs.table.tallies, k.2 = (0, 0)) :
    (queueClose highest s).CountsRight :=
  requestMarker_countsRight fun _ _ => State.Counted.right <|
    (h.assignMarker .close highest).setReplay hr.symm (fun _ _ _ => hsettled) fun _ _ _ => hdrained

theorem settle_countsRight {s : State} (h : s.Counted) (hr : s.replay.rollback.isSome = true)
    {captures epochs : Bool} (highest : Word) (hsettled : captures = true → ∀ i : Fin 4, s.capture.slots[i] = none)
    (hdrained : epochs = true → ∀ k ∈ s.epochs.table.tallies, k.2 = (0, 0)) :
    (settle captures epochs highest s).CountsRight := by
  unfold settle startWalk
  split_ifs with hboth
  · rw [Bool.and_eq_true] at hboth
    exact queueClose_countsRight h hr highest (hsettled hboth.1) (hdrained hboth.2)
  · rw [Bool.and_eq_true] at hboth
    exact State.Counted.right
      (State.Counted.setReplay h hr.symm (fun _ _ _ => hsettled hboth.1) fun _ _ _ => hdrained hboth.2)
  · refine State.Counted.right (State.Counted.setReplay h hr.symm ?_ ?_)
    · rintro q hq hphase
      cases hq
      exact hsettled (by_contra fun hc => hphase epochs (by rw [Bool.not_eq_true] at hc; rw [hc]))
    · rintro q hq hphase
      cases hq
      exact hdrained (by_contra fun he => hphase captures (by rw [Bool.not_eq_true] at he; rw [he]))

theorem State.EpochShape.running_of_rollback {s : State} (h : s.EpochShape) {r : Rollback}
    (hr : s.replay.rollback = some r) : s.modes.mode ≠ .halted := by
  rw [h.rollback_active (by rw [hr]; rfl)]
  simp

theorem State.EpochShape.running_of_commit {s : State} (h : s.EpochShape) {q : CommitSequence}
    (hq : s.epochs.commit = some q) : s.modes.mode ≠ .halted := by
  intro hmode
  rw [(h.empty (by simp [hmode]) (by simp [hmode])).2] at hq
  cases hq

theorem noteCapturesSettled_countsRight {s : State} (hs : s.EpochShape) (h : s.CountsRight) :
    (noteCapturesSettled s).CountsRight := by
  unfold noteCapturesSettled
  split
  · next r hr =>
    split
    · next epochs hphase =>
      split
      · next hidle =>
        have hc := h.counted (hs.running_of_rollback hr)
        refine settle_countsRight hc (by rw [hr]; rfl) r.highest
          (fun _ => (CaptureUnit.allIdle_iff _).mp hidle) fun he => hc.drained r hr fun captures => ?_
        rw [hphase, he]
        simp
      · exact h
    · exact h
  · exact h

theorem noteEpochsDrained_countsRight {s : State} (hs : s.EpochShape) (h : s.CountsRight) :
    (noteEpochsDrained s).CountsRight := by
  unfold noteEpochsDrained
  split
  · next r hr =>
    split
    · next captures hphase =>
      split
      · next hdrained =>
        have hc := h.counted (hs.running_of_rollback hr)
        refine settle_countsRight hc (by rw [hr]; rfl) r.highest (fun he => hc.settled r hr fun epochs => ?_)
          fun _ => EpochTable.forall_mem_tallies.mpr fun x hx =>
            x.drained_iff_tally.mp (List.all_eq_true.mp hdrained x hx)
        rw [hphase, he]
        simp
      · exact h
    · exact h
  · exact h

/-- While a commit sequence runs the live epochs have different numbers. -/
theorem State.EpochShape.nodup_of_commit {s : State} (h : s.EpochShape) {q : CommitSequence}
    (hq : s.epochs.commit = some q) : (s.epochs.table.keys.map Prod.fst).Nodup := by
  have hne : ∀ n : Word, n + 1#32 ≠ n := Word.succ_ne
  by_cases hactive : s.modes.mode = .active
  · cases hr : s.replay.rollback with
    | some r => simp [(h.rollbackKeys (by simp [hr])).1] at hq
    | none =>
      obtain ⟨n, hkeys, -⟩ | ⟨x, st, hkeys | hkeys, -⟩ := h.activeKeys hactive hr
      · simp [hkeys]
      · simp [hkeys, hne]
      · simp [hkeys, (hne _).symm]
  · by_cases hquiescing : s.modes.mode = .quiescing
    · obtain ⟨q', -, -, ⟨-, hkeys⟩ | ⟨-, hkeys⟩⟩ := h.quiescingKeys hquiescing <;> simp [hkeys]
    · simp [(h.empty hactive hquiescing).1]

theorem commitDrained_tallies {s : State} (hs : s.EpochShape) {q : CommitSequence} (h : s.commitDrained = some q) :
    ∀ k ∈ s.epochs.table.tallies, k.1 = q.epoch → k.2 = (0, 0) := by
  obtain ⟨hcommit, -⟩ := commitDrained_eq_some h
  unfold State.commitDrained at h
  rw [hcommit] at h
  dsimp only at h
  split at h
  case h_1 e _ hfind =>
    split at h
    case isTrue hdrained =>
      obtain ⟨hmem, hn⟩ := EpochTable.find_mem hfind
      intro k hk hkn
      have hnodup : (s.epochs.table.tallies.map Prod.fst).Nodup := by
        rw [EpochTable.tallies_fst]
        exact hs.nodup_of_commit hcommit
      rw [List.inj_on_of_nodup_map hnodup hk (List.mem_map_of_mem hmem) (hkn.trans hn.symm)]
      exact e.drained_iff_tally.mp hdrained.2
    case isFalse => cases h
  case h_2 => cases h

theorem drainNotice_countsRight {s : State} (hs : s.EpochShape) (h : s.CountsRight) : (drainNotice s).CountsRight := by
  unfold drainNotice
  split
  · next q hq =>
    exact queueCommitRecord_countsRight (h.counted (hs.running_of_commit (commitDrained_eq_some hq).1))
      (commitDrained_tallies hs hq)
  · exact noteEpochsDrained_countsRight hs h

/-! ### Damage -/

theorem failCommit_countsRight {s : State} (hs : s.EpochShape) (h : s.CountsRight) {n : Word}
    (hmem : (n, .committing) ∈ s.epochs.table.keys) : (failCommit n s).CountsRight := by
  have hrunning : s.modes.mode ≠ .halted := by
    obtain ⟨hmode, -⟩ | ⟨hmode, -⟩ := hs.of_committing hmem <;> simp [hmode]
  have hfailed : (raise .commitFailed
      (s.setEpochs { s.epochs with
        table := s.epochs.table.modify n fun e => { e with state := .failed }, commit := none })).Counted := by
    refine State.Counted.same ?_ (raise_sameWork _ _).counts
    exact (h.counted hrunning).setEpochs_same (EpochTable.tallies_modify fun _ => rfl) (by simp)
  unfold failCommit
  obtain ⟨hmode, -⟩ | ⟨hmode, hkeys⟩ := hs.of_committing hmem
  · rw [if_neg (by simp [hmode])]
    exact hfailed.right
  · rw [if_pos hmode]
    refine (State.Counted.setMode (hfailed.openNext (st := .failed) ?_) (.inr (by simp [hmode]))).right
    have hkeys' := s.epochs.table.keys_setState n .failed
    rw [hkeys] at hkeys'
    simpa using hkeys'

theorem markDamaged_countsRight {s : State} (hs : s.EpochShape) (h : s.CountsRight) {e : LiveEpoch}
    (he : e ∈ s.epochs.table.epochs) : (markDamaged e s).CountsRight := by
  have hkeys : (s.epochs.table.modify e.number fun x => { x with damaged := true }).keys = s.epochs.table.keys :=
    EpochTable.keys_modify fun _ => rfl
  have hshape : (raise .epochDamaged
      (s.setTable (s.epochs.table.modify e.number fun x => { x with damaged := true }))).EpochShape :=
    hs.same ⟨rfl, rfl, rfl, rfl, hkeys, rfl⟩
  have hmarked : (raise .epochDamaged
      (s.setTable (s.epochs.table.modify e.number fun x => { x with damaged := true }))).CountsRight := by
    refine h.work (State.SameWork.trans ?_ (raise_sameWork _ _))
    exact setEpochs_sameWork (EpochTable.tallies_modify fun _ => rfl) rfl
  unfold markDamaged
  split
  · next hcommitting =>
    refine failCommit_countsRight hshape hmarked ?_
    have hmem := EpochTable.mem_keys he
    rw [LiveEpoch.key, hcommitting, ← hkeys] at hmem
    exact hmem
  · exact hmarked

theorem reportDamage_countsRight {s : State} (hs : s.EpochShape) (h : s.CountsRight) (kind : ErrorKind)
    (epoch line : Word) : (reportDamage kind epoch line s).CountsRight := by
  have hlogged := h.work (logError_sameWork kind (some epoch) (some line) none s)
  dsimp only [reportDamage]
  split
  · next e hfind =>
    split
    · exact hlogged
    · exact markDamaged_countsRight (hs.same .of_eq) hlogged (EpochTable.find_mem hfind).1
  · exact hlogged

/-! ### Commits and triggers -/

/-- An epoch on which the verdict of a commit request is that it is empty has drained. -/
theorem State.EpochShape.drained_of_empty {s : State} (h : s.EpochShape) {e : LiveEpoch}
    (hjudge : s.judgeCommit = .empty e) : ∀ k ∈ s.epochs.table.tallies, k.2 = (0, 0) := by
  obtain ⟨-, -, hkeys, -⟩ := h.of_judgeCommit (.inl hjudge)
  have hopened : s.epochs.table.opened = some e ∧ e.empty = true := by
    unfold State.judgeCommit at hjudge
    split_ifs at hjudge
    split at hjudge
    · cases hjudge
    · next o ho =>
      split_ifs at hjudge with _ hempty
      cases hjudge
      exact ⟨ho, hempty⟩
  obtain ⟨x, hx, -⟩ := List.map_eq_singleton_iff.mp hkeys
  obtain rfl : e = x := by
    have := (EpochTable.opened_mem hopened.1).1
    rw [hx, List.mem_singleton] at this
    exact this
  obtain ⟨-, hheld, hout⟩ := e.empty_iff.mp hopened.2
  intro k hk
  rw [EpochTable.tallies, hx, List.map_singleton, List.mem_singleton] at hk
  rw [hk, LiveEpoch.tally, hheld, hout]

theorem closeEmpty_counted {s : State} (hs : s.EpochShape) (h : s.CountsRight) {e : LiveEpoch}
    (hjudge : s.judgeCommit = .empty e) : (closeEmpty e.number s).Counted := by
  obtain ⟨hmode, -, -, hcommit⟩ := hs.of_judgeCommit (.inl hjudge)
  have hremoved : (s.setEpochs { s.epochs with
      closedThrough := e.number, table := s.epochs.table.remove e.number, heldTrigger := false,
      fullRequest := false }).Counted :=
    (h.counted (by simp [hmode])).removeEpoch rfl (fun k hk _ => hs.drained_of_empty hjudge k hk) (by simp [hcommit])
  exact hremoved.same ((raise_sameWork _ _).trans (bump_sameWork _ _)).counts

theorem closeEmpty_keys {s : State} (hs : s.EpochShape) {e : LiveEpoch} (hjudge : s.judgeCommit = .empty e) :
    (closeEmpty e.number s).epochs.table.keys = [] :=
  EpochTable.keys_remove_one (hs.of_judgeCommit (.inl hjudge)).2.2.1

theorem commitEmpty_countsRight {s : State} (hs : s.EpochShape) (h : s.CountsRight) {e : LiveEpoch}
    (hjudge : s.judgeCommit = .empty e) : (commitEmpty e.number s).CountsRight :=
  ((closeEmpty_counted hs h hjudge).openEpoch_of_empty (closeEmpty_keys hs hjudge) _).right

theorem startCommit_counted {s : State} (h : s.Counted) (purpose : CommitPurpose) (n : Word) :
    (startCommit purpose n s).Counted := by
  have hset : (s.setEpochs { s.epochs with
      table := s.epochs.table.modify n fun e => { e with state := .committing }
      commit := some { epoch := n, purpose := purpose, phase := .draining }
      heldTrigger := false, fullRequest := false }).Counted := by
    refine h.setEpochs_same (EpochTable.tallies_modify fun _ => rfl) ?_
    rintro q slot sequence hq hphase
    cases hq
    cases hphase
  exact hset.same ⟨rfl, rfl, rfl, rfl, rfl, rfl, rfl, rfl⟩

theorem commitOpen_countsRight {s : State} (hs : s.EpochShape) (h : s.CountsRight) {e : LiveEpoch}
    (hjudge : s.judgeCommit = .commits e) : (commitOpen e.number s).CountsRight := by
  obtain ⟨hmode, -, hkeys, -⟩ := hs.of_judgeCommit (.inr hjudge)
  refine drainNotice_countsRight (commitOpened_epochShape hs hjudge) (State.Counted.right ?_)
  exact (startCommit_counted (h.counted (by simp [hmode])) .commit e.number).openNext (startCommit_keys hkeys .commit)

theorem quiesceEmpty_countsRight {s : State} (hs : s.EpochShape) (h : s.CountsRight) {e : LiveEpoch}
    (hjudge : s.judgeCommit = .empty e) : (quiesceEmpty e.number s).CountsRight := by
  refine State.Counted.right (State.Counted.same ?_ (raise_sameWork _ _).counts)
  exact (closeEmpty_counted hs h hjudge).setMode (.inl (.inl rfl))

theorem quiesceOpen_countsRight {s : State} (hs : s.EpochShape) (h : s.CountsRight) {e : LiveEpoch}
    (hjudge : s.judgeCommit = .commits e) : (quiesceOpen e.number s).CountsRight := by
  obtain ⟨hmode, -⟩ := hs.of_judgeCommit (.inr hjudge)
  refine drainNotice_countsRight (quiesceOpened_epochShape hs hjudge) (State.Counted.right ?_)
  exact (startCommit_counted (h.counted (by simp [hmode])) .quiesce e.number).setMode (.inr (by simp [hmode]))

theorem fireTrigger_countsRight {s : State} (hs : s.EpochShape) (h : s.CountsRight) (full : Bool) :
    (fireTrigger full s).CountsRight := by
  unfold fireTrigger
  split
  · split
    · next hjudge => exact commitEmpty_countsRight hs h hjudge
    · next hjudge => exact commitOpen_countsRight hs h hjudge
    · exact h.work (setEpochs_sameWork rfl rfl)
    · exact h.work (setEpochs_sameWork rfl rfl)
    · exact h
    · exact h
  · exact h

theorem reexamine_countsRight {s : State} (hs : s.EpochShape) (h : s.CountsRight) : (reexamine s).CountsRight := by
  have hshape : (s.setEpochs { s.epochs with heldTrigger := false }).EpochShape := hs.same (sameShape_setEpochs rfl rfl)
  have hcleared : (s.setEpochs { s.epochs with heldTrigger := false }).CountsRight := h.work (setEpochs_sameWork rfl rfl)
  dsimp only [reexamine]
  split
  · exact fireTrigger_countsRight hshape hcleared _
  · exact hcleared

theorem updateBlocked_countsRight {s : State} (hs : s.EpochShape) (h : s.CountsRight) :
    (updateBlocked s).CountsRight := by
  have hblocked := h.work (setRing_sameWork (s := s) (x := { s.ring with blocked := s.blockedNow }) rfl rfl rfl)
  dsimp only [updateBlocked]
  split_ifs
  · exact hblocked
  · exact fireTrigger_countsRight (hs.same .of_eq) (hblocked.work (raise_sameWork _ _)) _
  · exact hblocked.work (raise_sameWork _ _)
  · exact hblocked.work (setEpochs_sameWork rfl rfl)

theorem updateSpace_countsRight {s : State} (hs : s.EpochShape) (h : s.CountsRight) : (updateSpace s).CountsRight := by
  have hlow := updateBlocked_countsRight (hs.same (updateLow_sameShape s)) (h.work (updateLow_sameWork s))
  exact hlow.work (updateLow_sameWork _)

end Sys2Proof.Machine

/-! The counts of the live epochs through the anchor unit and the replay engine (R79 to R82, R92 to R104, R138 to
R145). -/

namespace Sys2Proof.Machine

-- One theorem at a time: the proofs below would otherwise wait for one another in many threads.
set_option Elab.async false

/-! ### Anchor writes -/

theorem startUpdate_countsRight {s : State} (h : s.CountsRight) (tail : Nat) (sequence : Word) (endsRecovery : Bool)
    (fields : AnchorFields) : (startAnchorWrite (.update tail sequence endsRecovery) fields s).CountsRight :=
  h.setAnchor fun c hc => by cases hc

theorem buildUpdate_countsRight {s : State} (h : s.CountsRight) : (buildUpdate s).CountsRight := by
  have hclear : (s.setAnchor { s.anchor with pendingUpdate := false }).CountsRight :=
    h.work (setAnchor_sameWork rfl rfl rfl)
  unfold buildUpdate
  split
  · exact startUpdate_countsRight hclear _ _ _ _
  · exact startUpdate_countsRight hclear _ _ _ _

theorem requestUpdate_countsRight {s : State} (h : s.CountsRight) : (requestUpdate s).CountsRight := by
  unfold requestUpdate
  split
  · exact buildUpdate_countsRight h
  · exact h.work (setAnchor_sameWork rfl rfl rfl)

theorem buildPending_countsRight {s : State} (h : s.CountsRight) : (buildPending s).CountsRight := by
  unfold buildPending
  split
  · exact buildUpdate_countsRight h
  · exact h

theorem completeRecovery_countsRight {s : State} (hs : s.EpochShape) (h : s.CountsRight) :
    (completeRecovery s).CountsRight := by
  unfold completeRecovery
  split
  · exact h
  · next closed hclosed =>
    have hmode := hs.recovery_recovering (ReplayEngine.recovery_isSome_of_anchoring hclosed)
    have hkeys := (hs.empty (by simp [hmode]) (by simp [hmode])).1
    have hended : (raise .recoveryDone ((s.setEpochs { s.epochs with closedThrough := closed }).setReplay
        { s.replay with recovery := none })).Counted :=
      (h.counted (by simp [hmode])).same ⟨rfl, rfl, rfl, rfl, rfl, rfl, rfl, rfl⟩
    have hleaves (m : Mode) : (m = .quiesced ∨ m = .bypass) ∨
        (s.modes.mode ≠ .quiesced ∧ s.modes.mode ≠ .bypass) := .inr (by simp [hmode])
    dsimp only
    split
    · exact (State.Counted.setMode (hended.openEpoch_of_empty hkeys _) (hleaves _)).right
    · exact (State.Counted.setMode hended (hleaves _)).right

theorem completeQuiesce_countsRight {s : State} (hs : s.EpochShape) (h : s.CountsRight) :
    (completeQuiesce s).CountsRight := by
  unfold completeQuiesce
  split
  · next q hq =>
    split
    · have hended : (s.setEpochs { s.epochs with commit := none }).Counted :=
        (h.counted (hs.running_of_commit hq)).setEpochs_same rfl (by simp)
      exact (State.Counted.same (hended.setMode (.inl (.inl rfl))) (raise_sameWork _ _).counts).right
    · exact h
  · exact h

theorem judgeUpdate_sameCounts (w : AnchorWrite) (tail : Nat) (sequence : Word) (endsRecovery : Bool)
    (first second : LineAnswer) (s : State) : s.SameCounts (judgeUpdate w tail sequence endsRecovery first second s) := by
  unfold judgeUpdate
  split
  · exact ⟨rfl, rfl, rfl, rfl, rfl, rfl, rfl, rfl⟩
  · refine (State.SameWork.trans (State.SameWork.trans ?_ (logAnchorFault_sameWork _ _ _ _)) (raise_sameWork _ _)).counts
    exact setAnchor_sameWork rfl rfl rfl

/-- With no live epoch and no capture, hold entries may be discarded. -/
theorem State.Counted.filterHold {s : State} (h : s.Counted) (htallies : s.epochs.table.tallies = [])
    (hslots : ∀ i : Fin 4, s.capture.slots[i] = none) (p : HoldEntry → Bool) :
    (s.setHold { s.hold with entries := s.hold.entries.filter p }).Counted :=
  { h with
    counts := by
      intro k hk
      rw [State.setHold_epochs, htallies] at hk
      cases hk
    stamped := fun e he => h.stamped e (List.mem_of_mem_filter he)
    names := h.names.filter p
    supply := fun e he => h.supply e (List.mem_of_mem_filter he)
    captures := fun i c hc => absurd ((hslots i).symm.trans hc) (by simp)
    pass := fun q hq e he => h.pass q hq e (List.mem_of_mem_filter he) }

theorem installStore_countsRight {s : State} (hs : s.EpochShape) (h : s.Counted)
    (hmode : s.modes.mode = .quiesced ∨ s.modes.mode = .bypass) (w : AnchorWrite) (c : Configuration) :
    (installStore w c s).CountsRight := by
  have hactive : s.modes.mode ≠ .active := by rintro h; simp [h] at hmode
  have hquiescing : s.modes.mode ≠ .quiescing := by rintro h; simp [h] at hmode
  have hfiltered := h.filterHold (EpochTable.tallies_eq_nil.mpr (hs.empty hactive hquiescing).1)
    (h.slot_none_of_mode hs hactive hquiescing) (fun e => !c.inArea e.line)
  refine State.CountsRight.same hfiltered.right ?_
  refine ⟨?_, ?_, ?_, ?_, ?_, ?_, ?_, State.dataWrites_congr ?_⟩ <;> simp [installStore, makeCurrent]

theorem judgeStore_countsRight {s : State} (hs : s.EpochShape) (h : s.CountsRight)
    (hmode : s.modes.mode ≠ .halted → s.modes.mode = .quiesced ∨ s.modes.mode = .bypass) (w : AnchorWrite)
    (c : Configuration) (first second : LineAnswer) : (judgeStore w c first second s).CountsRight := by
  have hlogged := logAnchorFault_sameWork w.target first second s
  dsimp only [judgeStore]
  split_ifs with _ hhalted hhalted
  · exact h.work (makeCurrent_sameWork w s)
  · exact installStore_countsRight hs (h.counted hhalted) (hmode hhalted) w c
  · exact h.work hlogged
  · exact h.work (hlogged.trans (raise_sameWork _ _))

theorem judgeAnchorWrite_countsRight {s : State} (hs : s.EpochShape) (h : s.CountsRight) {w : AnchorWrite}
    (hw : s.anchor.write = some w) (first second : LineAnswer) : (judgeAnchorWrite w first second s).CountsRight := by
  have hfree : (s.setAnchor { s.anchor with write := none }).CountsRight := h.setAnchor fun c hc => by cases hc
  have hshape : s.SameShape (s.setAnchor { s.anchor with write := none }) := setAnchor_sameShape rfl
  dsimp only [judgeAnchorWrite]
  split
  · next tail sequence endsRecovery _ =>
    have hjudged := buildPending_countsRight (hfree.same (judgeUpdate_sameCounts w tail sequence endsRecovery first
      second _))
    have hjudgedShape := hs.same ((hshape.trans (judgeUpdate_sameShape w tail sequence endsRecovery first second _)).trans
      (buildPending_sameShape _))
    have hrecovered := completeRecovery_countsRight hjudgedShape hjudged
    split
    · exact hrecovered
    · exact completeQuiesce_countsRight (completeRecovery_epochShape hjudgedShape) hrecovered
  · next c hkind =>
    refine buildPending_countsRight (judgeStore_countsRight (hs.same hshape) hfree (fun hmode => ?_) w c first second)
    exact (h.counted hmode).store c (by rw [hw, Option.map_some, hkind])

theorem anchorLineAnswered_countsRight {s : State} (hs : s.EpochShape) (h : s.CountsRight) (second : Bool)
    (a : LineAnswer) : (anchorLineAnswered second a s).CountsRight := by
  unfold anchorLineAnswered
  split
  · exact h
  · next w hw =>
    split
    · split
      · exact judgeAnchorWrite_countsRight hs h hw _ a
      · exact h
    · exact h.work (setAnchor_sameWork rfl (by rw [hw]; rfl) rfl)

/-! ### LOADING -/

theorem loadCopy_countsRight {s : State} (h : s.CountsRight) (hmode : s.modes.mode = .loading) (c : Copy)
    (f : AnchorFields) : (loadCopy c f s).CountsRight := by
  refine State.Counted.right (State.Counted.setMode ?_ (.inr ?_))
  · exact (h.counted (by simp [hmode])).same ⟨rfl, rfl, rfl, rfl, rfl, rfl, rfl, rfl⟩
  · simp [hmode]

theorem loadNothing_countsRight {s : State} (h : s.CountsRight) (hmode : s.modes.mode = .loading) :
    (loadNothing s).CountsRight := by
  refine State.Counted.right (State.Counted.same (State.Counted.setMode ?_ (.inl (.inr rfl))) (raise_sameWork _ _).counts)
  exact (h.counted (by simp [hmode])).same ⟨rfl, rfl, rfl, rfl, rfl, rfl, rfl, rfl⟩

theorem anchorReadAnswered_countsRight {s : State} (hs : s.EpochShape) (h : s.CountsRight) (a : ReadAnswer) :
    (anchorReadAnswered a s).CountsRight := by
  unfold anchorReadAnswered
  split
  · exact h
  · next l hl =>
    have hmode := hs.loading_loading (by simp [hl])
    have hkept (x : Loading) : (s.setAnchor { s.anchor with loading := some x }).CountsRight :=
      h.work (setAnchor_sameWork (by simp [hl]) rfl rfl)
    dsimp only
    split_ifs
    · unfold judgeCopies
      split
      · split
        · exact loadCopy_countsRight (hkept _) hmode _ _
        · exact loadNothing_countsRight (hkept _) hmode
      · exact hkept _
    · exact hkept _

/-! ### The replay engine -/

theorem anchorRecovery_countsRight {s : State} (h : s.CountsRight) (q : Recovery) (closed : Word) :
    (anchorRecovery q closed s).CountsRight :=
  requestUpdate_countsRight (h.setReplay_same rfl)

theorem finishRestoring_countsRight {s : State} (h : s.CountsRight) (q : Recovery) :
    (finishRestoring q s).CountsRight := by
  unfold finishRestoring
  split
  · exact anchorRecovery_countsRight h q _
  · refine requestMarker_countsRight fun _ _ => ?_
    exact (h.setRing _).setReplay_same rfl

/-- A rollback that walks goes on walking. -/
theorem State.Counted.walkOn {s : State} (h : s.Counted) {r : Rollback} (hr : s.replay.rollback = some r) {w : Walk}
    (hphase : r.phase = .walking w) {x : ReplayEngine} {next : Walk}
    (hx : x.rollback = some { r with phase := .walking next }) : (s.setReplay x).Counted :=
  State.Counted.setReplay h (by rw [hx, hr]; rfl) (fun _ _ _ => h.settled r hr (by simp [hphase]))
    fun _ _ _ => h.drained r hr (by simp [hphase])

theorem judgeRollbackSlot_countsRight {s : State} (hs : s.EpochShape) (h : s.CountsRight) {r : Rollback}
    (hr : s.replay.rollback = some r) {w : Walk} (hphase : r.phase = .walking w) (head body : List Byte) :
    (judgeRollbackSlot r w head body s).CountsRight := by
  have hc := h.counted (hs.running_of_rollback hr)
  dsimp only [judgeRollbackSlot]
  split
  · exact halt_countsRight _ _
  · split
    · exact queueClose_countsRight (hc.walkOn hr hphase rfl) rfl _ (hc.settled r hr (by simp [hphase]))
        (hc.drained r hr (by simp [hphase]))
    · exact (hc.walkOn hr hphase rfl).right

theorem judgeRecoverySlot_countsRight {s : State} (h : s.CountsRight) (q : Recovery) (w : Walk)
    (head body : List Byte) : (judgeRecoverySlot q w head body s).CountsRight := by
  dsimp only [judgeRecoverySlot]
  split
  · exact halt_countsRight _ _
  · split
    · refine finishRestoring_countsRight ?_ _
      exact h.setReplay_same rfl
    · exact h.setReplay_same rfl

theorem endScan_countsRight {s : State} (h : s.CountsRight) (q : Recovery) (k : Nat) :
    (endScan q k s).CountsRight := by
  dsimp only [endScan]
  split
  · exact anchorRecovery_countsRight (h.setRing _) _ _
  · exact (h.setRing _).setReplay_same rfl

theorem judgeScanSlot_countsRight {s : State} (h : s.CountsRight) (q : Recovery) (k : Nat) (head body : List Byte) :
    (judgeScanSlot q k head body s).CountsRight := by
  have hdropped : (s.setReplay { s.replay with headLine := none }).CountsRight := h.setReplay_same rfl
  dsimp only [judgeScanSlot]
  split
  · exact endScan_countsRight hdropped _ _
  · split
    · exact endScan_countsRight hdropped _ _
    · exact hdropped.setReplay_same rfl

theorem replayBodyRead_countsRight {s : State} (hs : s.EpochShape) (h : s.CountsRight) (body : List Byte) :
    (replayBodyRead body s).CountsRight := by
  unfold replayBodyRead
  split
  · next r _ hr =>
    split
    · next w hphase => exact judgeRollbackSlot_countsRight hs h hr hphase _ _
    · exact h
  · split
    · exact judgeScanSlot_countsRight h _ _ _ _
    · exact judgeRecoverySlot_countsRight h _ _ _ _
    · exact h
  · exact h

theorem replayHeadAnswered_countsRight {s : State} (h : s.CountsRight) (a : ReadAnswer) (slot : Nat) :
    (replayHeadAnswered a slot s).CountsRight := by
  unfold replayHeadAnswered
  split
  · cases a with
    | done data => exact h.setReplay_same rfl
    | fault => exact halt_countsRight _ _
  · exact h

theorem replayBodyAnswered_countsRight {s : State} (hs : s.EpochShape) (h : s.CountsRight) (a : ReadAnswer)
    (slot : Nat) : (replayBodyAnswered a slot s).CountsRight := by
  unfold replayBodyAnswered
  split
  · cases a with
    | done data => exact replayBodyRead_countsRight hs h data
    | fault => exact halt_countsRight _ _
  · exact h

theorem restoreDone_countsRight {s : State} (hs : s.EpochShape) (h : s.CountsRight) : (restoreDone s).CountsRight := by
  unfold restoreDone
  split
  · next _ r hr =>
    split
    · next w hphase =>
      have hc := h.counted (hs.running_of_rollback hr)
      dsimp only
      split
      · exact queueClose_countsRight (hc.walkOn hr hphase rfl) rfl _ (hc.settled r hr (by simp [hphase]))
          (hc.drained r hr (by simp [hphase]))
      · exact State.Counted.right (hc.walkOn hr hphase rfl)
    · exact h
  · split
    · dsimp only
      split
      · refine finishRestoring_countsRight ?_ _
        exact h.setReplay_same rfl
      · exact h.setReplay_same rfl
    · exact h
  · exact h

theorem restoreAnswered_countsRight {s : State} (hs : s.EpochShape) (h : s.CountsRight) (a : WriteAnswer) (slot : Nat)
    (epoch line : Word) : (restoreAnswered a slot epoch line s).CountsRight := by
  cases a with
  | done => exact restoreDone_countsRight hs h
  | fault =>
    simp only [restoreAnswered, restoreFaulted]
    split
    · exact halt_countsRight _ _
    · exact h

end Sys2Proof.Machine

/-! The counts of the live epochs through the hold queue and its data writes (R10 to R12, R40 to R48). -/

namespace Sys2Proof.Machine

-- One theorem at a time: the proofs below would otherwise wait for one another in many threads.
set_option Elab.async false

/-! ### Counts that change -/

theorem EpochTable.tallies_modify_of {t : EpochTable} {n : Word} {f : LiveEpoch → LiveEpoch}
    {g : Word × Nat × Nat → Word × Nat × Nat} (hf : ∀ e, (f e).tally = g e.tally) :
    (t.modify n f).tallies = t.tallies.map fun k => if k.1 = n then g k else k := by
  simp only [EpochTable.tallies, EpochTable.modify, EpochTable.epochs_map, List.map_map]
  refine List.map_congr_left fun e _ => ?_
  by_cases h : e.number = n
  · subst h
    exact (congrArg LiveEpoch.tally (if_pos rfl)).trans ((hf e).trans (if_pos rfl).symm)
  · exact (congrArg LiveEpoch.tally (if_neg h)).trans (if_neg h).symm

/-- The counts of the live epochs after a change that keeps their numbers: the rest of `State.Counted` apart, what a
change of the hold queue, of the data writes or of the counts has to keep. -/
theorem State.Counted.recount {s t : State} {f : Word × Nat × Nat → Word × Nat × Nat}
    (htallies : t.epochs.table.tallies = s.epochs.table.tallies.map f)
    (hf : ∀ k ∈ s.epochs.table.tallies, f k = (k.1, t.heldOf k.1, t.dataWritesOf k.1))
    (hstamped : ∀ e ∈ t.hold.entries, ∀ n, e.cls.epoch = some n → ∃ k ∈ s.epochs.table.tallies, k.1 = n)
    (hreleased : ∀ n ∈ t.dataWrites, ∃ k ∈ s.epochs.table.tallies, k.1 = n)
    (hheld : t.hold.entries.Pairwise (fun x y => x.id ≠ y.id) ∧
      ∀ e ∈ t.hold.entries, e.id < t.hold.nextId ∧ ∀ key, e.tag = some key → e.cls.epoch = some key.epoch)
    (hcaptures : ∀ (i : Fin 4) (c : Capture), t.capture.slots[i] = some c → t.CaptureRight i c)
    (hrollback : ∀ q, t.replay.rollback = some q → (∀ e ∈ t.hold.entries, e.cls = .pass) ∧
      ((∀ epochs, q.phase ≠ .settling false epochs) → ∀ i : Fin 4, t.capture.slots[i] = none) ∧
      ((∀ captures, q.phase ≠ .settling captures false) →
        ∀ k ∈ s.epochs.table.tallies, t.heldOf k.1 = 0 ∧ t.dataWritesOf k.1 = 0))
    (hmarker : ∀ q slot sequence, t.epochs.commit = some q → q.phase = .markerWriting slot sequence →
      ∀ k ∈ s.epochs.table.tallies, k.1 = q.epoch → t.heldOf k.1 = 0 ∧ t.dataWritesOf k.1 = 0)
    (hstore : ∀ c, t.anchor.write.map (·.kind) = some (.store c) → t.modes.mode = .quiesced ∨ t.modes.mode = .bypass) :
    t.Counted := by
  have hmem {p : Word × Nat × Nat → Prop} (hp : ∀ k ∈ s.epochs.table.tallies, p (f k)) :
      ∀ k ∈ t.epochs.table.tallies, p k := by
    rw [htallies]
    exact List.forall_mem_map.mpr hp
  have hlive {n : Word} (hn : ∃ k ∈ s.epochs.table.tallies, k.1 = n) : ∃ k ∈ t.epochs.table.tallies, k.1 = n := by
    obtain ⟨k, hk, rfl⟩ := hn
    rw [htallies]
    exact ⟨f k, List.mem_map_of_mem hk, by rw [hf k hk]⟩
  refine ⟨hmem fun k hk => by rw [hf k hk]; exact ⟨rfl, rfl⟩, fun e he n hn => hlive (hstamped e he n hn),
    fun n hn => hlive (hreleased n hn), hheld.1, hheld.2, hcaptures, fun q hq => (hrollback q hq).1,
    fun q hq => (hrollback q hq).2.1, fun q hq hphase => hmem fun k hk => ?_,
    fun q slot sequence hq hphase => hmem fun k hk hn => ?_, hstore⟩
  · obtain ⟨hheld, hout⟩ := (hrollback q hq).2.2 hphase k hk
    rw [hf k hk, hheld, hout]
  · rw [hf k hk] at hn ⊢
    obtain ⟨hheld, hout⟩ := hmarker q slot sequence hq hphase k hk hn
    rw [hheld, hout]

/-- The counts of an epoch that has drained are 0. -/
theorem State.Counted.zero {s : State} (h : s.Counted) {k : Word × Nat × Nat} (hk : k ∈ s.epochs.table.tallies)
    (hzero : k.2 = (0, 0)) : s.heldOf k.1 = 0 ∧ s.dataWritesOf k.1 = 0 := by
  obtain ⟨hheld, hout⟩ := h.counts k hk
  rw [hzero] at hheld hout
  exact ⟨hheld.symm, hout.symm⟩

theorem State.Counted.rollbackRight {s : State} (h : s.Counted) :
    ∀ q, s.replay.rollback = some q → (∀ e ∈ s.hold.entries, e.cls = .pass) ∧
      ((∀ epochs, q.phase ≠ .settling false epochs) → ∀ i : Fin 4, s.capture.slots[i] = none) ∧
      ((∀ captures, q.phase ≠ .settling captures false) →
        ∀ k ∈ s.epochs.table.tallies, s.heldOf k.1 = 0 ∧ s.dataWritesOf k.1 = 0) :=
  fun q hq => ⟨h.pass q hq, h.settled q hq, fun hphase k hk => h.zero hk (h.drained q hq hphase k hk)⟩

theorem State.Counted.tally_eq {s : State} (h : s.Counted) {k : Word × Nat × Nat} (hk : k ∈ s.epochs.table.tallies) :
    k = (k.1, s.heldOf k.1, s.dataWritesOf k.1) := by
  obtain ⟨hheld, hout⟩ := h.counts k hk
  rw [← hheld, ← hout]

/-! ### Data writes answered -/

theorem State.Awaits.dataWrites {s : State} {e : MemoryEntry} {rest : List MemoryEntry} (h : s.Awaits e rest) :
    s.dataWrites = e.source.asDataWrite.toList ++ (s.answered rest).dataWrites := by
  rw [State.dataWrites, h.journalSources, List.filterMap_append, State.dataWrites]
  congr 1
  cases e.source with
  | holdRelease epoch => cases epoch <;> rfl
  | _ => rfl

/-- An answered entry that is no JOURNAL data write leaves. -/
theorem State.Awaits.sameCounts {s : State} {e : MemoryEntry} {rest : List MemoryEntry} (h : s.Awaits e rest)
    (he : e.source.asDataWrite = none) : s.SameCounts (s.answered rest) := by
  refine ⟨rfl, rfl, rfl, rfl, rfl, rfl, rfl, ?_⟩
  rw [h.dataWrites, he]
  rfl

/-- The data write of epoch `n` that is answered is counted no longer (R12). -/
theorem State.Counted.dataWriteDone {s : State} (h : s.Counted) {e : MemoryEntry} {rest : List MemoryEntry}
    (ha : s.Awaits e rest) {n : Word} (hsource : e.source = .holdRelease (some n)) :
    ((s.answered rest).setTable
      ((s.answered rest).epochs.table.modify n fun x => { x with out := x.out - 1 })).Counted := by
  have hwrites : s.dataWrites = n :: (s.answered rest).dataWrites := by rw [ha.dataWrites, hsource]; rfl
  have hcount (m : Word) : s.dataWritesOf m = (s.answered rest).dataWritesOf m + if n = m then 1 else 0 := by
    rw [State.dataWritesOf_eq_count, State.dataWritesOf_eq_count, hwrites, List.count_cons]
    simp
  have hzero {m : Word} (hm : s.heldOf m = 0 ∧ s.dataWritesOf m = 0) :
      s.heldOf m = 0 ∧ (s.answered rest).dataWritesOf m = 0 := ⟨hm.1, by have := hcount m; omega⟩
  refine State.Counted.recount (EpochTable.tallies_modify_of (g := fun k => (k.1, k.2.1, k.2.2 - 1)) fun _ => rfl)
    (fun k hk => ?_) h.stamped (fun m hm => h.released m (hwrites ▸ List.mem_cons_of_mem n hm)) ⟨h.names, h.supply⟩
    h.captures (fun q hq => ?_) (fun q slot sequence hq hphase k hk hn => ?_) h.store
  · have hk' := h.counts k hk
    have hout := hcount k.1
    split
    · next hn =>
      rw [if_pos hn.symm] at hout
      exact Prod.ext rfl (Prod.ext hk'.1 (by
        show k.2.2 - 1 = (s.answered rest).dataWritesOf k.1
        omega))
    · next hn =>
      rw [if_neg (Ne.symm hn)] at hout
      exact (h.tally_eq hk).trans (by rw [hout]; rfl)
  · obtain ⟨hpass, hsettled, hdrained⟩ := h.rollbackRight q hq
    exact ⟨hpass, hsettled, fun hphase k hk => hzero (hdrained hphase k hk)⟩
  · exact hzero (h.zero hk (h.marker q slot sequence hq hphase k hk hn))

theorem dataWriteAnswered_countsRight {s : State} (hs : s.EpochShape) (h : s.CountsRight)
    (hmode : s.modes.mode ≠ .halted) {e : MemoryEntry} {rest : List MemoryEntry} (ha : s.Awaits e rest) {n : Word}
    (hsource : e.source = .holdRelease (some n)) (a : WriteAnswer) :
    (dataWriteAnswered a n e (s.answered rest)).CountsRight := by
  have hcounted := ((h.counted hmode).dataWriteDone ha hsource).right
  have hshape : ((s.answered rest).setTable
      ((s.answered rest).epochs.table.modify n fun x => { x with out := x.out - 1 })).EpochShape :=
    hs.same ⟨rfl, rfl, rfl, rfl, EpochTable.keys_modify fun _ => rfl, rfl⟩
  cases a with
  | done => exact drainNotice_countsRight hshape hcounted
  | fault =>
    exact drainNotice_countsRight (reportDamage_epochShape hshape _ _ _) (reportDamage_countsRight hshape hcounted _ _ _)

/-! ### Writes taken -/

/-- An entry joins the hold queue, of no epoch or of a live one, which counts it (R10, R11, R40). -/
theorem State.Counted.addEntry {s t : State} (h : s.Counted) {e : HoldEntry} (hid : e.id = s.hold.nextId)
    (htag : ∀ key, e.tag = some key → e.cls.epoch = some key.epoch)
    (hlive : ∀ n, e.cls.epoch = some n → ∃ k ∈ s.epochs.table.tallies, k.1 = n)
    (hpass : ∀ q, s.replay.rollback = some q → e.cls = .pass)
    (hopen : ∀ q, s.epochs.commit = some q → e.cls.epoch ≠ some q.epoch)
    (hhold : t.hold = { entries := s.hold.entries ++ [e], nextId := s.hold.nextId + 1 })
    (htallies : t.epochs.table.tallies =
      s.epochs.table.tallies.map fun k => if e.cls.epoch = some k.1 then (k.1, k.2.1 + 1, k.2.2) else k)
    (hcommit : t.epochs.commit = s.epochs.commit) (hrollback : t.replay.rollback = s.replay.rollback)
    (hslots : t.capture.slots = s.capture.slots) (hwrites : t.dataWrites = s.dataWrites)
    (hstore : t.anchor.write.map (·.kind) = s.anchor.write.map (·.kind) ∧ t.modes.mode = s.modes.mode) : t.Counted := by
  have hentries : t.hold.entries = s.hold.entries ++ [e] := by rw [hhold]
  have hheld (m : Word) : t.heldOf m = s.heldOf m + if e.cls.epoch = some m then 1 else 0 := by
    rw [State.heldOf, hentries, List.countP_append, State.heldOf]
    simp [List.countP_cons]
  have hout := State.dataWritesOf_congr hwrites
  have hof {p : HoldEntry → Prop} (hold : ∀ x ∈ s.hold.entries, p x) (hnew : p e) : ∀ x ∈ t.hold.entries, p x := by
    rw [hentries]
    intro x hx
    obtain hx | hx := List.mem_append.mp hx
    · exact hold x hx
    · rw [List.mem_singleton.mp hx]; exact hnew
  refine State.Counted.recount htallies (fun k hk => ?_) (hof h.stamped hlive) (hwrites ▸ h.released) ⟨?_, ?_⟩ ?_ ?_ ?_ ?_
  · rw [hheld, hout]
    obtain ⟨hk1, hk2⟩ := h.counts k hk
    split
    · rw [hk1, hk2]
    · exact h.tally_eq hk
  · rw [hentries, List.pairwise_append]
    refine ⟨h.names, List.pairwise_singleton _ _, fun x hx y hy => ?_⟩
    rw [List.mem_singleton.mp hy, hid]
    exact Nat.ne_of_lt (h.supply x hx).1
  · refine hof (fun x hx => ?_) ?_ <;> rw [hhold]
    · exact ⟨Nat.lt_succ_of_lt (h.supply x hx).1, (h.supply x hx).2⟩
    · exact ⟨by rw [hid]; exact Nat.lt_succ_self _, htag⟩
  · rw [hslots]
    intro i c hc
    obtain ⟨htagged, howns, hnone, hcancelled⟩ := h.captures i c hc
    rw [State.CaptureRight, hrollback]
    refine ⟨htagged, fun id hid => ?_, hnone, hcancelled⟩
    obtain ⟨x, hx, hx'⟩ := howns id hid
    exact ⟨x, by rw [hentries]; exact List.mem_append_left _ hx, hx'⟩
  · rw [hrollback, hslots]
    intro q hq
    obtain ⟨hpassed, hsettled, hdrained⟩ := h.rollbackRight q hq
    refine ⟨hof hpassed (hpass q hq), hsettled, fun hphase k hk => ?_⟩
    rw [hheld, hout, hpass q hq]
    exact hdrained hphase k hk
  · rw [hcommit]
    intro q slot sequence hq hphase k hk hn
    rw [hheld, hout, if_neg (by rw [hn]; exact hopen q hq)]
    exact h.zero hk (h.marker q slot sequence hq hphase k hk hn)
  · rw [hstore.1, hstore.2]
    exact h.store

theorem takePass_countsRight {s : State} (h : s.CountsRight) (r : HostRequest) : (takePass r s).CountsRight := by
  rw [State.countsRight_iff] at h ⊢
  intro hmode
  exact State.Counted.addEntry (h hmode) rfl (by simp) (by simp [HoldClass.epoch]) (fun _ _ => rfl)
    (by simp [HoldClass.epoch]) rfl (by simp [HoldClass.epoch, takePass, appendHold]) rfl rfl rfl rfl ⟨rfl, rfl⟩

/-- The OPEN epoch is not the one a commit sequence runs for. -/
theorem State.EpochShape.opened_ne_commit {s : State} (h : s.EpochShape) {o : LiveEpoch}
    (ho : s.epochs.table.opened = some o) {q : CommitSequence} (hq : s.epochs.commit = some q) : o.number ≠ q.epoch := by
  obtain ⟨hmem, hstate⟩ := EpochTable.opened_mem ho
  have hkey := EpochTable.mem_keys hmem
  rw [LiveEpoch.key, hstate] at hkey
  by_cases hactive : s.modes.mode = .active
  · cases hr : s.replay.rollback with
    | some r => simp [(h.rollbackKeys (by simp [hr])).1] at hq
    | none =>
      obtain ⟨n, -, hc⟩ | ⟨x, st, hkeys, ⟨-, hc⟩ | ⟨rfl, q', hq', hepoch, -⟩⟩ := h.activeKeys hactive hr
      · simp [hc] at hq
      · simp [hc] at hq
      · cases hq.symm.trans hq'
        rw [hepoch]
        have hn : o.number = x + 1#32 := by obtain hkeys | hkeys := hkeys <;> simpa [hkeys] using hkey
        rw [hn]
        exact Word.succ_ne x
  · by_cases hquiescing : s.modes.mode = .quiescing
    · obtain ⟨q', -, -, ⟨-, hkeys⟩ | ⟨-, hkeys⟩⟩ := h.quiescingKeys hquiescing <;> simp [hkeys] at hkey
    · simp [(h.empty hactive hquiescing).1] at hkey

theorem takeJournal_countsRight {s : State} (hs : s.EpochShape) (h : s.CountsRight) (hr : s.replay.rollback = none)
    {o : LiveEpoch} (ho : s.epochs.table.opened = some o) (r : HostRequest) (window : Fin 8) :
    (takeJournal r window o.number s).CountsRight := by
  rw [State.countsRight_iff] at h ⊢
  intro hmode
  have hc := h (by rwa [takeJournal_modes] at hmode)
  have hlive : ∃ k ∈ s.epochs.table.tallies, k.1 = o.number :=
    ⟨o.tally, List.mem_map_of_mem (EpochTable.opened_mem ho).1, rfl⟩
  have htallies : (s.epochs.table.modify o.number fun e => { e with held := e.held + 1 }).tallies =
      s.epochs.table.tallies.map fun k => if some o.number = some k.1 then (k.1, k.2.1 + 1, k.2.2) else k := by
    rw [EpochTable.tallies_modify_of (g := fun k => (k.1, k.2.1 + 1, k.2.2)) fun _ => rfl]
    refine List.map_congr_left fun k _ => ?_
    simp only [Option.some.injEq, eq_comm]
  have hadd {t : State} {e : HoldEntry} (hid : e.id = s.hold.nextId) (hcls : e.cls = .journal o.number window)
      (htag : e.tag = none ∨ e.tag = some ⟨r.line, o.number⟩)
      (hhold : t.hold = { entries := s.hold.entries ++ [e], nextId := s.hold.nextId + 1 })
      (htable : t.epochs.table.tallies = (s.epochs.table.modify o.number fun e => { e with held := e.held + 1 }).tallies)
      (hsame : t.epochs.commit = s.epochs.commit ∧ t.replay.rollback = s.replay.rollback ∧
        t.capture.slots = s.capture.slots ∧ t.dataWrites = s.dataWrites ∧
        t.anchor.write.map (·.kind) = s.anchor.write.map (·.kind) ∧ t.modes.mode = s.modes.mode) : t.Counted := by
    have hepoch : e.cls.epoch = some o.number := by rw [hcls]; rfl
    obtain ⟨hcommit, hrollback, hslots, hwrites, hstore⟩ := hsame
    refine State.Counted.addEntry hc hid ?_ ?_ (fun q hq => ?_) (fun q hq hn => ?_) hhold ?_ hcommit hrollback hslots
      hwrites hstore
    · rintro key hkey
      obtain hnone | hsome := htag
      · rw [hnone] at hkey; cases hkey
      · rw [hsome] at hkey
        cases hkey
        exact hepoch
    · rintro n hn
      cases hepoch.symm.trans hn
      exact hlive
    · rw [hr] at hq; cases hq
    · exact hs.opened_ne_commit ho hq (Option.some.inj (hepoch.symm.trans hn))
    · rw [htable, htallies, hepoch]
  dsimp only [takeJournal]
  split
  · exact hadd rfl rfl (.inl rfl) rfl rfl ⟨rfl, rfl, rfl, rfl, rfl, rfl⟩
  · exact hadd rfl rfl (.inr rfl) rfl rfl ⟨rfl, rfl, rfl, rfl, rfl, rfl⟩
  · split
    · exact hadd rfl rfl (.inr rfl) rfl rfl ⟨rfl, rfl, rfl, rfl, rfl, rfl⟩
    · exact hadd rfl rfl (.inl rfl) rfl rfl ⟨rfl, rfl, rfl, rfl, rfl, rfl⟩

theorem takeWrite_countsRight {s : State} (hs : s.EpochShape) (h : s.CountsRight) (r : HostRequest) {journaled : Bool}
    (hjudge : journaled = true → s.judge r.kind r.cls = .journal) : (takeWrite r journaled s).CountsRight := by
  have hdiscarded := discardDeferred_sameWork (fun d => d.line == r.line) s
  have hdone (u : State) : u.SameWork (bump .hostWrites (answerHost (.done []) u)) := .of_eq
  unfold takeWrite
  refine State.CountsRight.work ?_ (hdone _)
  split
  · next o w ho _ =>
    obtain ⟨-, hr, -⟩ := State.judge_eq_journal (hjudge rfl)
    exact takeJournal_countsRight (hs.same .of_eq) (h.work hdiscarded) (hdiscarded.rollback.trans hr) ho r w
  · exact takePass_countsRight (h.work hdiscarded) r

theorem offerWrite_countsRight {s : State} (hs : s.EpochShape) (h : s.CountsRight) (r : HostRequest) {journaled : Bool}
    (hjudge : journaled = true → s.judge r.kind r.cls = .journal) : (offerWrite r journaled s).CountsRight := by
  unfold offerWrite
  split
  · exact takeWrite_countsRight hs h r hjudge
  · exact h.work .of_eq

/-! ### The head entry released -/

/-- The host side presents no release. -/
theorem hostSide_ne_hold (s : State) : s.hostSide ≠ some .hold := by
  unfold State.hostSide
  split
  · simp
  · simp [Option.map_eq_some_iff]

/-- A hold entry is released only when it is READY (R46, R110). -/
theorem holdSide_of_arbiter {s : State} (h : s.arbiter = some .hold) : s.holdSide = true := by
  have hlevel : s.fifthLevel = some .hold := by
    unfold State.arbiter at h
    split_ifs at h
    · cases h
    · cases h
    · cases h
    · cases h
    · exact h
  unfold State.fifthLevel at hlevel
  cases hside : s.holdSide with
  | true => rfl
  | false =>
    rw [hside] at hlevel
    cases hhost : s.hostSide with
    | none => rw [hhost] at hlevel; cases hlevel
    | some g => rw [hhost] at hlevel; exact absurd (hhost.trans hlevel) (hostSide_ne_hold s)

end Sys2Proof.Machine

/-! The counts of the live epochs through a release and through the captures (R44 to R50, R61 to R69). -/

namespace Sys2Proof.Machine

-- One theorem at a time: the proofs below would otherwise wait for one another in many threads.
set_option Elab.async false

/-! ### A release -/

/-- The head entry, which serves no capture, leaves the hold queue as a data write: its epoch, if any, counts it there
(R11, R12, R47). -/
theorem State.Counted.releaseEntry {s t : State} (h : s.Counted) {e : HoldEntry} {rest : List HoldEntry}
    (hentries : s.hold.entries = e :: rest) (hready : e.state ≠ .needsCapture)
    (hhold : t.hold = { s.hold with entries := rest })
    (htallies : t.epochs.table.tallies =
      s.epochs.table.tallies.map fun k => if e.cls.epoch = some k.1 then (k.1, k.2.1 - 1, k.2.2 + 1) else k)
    (hcommit : t.epochs.commit = s.epochs.commit) (hrollback : t.replay.rollback = s.replay.rollback)
    (hslots : t.capture.slots = s.capture.slots) (hwrites : t.dataWrites = s.dataWrites ++ e.cls.epoch.toList)
    (hstore : t.anchor.write.map (·.kind) = s.anchor.write.map (·.kind) ∧ t.modes.mode = s.modes.mode) : t.Counted := by
  have hrest : t.hold.entries = rest := by rw [hhold]
  have hheld (m : Word) : s.heldOf m = t.heldOf m + if e.cls.epoch = some m then 1 else 0 := by
    rw [State.heldOf, hentries, State.heldOf, hrest, List.countP_cons]
    simp
  have hout (m : Word) : t.dataWritesOf m = s.dataWritesOf m + if e.cls.epoch = some m then 1 else 0 := by
    rw [State.dataWritesOf_eq_count, State.dataWritesOf_eq_count, hwrites, List.count_append]
    cases e.cls.epoch <;> simp [List.count_cons]
  have hzero {m : Word} (hm : s.heldOf m = 0 ∧ s.dataWritesOf m = 0) : t.heldOf m = 0 ∧ t.dataWritesOf m = 0 := by
    have h1 := hheld m
    have h2 := hout m
    omega
  have hof {p : HoldEntry → Prop} (hp : ∀ x ∈ s.hold.entries, p x) : ∀ x ∈ t.hold.entries, p x := by
    rw [hentries] at hp
    rw [hrest]
    exact fun x hx => hp x (List.mem_cons_of_mem e hx)
  refine State.Counted.recount htallies (fun k hk => ?_) (hof h.stamped) (fun n hn => ?_) ⟨?_, ?_⟩ ?_ ?_ ?_ ?_
  · obtain ⟨hk1, hk2⟩ := h.counts k hk
    have h1 := hheld k.1
    have h2 := hout k.1
    split
    · next hn =>
      rw [if_pos hn] at h1 h2
      rw [show k.2.1 - 1 = t.heldOf k.1 by omega, show k.2.2 + 1 = t.dataWritesOf k.1 by omega]
    · next hn =>
      rw [if_neg hn] at h1 h2
      exact (h.tally_eq hk).trans (by rw [show s.heldOf k.1 = t.heldOf k.1 by omega, h2]; rfl)
  · rw [hwrites] at hn
    obtain hn | hn := List.mem_append.mp hn
    · exact h.released n hn
    · exact h.stamped e (by rw [hentries]; exact List.mem_cons_self) n (Option.mem_toList.mp hn)
  · have hnames := h.names
    rw [hentries] at hnames
    rw [hrest]
    exact (List.pairwise_cons.mp hnames).2
  · rw [hhold]
    exact fun x hx => h.supply x (by rw [hentries]; exact List.mem_cons_of_mem e hx)
  · rw [hslots]
    intro i c hc
    obtain ⟨htagged, howns, hnone, hcancelled⟩ := h.captures i c hc
    rw [State.CaptureRight, hrollback]
    refine ⟨htagged, fun id hid => ?_, hnone, hcancelled⟩
    obtain ⟨x, hx, hxid, hxepoch, hxstate, hxcapture⟩ := howns id hid
    rw [hentries] at hx
    obtain rfl | hx := List.mem_cons.mp hx
    · exact absurd hxstate hready
    · exact ⟨x, by rw [hrest]; exact hx, hxid, hxepoch, hxstate, hxcapture⟩
  · rw [hrollback, hslots]
    intro q hq
    obtain ⟨hpassed, hsettled, hdrained⟩ := h.rollbackRight q hq
    exact ⟨hof hpassed, hsettled, fun hphase k hk => hzero (hdrained hphase k hk)⟩
  · rw [hcommit]
    exact fun q slot sequence hq hphase k hk hn => hzero (h.zero hk (h.marker q slot sequence hq hphase k hk hn))
  · rw [hstore.1, hstore.2]
    exact h.store

theorem releaseHead_countsRight {s : State} (h : s.Counted) (hside : s.holdSide = true) :
    (releaseHead s).CountsRight := by
  obtain ⟨e, rest, hentries, hready⟩ := s.holdSide_iff.mp hside
  have hneeds : e.state ≠ .needsCapture := by simp [hready]
  refine State.Counted.right ?_
  cases hcls : e.cls with
  | pass =>
    rw [releaseHead_of_pass hentries hcls]
    refine h.releaseEntry hentries hneeds rfl ?_ rfl rfl rfl ?_ ⟨rfl, rfl⟩
    · simp [hcls, HoldClass.epoch]
    · simp [State.dataWrites, State.journalSources, hcls, HoldClass.epoch, writeEntry, Source.ofJournal]
  | journal n window =>
    rw [releaseHead_of_journal hentries hcls]
    refine h.releaseEntry hentries hneeds rfl ?_ rfl rfl rfl ?_ ⟨rfl, rfl⟩
    · refine (EpochTable.tallies_modify_of (g := fun k => (k.1, k.2.1 - 1, k.2.2 + 1)) fun _ => rfl).trans ?_
      simp only [hcls, HoldClass.epoch, Option.some.injEq, eq_comm]
    · simp [State.dataWrites, State.journalSources, hcls, HoldClass.epoch, writeEntry, Source.ofJournal,
        Source.asDataWrite]

/-! ### Captures -/

/-- The hold entries change, each keeping its name and its class: what is left to keep of `State.Counted` is the owner of
each capture, and IDLE slots while a rollback runs. -/
theorem State.Counted.mapHold {s t : State} (h : s.Counted) {f : HoldEntry → HoldEntry}
    (hf : ∀ e, (f e).id = e.id ∧ (f e).cls = e.cls ∧ ((f e).tag = e.tag ∨ (f e).tag = none))
    (hhold : t.hold = { s.hold with entries := s.hold.entries.map f })
    (htallies : t.epochs.table.tallies = s.epochs.table.tallies) (hcommit : t.epochs.commit = s.epochs.commit)
    (hrollback : t.replay.rollback = s.replay.rollback) (hwrites : t.dataWrites = s.dataWrites)
    (hstore : t.anchor.write.map (·.kind) = s.anchor.write.map (·.kind) ∧ t.modes.mode = s.modes.mode)
    (hidle : s.replay.rollback.isSome = true → ∀ i : Fin 4, s.capture.slots[i] = none → t.capture.slots[i] = none)
    (hcaptures : ∀ (i : Fin 4) (c : Capture), t.capture.slots[i] = some c → t.CaptureRight i c) : t.Counted := by
  have hentries : t.hold.entries = s.hold.entries.map f := by rw [hhold]
  have hheld (m : Word) : t.heldOf m = s.heldOf m := by
    simp only [State.heldOf, hentries, List.countP_map, Function.comp_def, (hf _).2.1]
  have hout := State.dataWritesOf_congr hwrites
  have hof {p : HoldEntry → Prop} (hp : ∀ x ∈ s.hold.entries, p (f x)) : ∀ x ∈ t.hold.entries, p x := by
    rw [hentries]
    exact List.forall_mem_map.mpr hp
  refine State.Counted.recount (s := s) (f := id) (by rw [List.map_id, htallies]) (fun k hk => ?_)
    (hof fun x hx => by rw [(hf x).2.1]; exact h.stamped x hx) (hwrites ▸ h.released) ⟨?_, ?_⟩ hcaptures ?_ ?_ ?_
  · rw [hheld, hout]
    exact h.tally_eq hk
  · rw [hentries, List.pairwise_map]
    simp only [(hf _).1]
    exact h.names
  · refine hof fun x hx => ?_
    rw [(hf x).1, (hf x).2.1, hhold]
    refine ⟨(h.supply x hx).1, fun key hkey => ?_⟩
    obtain htag | htag := (hf x).2.2
    · exact (h.supply x hx).2 key (htag ▸ hkey)
    · rw [htag] at hkey; cases hkey
  · rw [hrollback]
    intro q hq
    obtain ⟨hpassed, hsettled, hdrained⟩ := h.rollbackRight q hq
    refine ⟨hof fun x hx => by rw [(hf x).2.1]; exact hpassed x hx,
      fun hphase i => hidle (by rw [hq]; rfl) i (hsettled hphase i), fun hphase k hk => ?_⟩
    rw [hheld, hout]
    exact hdrained hphase k hk
  · rw [hcommit]
    intro q slot sequence hq hphase k hk hn
    rw [hheld, hout]
    exact h.zero hk (h.marker q slot sequence hq hphase k hk hn)
  · rw [hstore.1, hstore.2]
    exact h.store

theorem CaptureUnit.setSlot_slots (u : CaptureUnit) (i j : Fin 4) (x : Option Capture) :
    (u.setSlot i x).slots[j] = if i = j then x else u.slots[j] := by
  simp [CaptureUnit.setSlot, Vector.getElem_set, Fin.ext_iff]

/-- Two hold entries with one name are one. -/
theorem State.Counted.eq_of_id {s : State} (h : s.Counted) {x y : HoldEntry} (hx : x ∈ s.hold.entries)
    (hy : y ∈ s.hold.entries) (hid : x.id = y.id) : x = y := by
  have hnames : (s.hold.entries.map (·.id)).Nodup := List.pairwise_map.mpr h.names
  exact List.inj_on_of_nodup_map hnames hx hy hid

/-- The capture of another slot has another owner. -/
theorem State.Counted.owner_unique {s : State} (h : s.Counted) {i j : Fin 4} {c d : Capture} {id : Nat}
    (hc : s.OwnsCapture i c id) (hd : s.OwnsCapture j d id) : i = j := by
  obtain ⟨x, hx, hxid, -, -, hxslot⟩ := hc
  obtain ⟨y, hy, hyid, -, -, hyslot⟩ := hd
  rw [h.eq_of_id hx hy (hxid.trans hyid.symm), hyslot] at hxslot
  exact (Option.some.inj hxslot).symm

/-- A capture keeps what is said of it when its owner is kept. -/
theorem State.CaptureRight.keep {s t : State} {i : Fin 4} {c : Capture} (h : s.CaptureRight i c)
    (hrollback : t.replay.rollback = s.replay.rollback) (howner : ∀ id, s.OwnsCapture i c id → c.hold = some id →
      t.OwnsCapture i c id) : t.CaptureRight i c := by
  obtain ⟨htagged, howns, hnone, hcancelled⟩ := h
  rw [State.CaptureRight, hrollback]
  exact ⟨htagged, fun id hid => howner id (howns id hid) hid, hnone, hcancelled⟩

theorem startCapture_counted {s : State} (h : s.Counted) {i : Fin 4} {e : HoldEntry} {epoch : Word} {window : Fin 8}
    (he : e ∈ s.hold.entries) (hwants : e.wantsCapture = true) (hcls : e.cls = .journal epoch window) :
    (startCapture i e epoch window s).Counted := by
  obtain ⟨-, hneeds, hnone⟩ := e.wantsCapture_iff.mp hwants
  have hr : s.replay.rollback = none := by
    cases hq : s.replay.rollback with
    | none => rfl
    | some q => exact absurd (h.pass q hq e he) (by simp [hcls])
  have hepoch : e.cls.epoch = some epoch := by rw [hcls]; rfl
  refine h.mapHold (f := fun x => if x.id = e.id then { x with capture := some i } else x) (fun x => ?_) rfl rfl rfl rfl
    rfl ⟨rfl, rfl⟩ (fun hroll => absurd hroll (by simp [hr])) fun j c hc => ?_
  · split
    · exact ⟨rfl, rfl, .inl rfl⟩
    · exact ⟨rfl, rfl, .inl rfl⟩
  · have hslot : (s.capture.setSlot i (some (⟨e.line, epoch, window, some e.id, e.tag, .reading false⟩ : Capture))).slots[j] =
        some c := hc
    rw [CaptureUnit.setSlot_slots] at hslot
    split at hslot
    · next hij =>
      subst hij
      cases hslot
      refine ⟨fun key hkey => ?_, fun id hid => ?_, ?_, ?_⟩
      · exact (Option.some.inj (hepoch.symm.trans ((h.supply e he).2 key hkey))).symm
      · cases hid
        exact ⟨{ e with capture := some i }, List.mem_map.mpr ⟨e, he, if_pos rfl⟩, rfl, hepoch, hneeds, rfl⟩
      · simp [startCapture, hr]
      · rintro cancelled ⟨⟩
        simp [startCapture, hr]
    · refine (h.captures j c hslot).keep rfl ?_
      rintro id ⟨x, hx, hxid, hxepoch, hxstate, hxslot⟩ -
      have hne : x.id ≠ e.id := by
        intro hid
        rw [h.eq_of_id hx he hid, hnone] at hxslot
        cases hxslot
      exact ⟨x, List.mem_map.mpr ⟨x, hx, if_neg hne⟩, hxid, hxepoch, hxstate, hxslot⟩

theorem firstEligible_some {older : List Word} {entries : List HoldEntry} {e : HoldEntry}
    (h : firstEligible older entries = some e) : e ∈ entries ∧ e.wantsCapture = true := by
  induction entries generalizing older with
  | nil => cases h
  | cons x rest ih =>
    unfold firstEligible at h
    split at h
    · next hx =>
      cases h
      exact ⟨List.mem_cons_self, (Bool.and_eq_true _ _ ▸ hx).1⟩
    · exact ⟨List.mem_cons_of_mem x (ih h).1, (ih h).2⟩

theorem offerCapture_countsRight {s : State} (hs : s.EpochShape) (h : s.Counted) : (offerCapture s).CountsRight := by
  unfold offerCapture
  split
  · next e i he _ =>
    split
    · next epoch window hcls =>
      split
      · obtain ⟨hmem, hwants⟩ := firstEligible_some he
        exact updateSpace_countsRight (hs.same (startCapture_sameShape _ _ _ _ s))
          (startCapture_counted h hmem hwants hcls).right
      · exact h.right
    · exact h.right
  · exact h.right

/-- Capture slot `i` takes `x`. -/
theorem State.Counted.setSlot {s : State} (h : s.Counted) {i : Fin 4} {x : Option Capture} {u : CaptureUnit}
    (hu : u.slots = (s.capture.setSlot i x).slots) (hx : ∀ c, x = some c → s.CaptureRight i c)
    (hidle : s.replay.rollback.isSome = true → s.capture.slots[i] = none → x = none) : (s.setCapture u).Counted := by
  have hslots (j : Fin 4) : u.slots[j] = if i = j then x else s.capture.slots[j] := by
    rw [hu, CaptureUnit.setSlot_slots]
  refine { h with captures := fun j c hc => ?_, settled := fun q hq hphase j => ?_ }
  · have hj : (if i = j then x else s.capture.slots[j]) = some c := (hslots j).symm.trans hc
    split at hj
    · next hij => subst hij; exact hx c hj
    · exact h.captures j c hj
  · show u.slots[j] = none
    rw [hslots]
    have hnone := h.settled q hq hphase
    split
    · exact hidle (by rw [show s.replay.rollback = some q from hq]; rfl) (hnone i)
    · exact hnone j

theorem lineAssigned_counted {s : State} (h : s.Counted) {i : Fin 4} {c : Capture}
    (hslot : s.capture.slots[i] = some c) (data : List Byte) : (s.lineAssigned i c data).Counted := by
  have hwriting : (s.setCapture (s.capture.setSlot i
      (some { c with phase := .writing data s.ring.head s.ring.headSequence }))).Counted := by
    refine h.setSlot (i := i) rfl (fun c' hc' => ?_) fun _ hnone => absurd (hslot.symm.trans hnone) (by simp)
    cases hc'
    obtain ⟨htagged, howns, hnone, -⟩ := h.captures i c hslot
    exact ⟨htagged, howns, hnone, fun cancelled hphase => by cases hphase⟩
  exact hwriting.same ⟨rfl, EpochTable.tallies_modify fun _ => rfl, rfl, rfl, rfl, rfl, rfl, rfl⟩

theorem lineAssigned_sameShape (i : Fin 4) (c : Capture) (data : List Byte) (s : State) :
    s.SameShape (s.lineAssigned i c data) := ⟨rfl, rfl, rfl, rfl, EpochTable.keys_modify fun _ => rfl, rfl⟩

theorem assignLine_countsRight {s : State} (hs : s.EpochShape) (h : s.Counted) {i : Fin 4} {c : Capture}
    (hslot : s.capture.slots[i] = some c) (data : List Byte) : (assignLine i c data s).CountsRight := by
  have hassigned := (lineAssigned_counted h hslot data).right
  rw [assignLine_eq]
  split
  · exact fireTrigger_countsRight (hs.same (lineAssigned_sameShape i c data s)) hassigned false
  · exact hassigned

/-- A READING capture ends without a record. -/
theorem releaseCapture_countsRight {s : State} (h : s.Counted) (i : Fin 4) (c : Capture) :
    (releaseCapture i c s).CountsRight := by
  refine State.CountsRight.work (State.Counted.right ?_) (updateLow_sameWork _)
  exact (h.setRing _).setSlot (i := i) rfl (by simp) fun _ _ => rfl

/-- The entries that one capture serves are not the owners of the others. -/
theorem State.Counted.not_served {s : State} (h : s.Counted) {i j : Fin 4} (hij : i ≠ j) {c : Capture}
    (hc : s.capture.slots[i] = some c) {x : HoldEntry} (hx : x ∈ s.hold.entries) (hneeds : x.state = .needsCapture)
    (hslot : x.capture = some j) : x.servedBy c = false := by
  rw [← Bool.not_eq_true, x.servedBy_iff]
  rintro (hhold | ⟨hwait, -⟩)
  · obtain ⟨-, howns, -⟩ := h.captures i c hc
    obtain ⟨y, hy, hyid, -, -, hyslot⟩ := howns x.id hhold
    rw [h.eq_of_id hy hx hyid, hslot] at hyslot
    exact hij (Option.some.inj hyslot).symm
  · rw [hneeds] at hwait
    cases hwait

/-- The capture in slot `i` ends with its record durable: the entries it serves are READY (R44, R64). -/
theorem State.Counted.endCapture {s : State} (h : s.Counted) {i : Fin 4} {c : Capture}
    (hslot : s.capture.slots[i] = some c) {u : CaptureUnit} (hu : u.slots = (s.capture.setSlot i none).slots) :
    ({ s with
      hold := { s.hold with entries := readyServed c s.hold.entries }, capture := u } : State).Counted := by
  have hslots (j : Fin 4) : u.slots[j] = if i = j then none else s.capture.slots[j] := by
    rw [hu, CaptureUnit.setSlot_slots]
  refine h.mapHold
    (f := fun x => if x.servedBy c then { x with state := .ready, tag := none, capture := none } else x) (fun x => ?_)
    rfl rfl rfl rfl rfl ⟨rfl, rfl⟩ (fun _ j hj => ?_) fun j d hd => ?_
  · split
    · exact ⟨rfl, rfl, .inr rfl⟩
    · exact ⟨rfl, rfl, .inl rfl⟩
  · refine (hslots j).trans ?_
    split
    · rfl
    · exact hj
  · have hd : (if i = j then none else s.capture.slots[j]) = some d := (hslots j).symm.trans hd
    split at hd
    · cases hd
    · next hij =>
      refine (h.captures j d hd).keep rfl ?_
      rintro id ⟨x, hx, hxid, hxepoch, hxstate, hxslot⟩ -
      have hother := h.not_served hij hslot hx hxstate hxslot
      exact ⟨x, List.mem_map.mpr ⟨x, hx, if_neg (by simp [hother])⟩, hxid, hxepoch, hxstate, hxslot⟩

theorem endCapture_countsRight {s : State} (hs : s.EpochShape) (h : s.Counted) {i : Fin 4} {c : Capture}
    (hslot : s.capture.slots[i] = some c) : (endCapture i c s).CountsRight :=
  noteCapturesSettled_countsRight (hs.same (.of_eq rfl rfl rfl rfl)) (h.endCapture hslot rfl).right

/-- The entries that a capture serves are of its epoch. -/
theorem State.Counted.served_epoch {s : State} (h : s.Counted) {i : Fin 4} {c : Capture}
    (hslot : s.capture.slots[i] = some c) {x : HoldEntry} (hx : x ∈ s.hold.entries) (hserved : x.servedBy c = true) :
    x.cls.epoch = some c.epoch := by
  obtain ⟨htagged, howns, -⟩ := h.captures i c hslot
  obtain hhold | ⟨-, hsome, htag⟩ := (x.servedBy_iff c).mp hserved
  · obtain ⟨y, hy, hyid, hyepoch, -⟩ := howns x.id hhold
    rwa [h.eq_of_id hy hx hyid] at hyepoch
  · obtain ⟨key, hkey⟩ := Option.isSome_iff_exists.mp hsome
    rw [(h.supply x hx).2 key hkey, htagged key (htag.symm.trans hkey)]

/-- The state after a capture has failed, its notices apart: the entries it serves are discarded, and its epoch counts
them no longer (R11, R50, R65). -/
def State.captureFailed (s : State) (c : Capture) (u : CaptureUnit) (ring : RingManager) : State :=
  { s with
    ring := ring
    hold := { s.hold with entries := s.hold.entries.filter fun x => !x.servedBy c }
    epochs := { s.epochs with
      table := s.epochs.table.modify c.epoch fun x =>
        { x with held := x.held - (s.hold.entries.filter fun e => e.servedBy c).length } }
    capture := u }

theorem faultCapture_eq_failed (i : Fin 4) (c : Capture) (s : State) :
    faultCapture i c s =
      let t := reportDamage .captureReadFault c.epoch c.line s
      noteCapturesSettled (updateLow (t.captureFailed c
        ({ t.capture with tags := freeTag c.tag t.capture.tags }.setSlot i none)
        { t.ring with promised := t.ring.promised - 1 })) := rfl

theorem State.Counted.held_captureFailed {s : State} (h : s.Counted) {i : Fin 4} {c : Capture}
    (hslot : s.capture.slots[i] = some c) (u : CaptureUnit) (ring : RingManager) (m : Word) :
    s.heldOf m = (s.captureFailed c u ring).heldOf m +
      if c.epoch = m then (s.hold.entries.filter fun e => e.servedBy c).length else 0 := by
  rw [State.heldOf, List.countP_eq_countP_filter_add _ _ (·.servedBy c), Nat.add_comm]
  congr 1
  have hepoch {x : HoldEntry} (hx : x ∈ s.hold.entries.filter fun e => e.servedBy c) :
      x.cls.epoch = some c.epoch := by
    obtain ⟨hx, hserved⟩ := List.mem_filter.mp hx
    exact h.served_epoch hslot hx hserved
  split
  · next hm => exact List.countP_eq_length.mpr fun x hx => by rw [hepoch hx, hm, BEq.rfl]
  · next hm => exact List.countP_eq_zero.mpr fun x hx => by rw [hepoch hx]; simpa using hm

theorem State.Counted.captureFailed {s : State} (h : s.Counted) {i : Fin 4} {c : Capture}
    (hslot : s.capture.slots[i] = some c) {u : CaptureUnit} (hu : u.slots = (s.capture.setSlot i none).slots)
    (ring : RingManager) : (s.captureFailed c u ring).Counted := by
  have hslots (j : Fin 4) : u.slots[j] = if i = j then none else s.capture.slots[j] := by
    rw [hu, CaptureUnit.setSlot_slots]
  have hheld := h.held_captureFailed hslot u ring
  have hzero {m : Word} (hm : s.heldOf m = 0 ∧ s.dataWritesOf m = 0) :
      (s.captureFailed c u ring).heldOf m = 0 ∧ (s.captureFailed c u ring).dataWritesOf m = 0 :=
    ⟨by have := hheld m; omega, hm.2⟩
  refine State.Counted.recount
    (EpochTable.tallies_modify_of
      (g := fun k => (k.1, k.2.1 - (s.hold.entries.filter fun e => e.servedBy c).length, k.2.2)) fun _ => rfl)
    (fun k hk => ?_) (fun x hx => h.stamped x (List.mem_of_mem_filter hx)) h.released
    ⟨h.names.filter _, fun x hx => h.supply x (List.mem_of_mem_filter hx)⟩ (fun j d hd => ?_) (fun q hq => ?_)
    (fun q slot sequence hq hphase k hk hn => hzero (h.zero hk (h.marker q slot sequence hq hphase k hk hn))) h.store
  · obtain ⟨hk1, hk2⟩ := h.counts k hk
    have hk3 := hheld k.1
    split
    · next hn =>
      rw [if_pos hn.symm] at hk3
      rw [hk1, hk2, hk3, Nat.add_sub_cancel]
      rfl
    · next hn =>
      rw [if_neg (Ne.symm hn), Nat.add_zero] at hk3
      exact (h.tally_eq hk).trans (by rw [hk3]; rfl)
  · have hd : (if i = j then none else s.capture.slots[j]) = some d := (hslots j).symm.trans hd
    split at hd
    · cases hd
    · next hij =>
      refine (h.captures j d hd).keep rfl ?_
      rintro id ⟨x, hx, hxid, hxepoch, hxstate, hxslot⟩ -
      have hother := h.not_served hij hslot hx hxstate hxslot
      exact ⟨x, List.mem_filter.mpr ⟨hx, by simp [hother]⟩, hxid, hxepoch, hxstate, hxslot⟩
  · obtain ⟨hpassed, hsettled, hdrained⟩ := h.rollbackRight q hq
    refine ⟨fun x hx => hpassed x (List.mem_of_mem_filter hx), fun hphase j => ?_,
      fun hphase k hk => hzero (hdrained hphase k hk)⟩
    refine (hslots j).trans ?_
    split
    · rfl
    · exact hsettled hphase j

theorem captureFailed_sameShape (c : Capture) (u : CaptureUnit) (ring : RingManager) (s : State) :
    s.SameShape (s.captureFailed c u ring) := ⟨rfl, rfl, rfl, rfl, EpochTable.keys_modify fun _ => rfl, rfl⟩

theorem faultCapture_countsRight {s : State} (hs : s.EpochShape) (h : s.Counted) {i : Fin 4} {c : Capture}
    (hslot : s.capture.slots[i] = some c) : (faultCapture i c s).CountsRight := by
  rw [faultCapture_eq_failed]
  have hreported := reportDamage_epochShape hs .captureReadFault c.epoch c.line
  have hcounts := reportDamage_countsRight hs h.right .captureReadFault c.epoch c.line
  obtain ⟨-, -, -, -, hcapture, -⟩ := reportDamage_untouched .captureReadFault c.epoch c.line s
  generalize reportDamage .captureReadFault c.epoch c.line s = t at *
  have hshape (u : CaptureUnit) (ring : RingManager) : (updateLow (t.captureFailed c u ring)).EpochShape :=
    (hreported.same (captureFailed_sameShape c u ring t)).same (updateLow_sameShape _)
  refine noteCapturesSettled_countsRight (hshape _ _) (State.CountsRight.work ?_ (updateLow_sameWork _))
  rw [State.countsRight_iff] at hcounts ⊢
  intro hmode
  refine (hcounts hmode).captureFailed (i := i) (by rw [hcapture]; exact hslot) ?_ _
  rfl

end Sys2Proof.Machine

/-! The counts of the live epochs through the ends of the sequences, the ABORT and the other commands, and every step. -/

namespace Sys2Proof.Machine

-- One theorem at a time: the proofs below would otherwise wait for one another in many threads.
set_option Elab.async false

/-! ### Records durable -/

theorem CaptureUnit.ofRecord_some {u : CaptureUnit} {info : RecordInfo} {i : Fin 4} {c : Capture}
    (h : u.ofRecord info = some (i, c)) :
    u.slots[i] = some c ∧ ∃ contents, c.phase = .writing contents info.slot info.sequence := by
  obtain ⟨-, j, -, -, hj, -⟩ := List.findSome?_eq_some_iff.mp h
  split at hj
  · next x hx =>
    split at hj
    · next contents slot sequence hphase =>
      split at hj
      · next hkey => cases hj; obtain ⟨rfl, rfl⟩ := hkey; exact ⟨hx, contents, hphase⟩
      · cases hj
    · cases hj
  · cases hj

/-- The commit point: the COMMITTING epoch, which has drained, leaves the table (R78). -/
theorem State.Counted.commitClosed {s : State} (h : s.Counted) {q : CommitSequence} (hq : s.epochs.commit = some q)
    {slot : Nat} {sequence : Word} (hphase : q.phase = .markerWriting slot sequence) :
    (s.setEpochs (s.epochs.committed q)).Counted := by
  refine h.removeEpoch rfl (h.marker q slot sequence hq hphase) fun q' slot' sequence' hq' hphase' => ?_
  have hq' : (match q.purpose with
    | .commit => none
    | .quiesce => some { q with phase := .anchorWait }) = some q' := hq'
  split at hq'
  · cases hq'
  · cases hq'
    cases hphase'

theorem commitPoint_countsRight {s : State} (hs : s.EpochShape) (h : s.Counted)
    (hmarker : ∀ q, s.epochs.commit = some q → ∃ slot sequence, q.phase = .markerWriting slot sequence)
    (info : RecordInfo) : (commitPoint info s).CountsRight := by
  unfold commitPoint
  split
  · next q hq =>
    split
    · obtain ⟨slot, sequence, hphase⟩ := hmarker q hq
      have hnoticed := (h.commitClosed hq hphase).same ((raise_sameWork .commitDone _).trans (bump_sameWork .commits _)).counts
      have hshape := (committed_epochShape hs hq).same ((commitNoticed_sameShape _).trans (requestUpdate_sameShape _))
      dsimp only
      split_ifs
      · exact reexamine_countsRight hshape (requestUpdate_countsRight hnoticed.right)
      · exact requestUpdate_countsRight hnoticed.right
    · exact h.right
  · exact h.right

/-- A rollback ends: its epochs, which have drained, leave the table (R95). -/
theorem endRollback_countsRight {s : State} (hs : s.EpochShape) (h : s.Counted) {r : Rollback}
    (hr : s.replay.rollback = some r) {slot : Nat} {sequence : Word} (hphase : r.phase = .closing slot sequence) :
    (endRollback r s).CountsRight := by
  have hdrained := h.drained r hr (by simp [hphase])
  have hsettled := h.settled r hr (by simp [hphase])
  have hcommit : s.epochs.commit = none := (hs.rollbackKeys (by simp [hr])).1
  have hclosed : (s.setEpochs { s.epochs with closedThrough := r.highest, table := ⟨none, none⟩ }).Counted :=
    h.setEpochs (by simp [EpochTable.tallies, EpochTable.epochs]) (fun k hk _ => hdrained k hk)
      (by simp [EpochTable.tallies, EpochTable.epochs])
  have hended : ((s.setEpochs { s.epochs with closedThrough := r.highest, table := ⟨none, none⟩ }).setRollback
      none).Counted :=
    { hclosed with
      captures := fun i c hc => absurd ((hsettled i).symm.trans hc) (by simp)
      pass := fun q hq => by cases hq
      settled := fun q hq => by cases hq
      drained := fun q hq => by cases hq }
  exact ((requestUpdate_countsRight (hended.openEpoch_of_empty rfl _).right).work (raise_sameWork _ _)).work
    (bump_sameWork _ _)

theorem closeDurable_countsRight {s : State} (hs : s.EpochShape) (h : s.Counted) (info : RecordInfo) :
    (closeDurable info s).CountsRight := by
  unfold closeDurable
  split
  · next r _ hr =>
    split
    · next hphase => exact endRollback_countsRight hs h hr hphase
    · exact h.right
  · split
    · exact anchorRecovery_countsRight h.right _ _
    · exact h.right
  · exact h.right

theorem recordDurable_countsRight {s : State} (hs : s.EpochShape) (h : s.CountsRight) {info : RecordInfo}
    (hmarker : info.kind ≠ .line → ∀ q, s.epochs.commit = some q → ∃ slot sequence, q.phase = .markerWriting slot sequence) :
    (recordDurable info s).CountsRight := by
  by_cases hmode : s.modes.mode = .halted
  · rw [recordDurable_of_halted hmode]
    exact h
  · have hcounted := (h.counted hmode).same (bump_sameWork .records s).counts
    have hshape : (bump .records s).EpochShape := hs.same .of_eq
    cases hkind : info.kind with
    | line =>
      unfold recordDurable
      rw [if_neg hmode, hkind]
      dsimp only
      split
      · next i c hof => exact endCapture_countsRight hshape hcounted (CaptureUnit.ofRecord_some hof).1
      · exact hcounted.right
    | commit =>
      rw [recordDurable_of_commit hmode hkind]
      exact commitPoint_countsRight hshape hcounted (hmarker (by simp [hkind])) info
    | close =>
      rw [recordDurable_of_close hmode hkind]
      exact closeDurable_countsRight hshape hcounted info

/-! ### The ABORT and the other commands -/

theorem CaptureUnit.abort_slot (u : CaptureUnit) (aborted : List Word) (i : Fin 4) :
    (u.abort aborted).slots[i] = u.slots[i].map Capture.cancel := by
  fin_cases i <;> rfl

theorem abortBlocks_counted {s : State} (h : s.Counted) (hcommit : s.epochs.commit = none) : (abortBlocks s).Counted := by
  have hpass : ∀ e ∈ (abortBlocks s).hold.entries, e.cls = .pass := fun e he => by
    by_contra hcls
    exact absurd (e.isJournal_iff.mpr hcls) (by simpa using (List.mem_filter.mp he).2)
  have hheld (m : Word) : (abortBlocks s).heldOf m = 0 :=
    State.heldOf_eq_zero_iff.mpr fun e he => by rw [hpass e he]; exact nofun
  refine State.Counted.recount (f := fun k => (k.1, 0, k.2.2)) ?_ (fun k hk => ?_)
    (fun e he n hn => by rw [hpass e he] at hn; cases hn) h.released
    ⟨h.names.filter _, fun x hx => h.supply x (List.mem_of_mem_filter hx)⟩ (fun i c hc => ?_) (fun q hq => ?_)
    (fun q _ _ hq => by rw [show s.epochs.commit = some q from hq] at hcommit; cases hcommit) h.store
  · simp [abortBlocks, EpochTable.tallies, EpochTable.epochs_map, LiveEpoch.tally, LiveEpoch.rollBack, Function.comp_def]
  · rw [hheld]
    exact Prod.ext rfl (Prod.ext rfl (h.counts k hk).2)
  · obtain ⟨d, hd, rfl⟩ := Option.map_eq_some_iff.mp ((CaptureUnit.abort_slot s.capture _ i).symm.trans hc)
    obtain ⟨htagged, -⟩ := h.captures i d hd
    refine ⟨htagged, fun id hid => (by cases hid), iff_of_true rfl rfl, fun cancelled hphase => ?_⟩
    cases hdphase : d.phase with
    | reading _ => rw [Capture.cancel, hdphase] at hphase; cases hphase; rfl
    | writing _ _ _ => rw [Capture.cancel, hdphase] at hphase; cases hphase
  · cases hq
    exact ⟨hpass, fun hphase => absurd rfl (hphase false), fun hphase => absurd rfl (hphase false)⟩

theorem startRollback_countsRight {s : State} (hs : s.EpochShape) (h : s.CountsRight) (hmode : s.modes.mode = .active)
    (hroll : s.rollingBack = false) (hcommitting : s.epochs.table.has .committing = false) :
    (startRollback s).CountsRight := by
  obtain ⟨-, -, hcommit⟩ := hs.commit_none hmode hroll hcommitting
  rw [startRollback_eq_notices]
  have hshape := (abortBlocks_epochShape hs hmode hroll hcommitting).same
    (abortBegun_sameShape _ fun d => ((abortBlocks s).anchor.working.classify d.line).1 == .journal)
  have hcounted := ((abortBlocks_counted (h.counted (by simp [hmode])) hcommit).right.work
    (discardDeferred_sameWork (fun d => ((abortBlocks s).anchor.working.classify d.line).1 == .journal) _)).work
      (rejudge_sameWork _)
  exact noteEpochsDrained_countsRight (noteCapturesSettled_epochShape hshape)
    (noteCapturesSettled_countsRight hshape hcounted)

theorem resumeActive_countsRight {s : State} (hs : s.EpochShape) (h : s.CountsRight)
    (hmode : s.modes.mode = .quiesced ∨ s.modes.mode = .bypass) (hstore : s.storeInFlight = false) :
    (resumeActive s).CountsRight := by
  have hcounted := h.counted (by rintro hhalted; simp [hhalted] at hmode)
  have hkeys := (hs.empty (by rintro h; simp [h] at hmode) (by rintro h; simp [h] at hmode)).1
  refine State.Counted.right (State.Counted.setMode_of_store ?_ fun c hc => ?_)
  · refine State.Counted.openEpoch_of_empty ?_ (by exact hkeys) _
    refine hcounted.same (State.SameWork.counts ?_)
    exact setModes_sameWork rfl
  · obtain ⟨w, hw, hkind⟩ := Option.map_eq_some_iff.mp hc
    exact absurd (s.storeInFlight_iff.mpr ⟨w, c, hw, hkind⟩) (by simp [hstore])

theorem startStore_countsRight {s : State} (h : s.CountsRight)
    (hmode : s.modes.mode = .quiesced ∨ s.modes.mode = .bypass) : (startStore s).CountsRight := by
  have hcounted := h.counted (by rintro hhalted; simp [hhalted] at hmode)
  exact State.Counted.right { hcounted with store := fun _ _ => hmode }

theorem thaw_countsRight {s : State} (hs : s.EpochShape) (h : s.CountsRight) : (thaw s).CountsRight := by
  have hclear : (s.setModes { s.modes with freeze := false }).CountsRight := h.work (setModes_sameWork rfl)
  dsimp only [thaw]
  split
  · exact updateSpace_countsRight (reexamine_epochShape (setMode_freeze_epochShape hs _))
      (reexamine_countsRight (setMode_freeze_epochShape hs _) hclear)
  · exact hclear

/-- With a request outstanding a timeout halts the bridge (R115). -/
theorem timeOut_mode {s : State} (hq : s.HaltQuiet) {e : MemoryEntry} (he : s.oldestIssued = some e) :
    (timeOut s).modes.mode = .halted := by
  unfold timeOut
  rw [he]
  refine ((foldl_endTimedOut_keepsHalt _ _).stands ?_ (by exact halt_mode _ _)).1
  exact ((logError_halt_keepsHalt _ _ _ _ _ s).trans (setMemory_keepsHalt _ _)).quiet hq

/-! ### Every move and every step -/

theorem enqueue_dataWrites {e : MemoryEntry} (h : e.source.asDataWrite = none) (s : State) :
    (enqueue e s).dataWrites = s.dataWrites := by
  rw [State.dataWrites, enqueue_journalSources, List.filterMap_append, State.dataWrites]
  refine (congrArg _ ?_).trans (List.append_nil _)
  cases hsource : e.source.ofJournal with
  | none => rfl
  | some x =>
    rw [Source.ofJournal_eq_some hsource]
    simp [h]

theorem grantCapture_sameCounts (s : State) : s.SameCounts (grantCapture s) := by
  unfold grantCapture
  split
  · exact .refl s
  · split
    · exact .refl s
    · exact ⟨rfl, rfl, rfl, rfl, rfl, rfl, rfl, enqueue_dataWrites rfl _⟩

theorem grantRecord_sameCounts (s : State) : s.SameCounts (grantRecord s) := by
  unfold grantRecord
  split
  · exact .refl s
  · exact ⟨rfl, rfl, rfl, rfl, rfl, rfl, rfl, enqueue_dataWrites rfl _⟩

/-- The head write of a marker is for the sequence that waits for it (R77). -/
theorem State.JournalBounds.markerWriting {s : State} (hs : s.EpochShape) (h : s.JournalBounds) {e : MemoryEntry}
    {rest : List MemoryEntry} (ha : s.Awaits e rest) {info : RecordInfo} (hsource : e.source = .recordWrite info true)
    (hkind : info.kind ≠ .line) {q : CommitSequence} (hq : s.epochs.commit = some q) :
    ∃ slot sequence, q.phase = .markerWriting slot sequence := by
  obtain ⟨-, -, -, -, -, hrunning⟩ := h
  obtain ⟨-, -, -, -, -, hmarkers⟩ := hrunning (hs.running_of_commit hq)
  have hhead : info ∈ s.recordHeads := by
    refine List.mem_append_left _ (List.mem_filterMap.mpr ⟨e, ?_, by rw [hsource]⟩)
    rw [ha.1]
    exact List.mem_cons_self
  have hawaits : s.AwaitsMarker := by_contra fun hnot => hkind (hmarkers hnot info hhead)
  obtain ⟨q', slot, sequence, hq', hphase⟩ | ⟨r, -, -, hr, -⟩ | ⟨r, hr, -⟩ := hawaits
  · cases hq.symm.trans hq'
    exact ⟨slot, sequence, hphase⟩
  · exact absurd hq (by simp [(hs.rollbackKeys (by simp [hr])).1])
  · have hmode := hs.recovery_recovering (by simp [hr])
    exact absurd hq (by simp [(hs.empty (by simp [hmode]) (by simp [hmode])).2])

theorem issue_sameWork (s : State) : s.SameWork (issue s) := by
  unfold issue
  split
  · refine .of_eq rfl rfl rfl rfl rfl rfl rfl ?_
    exact issueOldest_filterMap _ _ _
  · exact .refl s

theorem setManagement_sameWork (m : ManagementPort) (s : State) : s.SameWork (s.setManagement m) :=
  .of_eq rfl rfl rfl rfl rfl rfl rfl rfl

theorem setPins_sameWork (p : Pins) (s : State) : s.SameWork (s.setPins p) := .of_eq rfl rfl rfl rfl rfl rfl rfl rfl

theorem respond_sameWork (status : Status) (words : List Word) (s : State) : s.SameWork (respond status words s) :=
  setManagement_sameWork _ s

theorem recordFaulted_countsRight {s : State} (h : s.CountsRight) (info : RecordInfo) :
    (recordFaulted info s).CountsRight := by
  unfold recordFaulted
  split_ifs
  · exact h
  · exact halt_countsRight _ _
  · exact halt_countsRight _ _

theorem State.Awaits.elapseTo {s : State} {e : MemoryEntry} {rest : List MemoryEntry} (h : s.Awaits e rest)
    (moment : Nat) : (elapseTo moment s).Awaits e rest := by
  have hmemory : (Machine.elapseTo moment s).memory = s.memory := by
    unfold Machine.elapseTo elapse
    dsimp only
    split <;> rfl
  rw [State.Awaits, hmemory]
  exact h

theorem Moves.countsRight {s t : State} (hmove : Moves s t) (hs : s.EpochShape) (hq : s.HaltQuiet) (h : s.CountsRight)
    (hb : s.JournalBounds) : t.CountsRight := by
  by_cases hmode : s.modes.mode = .halted
  · exact State.countsRight_of_halted (hmove.keepsHalt.stands hq hmode).1
  have hc := h.counted hmode
  have hspace {u : State} (hu : u.EpochShape) (hu' : u.CountsRight) : (updateSpace u).CountsRight :=
    updateSpace_countsRight hu hu'
  have hcommand {u : State} (hu : u.CountsRight) : (respond .ok [] u).CountsRight := hu.work (respond_sameWork _ _ u)
  have hanswered (rest : List MemoryEntry) : (s.answered rest).EpochShape := hs.same (.of_eq rfl rfl rfl rfl)
  have hother {e : MemoryEntry} {rest : List MemoryEntry} (ha : s.Awaits e rest) (he : e.source.asDataWrite = none) :
      (s.answered rest).Counted := hc.same (ha.sameCounts he)
  have hpins (p : Pins) : (s.setPins p).CountsRight := h.work (setPins_sameWork p s)
  cases hmove with
  | idle => exact h
  | ticked => exact h.work (elapse_sameWork 1 s)
  | refused a => exact h.work .of_eq
  | readForwarded r => exact h.work .of_eq
  | writeOffered r journaled hjudge =>
    exact hspace (hs.same (offerWrite_sameShape r journaled s)) (offerWrite_countsRight hs h r hjudge)
  | waitingTaken r journaled hjudge =>
    exact hspace (hs.same (takeWrite_sameShape r journaled s)) (takeWrite_countsRight hs h r hjudge)
  | lineCleared line => exact h.work (clearLine_sameWork line s)
  | waitExpired => exact h.work (expireWait_sameWork s)
  | deferredExpired i => exact h.work (expireDeferred_sameWork i s)
  | captureOffered => exact offerCapture_countsRight hs hc
  | headReleased hgrant =>
    exact hspace (hs.same (releaseHead_sameShape s)) (releaseHead_countsRight hc (holdSide_of_arbiter hgrant))
  | hostReadGranted => exact h.work (grantHostRead_sameWork s)
  | fetchGranted i => exact h.work (grantFetch_sameWork i s)
  | captureGranted => exact h.same (grantCapture_sameCounts s)
  | recordGranted => exact h.same (grantRecord_sameCounts s)
  | anchorGranted => exact h.work (grantAnchor_sameWork s)
  | replayGranted => exact h.work (grantReplay_sameWork s)
  | issued => exact h.work (issue_sameWork s)
  | hostReadAnswer ha hsource a => exact (hother ha (by rw [hsource]; rfl)).right.work .of_eq
  | fetchDropped ha hsource => exact (hother ha (by rw [hsource]; rfl)).right
  | fetchAnswer ha hsource a => exact (hother ha (by rw [hsource]; rfl)).right.work .of_eq
  | dataWriteAnswer ha hsource a =>
    exact hspace (dataWriteAnswered_epochShape (hanswered _) a _ _) (dataWriteAnswered_countsRight hs h hmode ha hsource a)
  | passWriteAnswer ha hsource a =>
    exact (hother ha (by rw [hsource]; rfl)).right.work (passWriteAnswered_sameWork a _ _)
  | captureDropped ha hsource => exact (hother ha (by rw [hsource]; rfl)).right
  | captureDone ha hsource hslot hphase data =>
    exact hspace (assignLine_epochShape (hanswered _) _ _ data)
      (assignLine_countsRight (hanswered _) (hother ha (by rw [hsource]; rfl)) hslot data)
  | captureFault ha hsource hslot =>
    exact hspace (faultCapture_epochShape (hanswered _) _ _)
      (faultCapture_countsRight (hanswered _) (hother ha (by rw [hsource]; rfl)) hslot)
  | @captureCancelled e rest ha i hsource c =>
    have hreleased := (hanswered rest).same (releaseCapture_sameShape i c _)
    exact hspace (noteCapturesSettled_epochShape hreleased) (noteCapturesSettled_countsRight hreleased
      (releaseCapture_countsRight (hother ha (by rw [hsource]; rfl)) i c))
  | recordHeadDone ha hsource =>
    exact hspace (recordDurable_epochShape (hanswered _) _) (recordDurable_countsRight (hanswered _)
      (hother ha (by rw [hsource]; rfl)).right fun hkind _ => hb.markerWriting hs ha hsource hkind)
  | recordBodyDone ha hsource => exact (hother ha (by rw [hsource]; rfl)).right
  | recordFault ha hsource =>
    exact hspace (recordFaulted_epochShape (hanswered _) _)
      (recordFaulted_countsRight (hother ha (by rw [hsource]; rfl)).right _)
  | firstAnchorLine ha hsource a =>
    exact anchorLineAnswered_countsRight (hanswered _) (hother ha (by rw [hsource]; rfl)).right _ a
  | secondAnchorLine ha hsource a =>
    exact hspace (anchorLineAnswered_epochShape (hanswered _) _ a)
      (anchorLineAnswered_countsRight (hanswered _) (hother ha (by rw [hsource]; rfl)).right _ a)
  | anchorReadAnswer ha hsource a =>
    exact hspace (anchorReadAnswered_epochShape (hanswered _) a)
      (anchorReadAnswered_countsRight (hanswered _) (hother ha (by rw [hsource]; rfl)).right a)
  | replayHeadAnswer ha hsource a =>
    exact hspace (replayHeadAnswered_epochShape (hanswered _) a _)
      (replayHeadAnswered_countsRight (hother ha (by rw [hsource]; rfl)).right a _)
  | replayBodyAnswer ha hsource a =>
    exact hspace (replayBodyAnswered_epochShape (hanswered _) a _)
      (replayBodyAnswered_countsRight (hanswered _) (hother ha (by rw [hsource]; rfl)).right a _)
  | restoreAnswer ha hsource a =>
    exact hspace (restoreAnswered_epochShape (hanswered _) a _ _ _)
      (restoreAnswered_countsRight (hanswered _) (hother ha (by rw [hsource]; rfl)).right a _ _ _)
  | timedOut ha moment =>
    exact hspace (timeOut_epochShape (elapsedTo_epochShape hs moment))
      (State.countsRight_of_halted (timeOut_mode ((elapse_keepsHalt _ s).quiet hq)
        (oldestIssued_of_awaits (ha.elapseTo moment))))
  | unfit ha =>
    exact hspace (timeOut_epochShape hs) (State.countsRight_of_halted (timeOut_mode hq (oldestIssued_of_awaits ha)))
  | ageExpired moment =>
    exact hspace (fireTrigger_epochShape (elapsedTo_epochShape hs moment) _)
      (fireTrigger_countsRight (elapsedTo_epochShape hs moment) (h.work (elapseTo_sameWork moment s)) _)
  | managed m => exact h.work (setManagement_sameWork m s)
  | emptyCommitted e hjudge =>
    exact hcommand (hspace (commitEmpty_epochShape hs hjudge) (commitEmpty_countsRight hs h hjudge))
  | commitStarted e hjudge =>
    exact hcommand (hspace (commitOpen_epochShape hs hjudge) (commitOpen_countsRight hs h hjudge))
  | emptyQuiesced e hjudge =>
    exact hcommand (hspace (quiesceEmpty_epochShape hs hjudge) (quiesceEmpty_countsRight hs h hjudge))
  | quiesceStarted e hjudge =>
    exact hcommand (hspace (quiesceOpen_epochShape hs hjudge) (quiesceOpen_countsRight hs h hjudge))
  | aborted hmode hroll hcommitting =>
    exact hcommand (hspace (startRollback_epochShape hs hmode hroll hcommitting)
      (startRollback_countsRight hs h hmode hroll hcommitting))
  | resumed hmode hstore =>
    exact hcommand (hspace (resumeActive_epochShape hs hmode) (resumeActive_countsRight hs h hmode hstore))
  | bypassed => exact hcommand (hc.setMode (.inl (.inr rfl))).right
  | storeStarted hmode => exact hcommand (startStore_countsRight h hmode)
  | pinned p => exact hpins p
  | frozen p =>
    exact ((hpins p).work (setModes_sameWork (x := { s.modes with freeze := true }) rfl)).work (rejudge_sameWork _)
  | thawed p => exact thaw_countsRight (hs.same (.of_eq rfl rfl rfl rfl)) (hpins p)
  | resetAsserted m p => exact (h.work (setManagement_sameWork m s)).work (setPins_sameWork p _)

/-- Settles O57: each block keeps its own part of the counts, and each move is of a few blocks. -/
theorem countsKept : Obligations.CountsKept := by
  intro s t hs hq h hb hnext
  obtain ⟨rest, hmove⟩ | ⟨straps, csLow, rest, -, rfl⟩ := step_moves hnext
  · exact hmove.countsRight hs hq h hb
  · exact afterReset_countsRight _ _ _ _

end Sys2Proof.Machine

/-! The bounds of the journal (R24 to R30, R62, R64): what they say, block by block, and which changes keep them. -/

namespace Sys2Proof.Machine

-- One theorem at a time: the proofs below would otherwise wait for one another in many threads.
set_option Elab.async false

/-! ### The record write list -/

/-- Each body write is followed by its head write (R29). -/
def WritesPaired : List RecordWrite → Prop
  | [] => True
  | w :: rest =>
    (w.isHead = false → w.info.kind = .line ∧ ∃ head after, rest = head :: after ∧ head.info = w.info ∧ head.isHead = true) ∧
      WritesPaired rest

theorem writesPaired_iff (writes : List RecordWrite) :
    WritesPaired writes ↔ ∀ before w after, writes = before ++ w :: after → w.isHead = false →
      w.info.kind = .line ∧ ∃ head rest, after = head :: rest ∧ head.info = w.info ∧ head.isHead = true := by
  constructor
  · intro h before
    induction before generalizing writes with
    | nil => rintro w after rfl; exact h.1
    | cons x before ih => rintro w after rfl; exact ih _ h.2 w after rfl
  · intro h
    induction writes with
    | nil => trivial
    | cons w rest ih => exact ⟨h [] w rest rfl, ih fun before x after hrest => h (w :: before) x after (by rw [hrest]; rfl)⟩

theorem WritesPaired.append {writes more : List RecordWrite} (h : WritesPaired writes) (h' : WritesPaired more) :
    WritesPaired (writes ++ more) := by
  induction writes with
  | nil => exact h'
  | cons w rest ih =>
    refine ⟨fun hbody => ?_, ih h.2⟩
    obtain ⟨hkind, head, after, hrest, hinfo, hhead⟩ := h.1 hbody
    exact ⟨hkind, head, after ++ more, by rw [hrest]; rfl, hinfo, hhead⟩

/-- The records whose head writes are among `writes`. -/
def headsOf (writes : List RecordWrite) : List RecordInfo :=
  writes.filterMap fun w => if w.isHead then some w.info else none

/-- A body write has its head write behind it, and a marker has no body write (R29). -/
theorem WritesPaired.length_le : ∀ {writes : List RecordWrite}, WritesPaired writes →
    writes.length ≤ 2 * ((headsOf writes).filter fun x => x.kind == .line).length +
      ((headsOf writes).filter fun x => x.kind != .line).length
  | [], _ => Nat.zero_le _
  | [w], h => by
    cases hw : w.isHead with
    | true => cases hkind : w.info.kind <;> simp [headsOf, hw, hkind]
    | false =>
      obtain ⟨-, head, after, hnil, -⟩ := h.1 hw
      cases hnil
  | w :: x :: rest, h => by
    cases hw : w.isHead with
    | true =>
      have ih := h.2.length_le
      cases hkind : w.info.kind <;> simp [headsOf, hw, hkind] at ih ⊢ <;> omega
    | false =>
      have ih := h.2.2.length_le
      obtain ⟨hline, head, after, hrest, hinfo, hhead⟩ := h.1 hw
      cases hrest
      simp [headsOf, hw, hhead, hinfo, hline] at ih ⊢
      omega

/-! ### The bounds, said of the blocks -/

/-- The slots and sequences of the LINE records whose heads are not acknowledged. -/
def State.lineHeads (s : State) : List (Nat × Word) :=
  (s.recordHeads.filter fun x => x.kind == .line).map fun x => (x.slot, x.sequence)

/-- The markers whose heads are not acknowledged. -/
def State.markerHeads (s : State) : List RecordInfo := s.recordHeads.filter fun x => x.kind != .line

/-- The slots and sequences of the records that captures are writing. -/
def State.writingKeys (s : State) : List (Nat × Word) := s.capture.slots.toList.filterMap fun x => x.bind Capture.writingKey

/-- The capture in slot `i` is READING. -/
def State.Reading (s : State) (i : Fin 4) : Prop :=
  ∃ c cancelled, s.capture.slots[i] = some c ∧ c.phase = .reading cancelled

/-- The bounds of the lists, outside HALTED. -/
structure State.Lists (s : State) : Prop where
  once : s.captureReads.Nodup
  reading : ∀ i ∈ s.captureReads, s.Reading i
  paired : WritesPaired s.ring.writes
  lines : s.lineHeads.Perm s.writingKeys
  markers : s.markerHeads.length ≤ 1

/-- The bounds of the journal, what the sequences wait for apart. -/
structure State.Core (s : State) : Prop where
  fits : s.ring.used + s.ring.promised ≤ s.size
  promises : s.ring.promised = s.readingSlots
  loading : s.anchor.loading.isSome = true → s.size = 0
  store : ∀ c, s.anchor.write.map (·.kind) = some (.store c) → 16 ≤ c.slots.toNat
  scan : ∀ q k, s.replay.recovery = some q → q.phase = .scanning k → k < s.size
  lists : s.modes.mode ≠ .halted → s.Lists

/-- The bounds of the journal: a marker is written only for a sequence that waits for it. -/
structure State.Bounds (s : State) : Prop where
  core : s.Core
  marker : s.modes.mode ≠ .halted → ¬ s.AwaitsMarker → s.markerHeads = []

theorem State.markerHeads_eq_nil {s : State} : s.markerHeads = [] ↔ ∀ x ∈ s.recordHeads, x.kind = .line := by
  rw [State.markerHeads, List.filter_eq_nil_iff]
  refine forall₂_congr fun x _ => ?_
  cases x.kind <;> simp

theorem State.journalBounds_iff (s : State) : s.JournalBounds ↔ s.Bounds := by
  constructor
  · rintro ⟨hfits, hpromises, hloading, hstore, hscan, hrunning⟩
    refine ⟨⟨hfits, hpromises, fun hl => ?_, fun c hc => ?_, hscan, fun hmode => ?_⟩, fun hmode hno => ?_⟩
    · rw [State.size, hloading hl]; rfl
    · obtain ⟨w, hw, hkind⟩ := Option.map_eq_some_iff.mp hc
      exact hstore w c hw hkind
    · obtain ⟨honce, hreading, hpaired, hlines, hmarkers, -⟩ := hrunning hmode
      exact ⟨honce, hreading, (writesPaired_iff _).mpr hpaired, hlines, hmarkers⟩
    · obtain ⟨-, -, -, -, -, hwaiting⟩ := hrunning hmode
      exact State.markerHeads_eq_nil.mpr (hwaiting hno)
  · rintro ⟨⟨hfits, hpromises, hloading, hstore, hscan, hlists⟩, hmarker⟩
    refine ⟨hfits, hpromises, fun hl => BitVec.eq_of_toNat_eq (hloading hl), fun w c hw hkind => ?_, hscan,
      fun hmode => ?_⟩
    · exact hstore c (by rw [hw, Option.map_some, hkind])
    · obtain ⟨honce, hreading, hpaired, hlines, hmarkers⟩ := hlists hmode
      exact ⟨honce, hreading, (writesPaired_iff _).mp hpaired, hlines, hmarkers,
        fun hno => State.markerHeads_eq_nil.mp (hmarker hmode hno)⟩

/-! ### Changes after which nothing is bounded less -/

/-- From `s` to `t` the lists, the promises and the captures stay, and nothing else that is bounded has grown. -/
structure State.NoMore (s t : State) : Prop where
  mode : t.modes.mode ≠ .halted → s.modes.mode ≠ .halted
  loading : t.anchor.loading.isSome = true → s.anchor.loading.isSome = true
  write : ∀ c, t.anchor.write.map (·.kind) = some (.store c) → s.anchor.write.map (·.kind) = some (.store c)
  size : t.size = s.size
  scan : ∀ q k, t.replay.recovery = some q → q.phase = .scanning k →
    ∃ q', s.replay.recovery = some q' ∧ q'.phase = .scanning k
  used : t.ring.used ≤ s.ring.used
  promised : t.ring.promised = s.ring.promised
  writes : t.ring.writes = s.ring.writes
  slots : t.capture.slots = s.capture.slots
  reads : t.captureReads = s.captureReads
  heads : t.recordHeads = s.recordHeads

theorem State.NoMore.refl (s : State) : s.NoMore s :=
  ⟨id, id, fun _ => id, rfl, fun q _ hq hk => ⟨q, hq, hk⟩, Nat.le_refl _, rfl, rfl, rfl, rfl, rfl⟩

theorem State.NoMore.trans {s t u : State} (h : s.NoMore t) (h' : t.NoMore u) : s.NoMore u where
  mode := fun hu => h.mode (h'.mode hu)
  loading := fun hu => h.loading (h'.loading hu)
  write := fun c hc => h.write c (h'.write c hc)
  size := h'.size.trans h.size
  scan := fun q k hq hk => by
    obtain ⟨q', hq', hk'⟩ := h'.scan q k hq hk
    exact h.scan q' k hq' hk'
  used := Nat.le_trans h'.used h.used
  promised := h'.promised.trans h.promised
  writes := h'.writes.trans h.writes
  slots := h'.slots.trans h.slots
  reads := h'.reads.trans h.reads
  heads := h'.heads.trans h.heads

theorem State.NoMore.readingSlots {s t : State} (h : s.NoMore t) : t.readingSlots = s.readingSlots := by
  rw [State.readingSlots, h.slots, State.readingSlots]

theorem State.NoMore.markerHeads {s t : State} (h : s.NoMore t) : t.markerHeads = s.markerHeads := by
  rw [State.markerHeads, h.heads, State.markerHeads]

/-- The same reads in any order, the same captures, and the same records being written. -/
theorem State.Lists.moved {s t : State} (h : s.Lists) (hreads : t.captureReads.Perm s.captureReads)
    (hslots : t.capture.slots = s.capture.slots) (hpaired : WritesPaired t.ring.writes)
    (hheads : t.recordHeads = s.recordHeads) : t.Lists where
  once := hreads.nodup_iff.mpr h.once
  reading := fun i hi => by
    unfold State.Reading
    rw [hslots]
    exact h.reading i (hreads.mem_iff.mp hi)
  paired := hpaired
  lines := by
    rw [State.lineHeads, hheads, State.writingKeys, hslots]
    exact h.lines
  markers := by
    rw [State.markerHeads, hheads]
    exact h.markers

theorem State.NoMore.lists {s t : State} (h : s.NoMore t) (hs : s.Lists) : t.Lists :=
  hs.moved (by rw [h.reads]) h.slots (h.writes ▸ hs.paired) h.heads

theorem State.Core.noMore {s t : State} (h : s.Core) (hmore : s.NoMore t) : t.Core where
  fits := by
    have hfits := h.fits
    have hused := hmore.used
    rw [hmore.size, hmore.promised]
    omega
  promises := by rw [hmore.promised, hmore.readingSlots]; exact h.promises
  loading := by rw [hmore.size]; exact fun hl => h.loading (hmore.loading hl)
  store := fun c hc => h.store c (hmore.write c hc)
  scan := by
    rw [hmore.size]
    intro q k hq hk
    obtain ⟨q', hq', hk'⟩ := hmore.scan q k hq hk
    exact h.scan q' k hq' hk'
  lists := fun hmode => hmore.lists (h.lists (hmore.mode hmode))

theorem State.Bounds.noMore {s t : State} (h : s.Bounds) (hmore : s.NoMore t) (hawaits : s.AwaitsMarker → t.AwaitsMarker) :
    t.Bounds := by
  refine ⟨h.core.noMore hmore, fun hmode hno => ?_⟩
  rw [hmore.markerHeads]
  exact h.marker (hmore.mode hmode) fun hs => hno (hawaits hs)

theorem State.awaitsMarker_congr {s t : State} (hcommit : t.epochs.commit = s.epochs.commit)
    (hrollback : t.replay.rollback = s.replay.rollback) (hrecovery : t.replay.recovery = s.replay.recovery) :
    t.AwaitsMarker ↔ s.AwaitsMarker := by
  rw [State.AwaitsMarker, hcommit, hrollback, hrecovery, State.AwaitsMarker]

theorem State.captureReads_congr {s t : State} (hreads : t.capture.reads = s.capture.reads)
    (hsources : t.journalSources = s.journalSources) : t.captureReads = s.captureReads := by
  rw [State.captureReads_eq, hreads, hsources, State.captureReads_eq]

theorem State.recordHeads_congr {s t : State} (hwrites : t.ring.writes = s.ring.writes)
    (hsources : t.journalSources = s.journalSources) : t.recordHeads = s.recordHeads := by
  rw [State.recordHeads_eq, hwrites, hsources, State.recordHeads_eq]

/-- A change outside the ring manager, the capture unit, the anchor unit and the journal's sources, which starts no scan. -/
theorem State.NoMore.of_eq {s t : State} (hmode : t.modes.mode = s.modes.mode ∨ s.modes.mode ≠ .halted := by simp)
    (hring : t.ring = s.ring := by simp) (hcapture : t.capture = s.capture := by simp)
    (hanchor : t.anchor = s.anchor := by simp) (hrecovery : t.replay.recovery = s.replay.recovery := by simp)
    (hsources : t.journalSources = s.journalSources := by simp) : s.NoMore t where
  mode := fun hm => hmode.elim (fun he => he ▸ hm) id
  loading := by rw [hanchor]; exact id
  write := by rw [hanchor]; exact fun _ => id
  size := by rw [State.size, hanchor, State.size]
  scan := by rw [hrecovery]; exact fun q _ hq hk => ⟨q, hq, hk⟩
  used := by rw [hring]
  promised := by rw [hring]
  writes := by rw [hring]
  slots := by rw [hcapture]
  reads := State.captureReads_congr (by rw [hcapture]) hsources
  heads := State.recordHeads_congr (by rw [hring]) hsources

theorem State.SameWork.noMore {s t : State} (h : s.SameWork t) : s.NoMore t where
  mode := by rw [h.mode]; exact id
  loading := by rw [h.loading]; exact id
  write := by rw [h.write]; exact fun _ => id
  size := congrArg BitVec.toNat h.size
  scan := by rw [h.recovery]; exact fun q _ hq hk => ⟨q, hq, hk⟩
  used := by rw [h.used]
  promised := h.promised
  writes := h.writes
  slots := h.slots
  reads := State.captureReads_congr h.reads h.sources
  heads := State.recordHeads_congr h.writes h.sources

theorem State.SameWork.awaits {s t : State} (h : s.SameWork t) : t.AwaitsMarker ↔ s.AwaitsMarker :=
  State.awaitsMarker_congr h.commit h.rollback h.recovery

theorem State.Bounds.work {s t : State} (h : s.Bounds) (hsame : s.SameWork t) : t.Bounds :=
  h.noMore hsame.noMore hsame.awaits.mpr

theorem State.Core.work {s t : State} (h : s.Core) (hsame : s.SameWork t) : t.Core := h.noMore hsame.noMore

/-- In HALTED the core is all. -/
theorem State.Core.bounds_of_halted {s : State} (h : s.Core) (hmode : s.modes.mode = .halted) : s.Bounds :=
  ⟨h, fun hno => absurd hmode hno⟩

/-- With a sequence that waits for the marker the core is all. -/
theorem State.Core.bounds_of_awaits {s : State} (h : s.Core) (hawaits : s.AwaitsMarker) : s.Bounds :=
  ⟨h, fun _ hno => absurd hawaits hno⟩

end Sys2Proof.Machine

/-! The bounds of the journal through the sequences that commands share: halts, markers, the drain notice, damage, commits
and triggers (R14 to R18, R28, R72 to R86, R154). -/

namespace Sys2Proof.Machine

-- One theorem at a time: the proofs below would otherwise wait for one another in many threads.
set_option Elab.async false

/-! ### Halts -/

/-- The bounds on the anchor unit and the used slots stay in HALTED, where nothing else is left to bound (R154). -/
theorem halt_core_of_running {s : State} (hmode : s.modes.mode ≠ .halted)
    (hfits : s.ring.used + s.ring.promised ≤ s.size)
    (hstore : ∀ c, s.anchor.write.map (·.kind) = some (.store c) → 16 ≤ c.slots.toNat) (cause : Cause) :
    (halt cause s).Core := by
  rw [halt, if_neg hmode]
  refine State.Core.work (s := haltBlocks (s.setModes { s.modes with mode := .halted, cause := cause })) ?_
    ((rejudge_sameWork _).trans (raise_sameWork _ _))
  exact ⟨Nat.le_trans (Nat.add_le_add_left (Nat.zero_le _) _) hfits, rfl, nofun, hstore, nofun, fun hno => absurd rfl hno⟩

theorem halt_core {s : State} (h : s.Core) (cause : Cause) : (halt cause s).Core := by
  by_cases hmode : s.modes.mode = .halted
  · rw [halt_of_halted hmode]
    exact h
  · exact halt_core_of_running hmode h.fits h.store cause

theorem halt_bounds {s : State} (h : s.Core) (cause : Cause) : (halt cause s).Bounds :=
  (halt_core h cause).bounds_of_halted (halt_mode cause s)

/-- In HALTED nothing is bounded of the memory queue. -/
theorem State.Core.setMemory_of_halted {s : State} (h : s.Core) (hmode : s.modes.mode = .halted) (m : MemoryPort) :
    (s.setMemory m).Bounds :=
  State.Core.bounds_of_halted ⟨h.fits, h.promises, h.loading, h.store, h.scan, fun hno => absurd hmode hno⟩ hmode

theorem logError_halt_bounds {s : State} (h : s.Core) (kind : ErrorKind) (epoch line : Option Word) (slot : Option Nat)
    (cause : Cause) : (halt cause (logError kind epoch line slot s)).Bounds :=
  halt_bounds (h.work (logError_sameWork _ _ _ _ s)) cause

/-! ### Changes of one block -/

theorem openEpoch_noMore (n : Word) (s : State) : s.NoMore (openEpoch n s) := .of_eq (.inl rfl) rfl rfl rfl rfl rfl

theorem setEpochs_noMore (x : EpochController) (s : State) : s.NoMore (s.setEpochs x) :=
  .of_eq (.inl rfl) rfl rfl rfl rfl rfl

theorem setReplay_noMore {x : ReplayEngine} {s : State} (hrecovery : x.recovery = s.replay.recovery) :
    s.NoMore (s.setReplay x) := .of_eq (.inl rfl) rfl rfl rfl hrecovery rfl

/-- A mode changes outside HALTED. -/
theorem setMode_noMore {s : State} (hmode : s.modes.mode ≠ .halted) (m : Mode) : s.NoMore (setMode m s) :=
  .of_eq (.inr hmode)

/-! ### What waits for a marker -/

theorem State.not_awaits_of_none {s : State} (hcommit : s.epochs.commit = none) (hr : s.replay.rollback = none)
    (hrecovery : s.replay.recovery = none) : ¬ s.AwaitsMarker := by
  rintro (⟨q, -, -, hq, -⟩ | ⟨q, -, -, hq, -⟩ | ⟨q, hq, -⟩)
  · simp [hcommit] at hq
  · simp [hr] at hq
  · simp [hrecovery] at hq

theorem State.EpochShape.not_awaits_of_rollback {s : State} (h : s.EpochShape) {r : Rollback}
    (hr : s.replay.rollback = some r) (hphase : ∀ slot sequence, r.phase ≠ .closing slot sequence) : ¬ s.AwaitsMarker := by
  have hmode := h.rollback_active (by simp [hr])
  rintro (⟨q, -, -, hq, -⟩ | ⟨q, slot, sequence, hq, hclosing⟩ | ⟨q, hq, -⟩)
  · simp [(h.rollbackKeys (by simp [hr])).1] at hq
  · cases hr.symm.trans hq
    exact hphase slot sequence hclosing
  · simp [h.recovery_none (by simp [hmode])] at hq

theorem State.EpochShape.not_awaits_of_recovery {s : State} (h : s.EpochShape) {r : Recovery}
    (hr : s.replay.recovery = some r) (hphase : r.phase ≠ .closing) : ¬ s.AwaitsMarker := by
  have hmode := h.recovery_recovering (by simp [hr])
  rintro (⟨q, -, -, hq, -⟩ | ⟨q, -, -, hq, -⟩ | ⟨q, hq, hclosing⟩)
  · simp [(h.empty (by simp [hmode]) (by simp [hmode])).2] at hq
  · simp [h.rollback_none (by simp [hmode])] at hq
  · cases hr.symm.trans hq
    exact hphase hclosing

/-- While a commit sequence runs no other does. -/
theorem State.EpochShape.others_of_commit {s : State} (h : s.EpochShape) {q : CommitSequence}
    (hq : s.epochs.commit = some q) : s.replay.rollback = none ∧ s.replay.recovery = none := by
  constructor
  · cases hr : s.replay.rollback with
    | none => rfl
    | some r => exact absurd hq (by simp [(h.rollbackKeys (by simp [hr])).1])
  · cases hr : s.replay.recovery with
    | none => rfl
    | some r =>
      have hmode := h.recovery_recovering (by simp [hr])
      exact absurd hq (by simp [(h.empty (by simp [hmode]) (by simp [hmode])).2])

theorem State.EpochShape.not_awaits_of_commit {s : State} (h : s.EpochShape) {q : CommitSequence}
    (hq : s.epochs.commit = some q) (hphase : ∀ slot sequence, q.phase ≠ .markerWriting slot sequence) :
    ¬ s.AwaitsMarker := by
  obtain ⟨hr, hrecovery⟩ := h.others_of_commit hq
  rintro (⟨q', slot, sequence, hq', hwriting⟩ | ⟨q', -, -, hq', -⟩ | ⟨q', hq', -⟩)
  · cases hq.symm.trans hq'
    exact hphase slot sequence hwriting
  · simp [hr] at hq'
  · simp [hrecovery] at hq'

/-- With no sequence waiting for a marker, any change that bounds no less is one that keeps the bounds. -/
theorem State.Bounds.noMore_of_quiet {s t : State} (h : s.Bounds) (hno : ¬ s.AwaitsMarker) (hmore : s.NoMore t) : t.Bounds :=
  h.noMore hmore fun hs => absurd hs hno

/-! ### Markers -/

/-- The record that a requested marker is assigned. -/
def State.markerInfo (s : State) (kind : RecordKind) (n : Word) : RecordInfo :=
  { kind := kind, epoch := n, line := none, slot := s.ring.head, sequence := s.ring.headSequence }

theorem assignMarker_recordHeads (kind : RecordKind) (n : Word) (s : State) :
    (assignMarker kind n s).recordHeads = s.recordHeads ++ [s.markerInfo kind n] := by
  rw [State.recordHeads_eq, State.recordHeads_eq, List.append_assoc]
  refine congrArg₂ _ rfl ?_
  simp [assignMarker, State.markerInfo, State.markerWrite]

/-- A marker takes a slot of the free space, and its head write joins the record write list (R28, R77). -/
theorem assignMarker_core {s : State} (h : s.Core) (hmarkers : s.modes.mode ≠ .halted → s.markerHeads = [])
    (hfree : 1 ≤ s.free) {kind : RecordKind} (hkind : kind ≠ .line) (n : Word) : (assignMarker kind n s).Core := by
  have hheads := assignMarker_recordHeads kind n s
  refine ⟨?_, h.promises, h.loading, h.store, h.scan, fun hmode => ?_⟩
  · have hfits := h.fits
    unfold State.free at hfree
    show s.ring.used + 1 + s.ring.promised ≤ s.size
    omega
  · have hlists := h.lists hmode
    refine ⟨hlists.once, hlists.reading, hlists.paired.append ⟨by simp [State.markerWrite], trivial⟩, ?_, ?_⟩
    · have hlines : (assignMarker kind n s).lineHeads = s.lineHeads := by
        rw [State.lineHeads, hheads, List.filter_append, State.lineHeads]
        simp [State.markerInfo, hkind]
      rw [hlines]
      exact hlists.lines
    · rw [State.markerHeads, hheads, List.filter_append, ← State.markerHeads, hmarkers hmode]
      simp [State.markerInfo, hkind]

/-- A marker is requested by a sequence that then waits for it, none having waited before (R28). -/
theorem requestMarker_bounds {kind : RecordKind} (hkind : kind ≠ .line) {n : Word} {next : Nat → Word → State → State}
    {s : State} (h : s.Bounds) (hno : ¬ s.AwaitsMarker)
    (hmore : ∀ slot sequence, (assignMarker kind n s).NoMore (next slot sequence (assignMarker kind n s)))
    (hnext : ∀ slot sequence, (next slot sequence (assignMarker kind n s)).AwaitsMarker) :
    (requestMarker kind n next s).Bounds := by
  unfold requestMarker
  split
  · next hfree =>
    exact ((assignMarker_core h.core (fun hmode => h.marker hmode hno) hfree hkind n).noMore
      (hmore _ _)).bounds_of_awaits (hnext _ _)
  · exact logError_halt_bounds h.core _ _ _ _ _

theorem queueCommitRecord_bounds {s : State} (h : s.Bounds) (hno : ¬ s.AwaitsMarker) (q : CommitSequence) :
    (queueCommitRecord q s).Bounds :=
  requestMarker_bounds (by simp) h hno (fun _ _ => setEpochs_noMore _ _) fun slot sequence =>
    .inl ⟨_, slot, sequence, rfl, rfl⟩

theorem queueClose_bounds {s : State} (h : s.Bounds) (hno : ¬ s.AwaitsMarker) (highest : Word) :
    (queueClose highest s).Bounds :=
  requestMarker_bounds (by simp) h hno (fun _ _ => setReplay_noMore rfl) fun slot sequence =>
    .inr (.inl ⟨_, slot, sequence, rfl, rfl⟩)

theorem settle_bounds {s : State} (h : s.Bounds) (hno : ¬ s.AwaitsMarker) (captures epochs : Bool) (highest : Word) :
    (settle captures epochs highest s).Bounds := by
  unfold settle startWalk
  split_ifs
  · exact queueClose_bounds h hno highest
  · exact h.noMore_of_quiet hno (setReplay_noMore rfl)
  · exact h.noMore_of_quiet hno (setReplay_noMore rfl)

theorem noteCapturesSettled_bounds {s : State} (hs : s.EpochShape) (h : s.Bounds) : (noteCapturesSettled s).Bounds := by
  unfold noteCapturesSettled
  split
  · next r hr =>
    split
    · next epochs hphase =>
      split
      · exact settle_bounds h (hs.not_awaits_of_rollback hr (by simp [hphase])) _ _ _
      · exact h
    · exact h
  · exact h

theorem noteEpochsDrained_bounds {s : State} (hs : s.EpochShape) (h : s.Bounds) : (noteEpochsDrained s).Bounds := by
  unfold noteEpochsDrained
  split
  · next r hr =>
    split
    · next captures hphase =>
      split
      · exact settle_bounds h (hs.not_awaits_of_rollback hr (by simp [hphase])) _ _ _
      · exact h
    · exact h
  · exact h

theorem drainNotice_bounds {s : State} (hs : s.EpochShape) (h : s.Bounds) : (drainNotice s).Bounds := by
  unfold drainNotice
  split
  · next q hq =>
    obtain ⟨hcommit, hphase⟩ := commitDrained_eq_some hq
    exact queueCommitRecord_bounds h (hs.not_awaits_of_commit hcommit (by simp [hphase])) q
  · exact noteEpochsDrained_bounds hs h

/-! ### Damage -/

/-- A commit sequence that waits for its marker is for another epoch than `n`. -/
def State.MarkerElsewhere (s : State) (n : Word) : Prop :=
  ∀ q slot sequence, s.epochs.commit = some q → q.phase = .markerWriting slot sequence → q.epoch ≠ n

/-- A COMMITTING epoch is the one that the commit sequence runs for. -/
theorem State.EpochShape.commit_of_committing {s : State} (h : s.EpochShape) {n : Word}
    (hmem : (n, .committing) ∈ s.epochs.table.keys) : ∃ q, s.epochs.commit = some q ∧ q.epoch = n := by
  obtain ⟨hmode, hr, hkeys⟩ | ⟨hmode, hkeys⟩ := h.of_committing hmem
  · obtain ⟨m, hother, -⟩ | ⟨x, st, hother, ⟨rfl, -⟩ | ⟨rfl, q, hq, hepoch, -⟩⟩ := h.activeKeys hmode hr
    · simp [hother] at hmem
    · obtain hother | hother := hother <;> simp [hother] at hmem
    · refine ⟨q, hq, hepoch.trans ?_⟩
      obtain hother | hother := hother <;> simp [hother] at hmem <;> exact hmem.symm
  · obtain ⟨q, hq, -, ⟨-, hother⟩ | ⟨-, hother⟩⟩ := h.quiescingKeys hmode
    · simp [hother] at hmem
    · exact ⟨q, hq, by simpa [hother, eq_comm] using hmem⟩

theorem failCommit_bounds {s : State} (hs : s.EpochShape) (h : s.Bounds) {n : Word}
    (hmem : (n, .committing) ∈ s.epochs.table.keys) (helse : s.MarkerElsewhere n) : (failCommit n s).Bounds := by
  obtain ⟨q, hq, hepoch⟩ := hs.commit_of_committing hmem
  have hno := hs.not_awaits_of_commit hq fun slot sequence hphase => helse q slot sequence hq hphase hepoch
  have hrunning := hs.running_of_commit hq
  have hfailed : s.NoMore (raise .commitFailed (s.setEpochs { s.epochs with
      table := s.epochs.table.modify n fun e => { e with state := .failed }, commit := none })) :=
    (setEpochs_noMore _ s).trans (raise_sameWork _ _).noMore
  unfold failCommit
  dsimp only
  split
  · exact h.noMore_of_quiet hno ((hfailed.trans (openEpoch_noMore _ _)).trans (setMode_noMore (by simpa using hrunning) _))
  · exact h.noMore_of_quiet hno hfailed

theorem markDamaged_bounds {s : State} (hs : s.EpochShape) (h : s.Bounds) {e : LiveEpoch}
    (he : e ∈ s.epochs.table.epochs) (helse : s.MarkerElsewhere e.number) : (markDamaged e s).Bounds := by
  have hkeys : (s.epochs.table.modify e.number fun x => { x with damaged := true }).keys = s.epochs.table.keys :=
    EpochTable.keys_modify fun _ => rfl
  have hshape : (raise .epochDamaged
      (s.setTable (s.epochs.table.modify e.number fun x => { x with damaged := true }))).EpochShape :=
    hs.same ⟨rfl, rfl, rfl, rfl, hkeys, rfl⟩
  have hmarked : (raise .epochDamaged
      (s.setTable (s.epochs.table.modify e.number fun x => { x with damaged := true }))).Bounds := by
    refine h.work (State.SameWork.trans ?_ (raise_sameWork _ _))
    exact setEpochs_sameWork (EpochTable.tallies_modify fun _ => rfl) rfl
  unfold markDamaged
  split
  · next hcommitting =>
    refine failCommit_bounds hshape hmarked ?_ helse
    have hmem := EpochTable.mem_keys he
    rw [LiveEpoch.key, hcommitting, ← hkeys] at hmem
    exact hmem
  · exact hmarked

theorem reportDamage_bounds {s : State} (hs : s.EpochShape) (h : s.Bounds) (kind : ErrorKind) {epoch : Word}
    (line : Word) (helse : s.MarkerElsewhere epoch) : (reportDamage kind epoch line s).Bounds := by
  have hlogged := h.work (logError_sameWork kind (some epoch) (some line) none s)
  dsimp only [reportDamage]
  split
  · next e hfind =>
    obtain ⟨hmem, hn⟩ := EpochTable.find_mem hfind
    split
    · exact hlogged
    · exact markDamaged_bounds (hs.same .of_eq) hlogged hmem (hn ▸ helse)
  · exact hlogged

/-! ### Commits and triggers -/

theorem startCommit_noMore (purpose : CommitPurpose) (n : Word) (s : State) : s.NoMore (startCommit purpose n s) :=
  { State.NoMore.refl s with }

theorem closeEmpty_noMore (n : Word) (s : State) : s.NoMore (closeEmpty n s) :=
  (setEpochs_noMore _ s).trans ((raise_sameWork _ _).trans (bump_sameWork _ _)).noMore

/-- A commit request that is taken finds no sequence waiting for a marker. -/
theorem State.EpochShape.not_awaits_of_judgeCommit {s : State} (h : s.EpochShape) {e : LiveEpoch}
    (hjudge : s.judgeCommit = .empty e ∨ s.judgeCommit = .commits e) : ¬ s.AwaitsMarker := by
  obtain ⟨hmode, hr, -, hcommit⟩ := h.of_judgeCommit hjudge
  exact State.not_awaits_of_none hcommit hr (h.recovery_none (by simp [hmode]))

theorem commitEmpty_bounds {s : State} (hs : s.EpochShape) (h : s.Bounds) {e : LiveEpoch}
    (hjudge : s.judgeCommit = .empty e) : (commitEmpty e.number s).Bounds :=
  h.noMore_of_quiet (hs.not_awaits_of_judgeCommit (.inl hjudge)) ((closeEmpty_noMore _ s).trans (openEpoch_noMore _ _))

theorem commitOpen_bounds {s : State} (hs : s.EpochShape) (h : s.Bounds) {e : LiveEpoch}
    (hjudge : s.judgeCommit = .commits e) : (commitOpen e.number s).Bounds :=
  drainNotice_bounds (commitOpened_epochShape hs hjudge)
    (h.noMore_of_quiet (hs.not_awaits_of_judgeCommit (.inr hjudge))
      ((startCommit_noMore _ _ s).trans (openEpoch_noMore _ _)))

theorem quiesceEmpty_bounds {s : State} (hs : s.EpochShape) (h : s.Bounds) {e : LiveEpoch}
    (hjudge : s.judgeCommit = .empty e) : (quiesceEmpty e.number s).Bounds := by
  have hmode : (closeEmpty e.number s).modes.mode ≠ .halted := by
    simp [closeEmpty, (hs.of_judgeCommit (.inl hjudge)).1]
  exact h.noMore_of_quiet (hs.not_awaits_of_judgeCommit (.inl hjudge))
    (((closeEmpty_noMore _ s).trans (setMode_noMore hmode _)).trans (raise_sameWork _ _).noMore)

theorem quiesceOpen_bounds {s : State} (hs : s.EpochShape) (h : s.Bounds) {e : LiveEpoch}
    (hjudge : s.judgeCommit = .commits e) : (quiesceOpen e.number s).Bounds := by
  have hmode : (startCommit .quiesce e.number s).modes.mode ≠ .halted := by
    simp [startCommit, (hs.of_judgeCommit (.inr hjudge)).1]
  exact drainNotice_bounds (quiesceOpened_epochShape hs hjudge)
    (h.noMore_of_quiet (hs.not_awaits_of_judgeCommit (.inr hjudge))
      ((startCommit_noMore _ _ s).trans (setMode_noMore hmode _)))

theorem fireTrigger_bounds {s : State} (hs : s.EpochShape) (h : s.Bounds) (full : Bool) : (fireTrigger full s).Bounds := by
  unfold fireTrigger
  split
  · split
    · next hjudge => exact commitEmpty_bounds hs h hjudge
    · next hjudge => exact commitOpen_bounds hs h hjudge
    · exact h.work (setEpochs_sameWork rfl rfl)
    · exact h.work (setEpochs_sameWork rfl rfl)
    · exact h
    · exact h
  · exact h

theorem reexamine_bounds {s : State} (hs : s.EpochShape) (h : s.Bounds) : (reexamine s).Bounds := by
  have hshape : (s.setEpochs { s.epochs with heldTrigger := false }).EpochShape := hs.same (sameShape_setEpochs rfl rfl)
  have hcleared : (s.setEpochs { s.epochs with heldTrigger := false }).Bounds := h.work (setEpochs_sameWork rfl rfl)
  dsimp only [reexamine]
  split
  · exact fireTrigger_bounds hshape hcleared _
  · exact hcleared

theorem updateBlocked_bounds {s : State} (hs : s.EpochShape) (h : s.Bounds) : (updateBlocked s).Bounds := by
  have hblocked := h.work (setRing_sameWork (s := s) (x := { s.ring with blocked := s.blockedNow }) rfl rfl rfl)
  dsimp only [updateBlocked]
  split_ifs
  · exact hblocked
  · exact fireTrigger_bounds (hs.same .of_eq) (hblocked.work (raise_sameWork _ _)) _
  · exact hblocked.work (raise_sameWork _ _)
  · exact hblocked.work (setEpochs_sameWork rfl rfl)

theorem updateSpace_bounds {s : State} (hs : s.EpochShape) (h : s.Bounds) : (updateSpace s).Bounds := by
  have hlow := updateBlocked_bounds (hs.same (updateLow_sameShape s)) (h.work (updateLow_sameWork s))
  exact hlow.work (updateLow_sameWork _)

end Sys2Proof.Machine

/-! The bounds of the journal through the anchor unit and the replay engine (R31 to R35, R92 to R104, R138 to R145). -/

namespace Sys2Proof.Machine

-- One theorem at a time: the proofs below would otherwise wait for one another in many threads.
set_option Elab.async false

/-! ### Anchor updates -/

theorem startUpdate_noMore (tail : Nat) (sequence : Word) (endsRecovery : Bool) (fields : AnchorFields) (s : State) :
    s.NoMore (startAnchorWrite (.update tail sequence endsRecovery) fields s) :=
  { State.NoMore.refl s with write := fun c hc => by cases hc }

theorem buildUpdate_noMore (s : State) : s.NoMore (buildUpdate s) := by
  have hclear : s.NoMore (s.setAnchor { s.anchor with pendingUpdate := false }) :=
    { State.NoMore.refl s with }
  unfold buildUpdate
  split
  · exact hclear.trans (startUpdate_noMore _ _ _ _ _)
  · exact hclear.trans (startUpdate_noMore _ _ _ _ _)

theorem requestUpdate_noMore (s : State) : s.NoMore (requestUpdate s) := by
  unfold requestUpdate
  split
  · exact buildUpdate_noMore s
  · exact { State.NoMore.refl s with }

theorem buildPending_noMore (s : State) : s.NoMore (buildPending s) := by
  unfold buildPending
  split
  · exact buildUpdate_noMore s
  · exact .refl s

/-- A change that keeps the sequences keeps what waits for a marker. -/
theorem State.Bounds.untouched {s t : State} (h : s.Bounds) (hmore : s.NoMore t) (hepochs : t.epochs = s.epochs)
    (hreplay : t.replay = s.replay) : t.Bounds :=
  h.noMore hmore (State.awaitsMarker_congr (by rw [hepochs]) (by rw [hreplay]) (by rw [hreplay])).mpr

theorem requestUpdate_bounds {s : State} (h : s.Bounds) : (requestUpdate s).Bounds :=
  h.untouched (requestUpdate_noMore s) (by simp) (by simp)

theorem buildPending_bounds {s : State} (h : s.Bounds) : (buildPending s).Bounds :=
  h.untouched (buildPending_noMore s) (by simp) (by simp)

theorem ReplayEngine.anchoring_some {r : ReplayEngine} {closed : Word} (h : r.anchoring = some closed) :
    ∃ q, r.recovery = some q ∧ q.phase = .anchoring := by
  unfold ReplayEngine.anchoring at h
  split at h
  · next q hq =>
    split at h
    · next hphase => exact ⟨q, hq, hphase⟩
    · cases h
  · cases h

theorem completeRecovery_bounds {s : State} (hs : s.EpochShape) (h : s.Bounds) : (completeRecovery s).Bounds := by
  unfold completeRecovery
  split
  · exact h
  · next closed hclosed =>
    obtain ⟨q, hq, hphase⟩ := ReplayEngine.anchoring_some hclosed
    have hmode := hs.recovery_recovering (by simp [hq])
    have hno := hs.not_awaits_of_recovery hq (by simp [hphase])
    have hended : s.NoMore (raise .recoveryDone ((s.setEpochs { s.epochs with closedThrough := closed }).setReplay
        { s.replay with recovery := none })) :=
      { State.NoMore.refl s with scan := nofun }
    dsimp only
    split
    · exact h.noMore_of_quiet hno ((hended.trans (openEpoch_noMore _ _)).trans (setMode_noMore (by simp [hmode]) _))
    · exact h.noMore_of_quiet hno (hended.trans (setMode_noMore (by simp [hmode]) _))

theorem completeQuiesce_bounds {s : State} (hs : s.EpochShape) (h : s.Bounds) : (completeQuiesce s).Bounds := by
  unfold completeQuiesce
  split
  · next q hq =>
    split
    · next hphase =>
      have hrunning := hs.running_of_commit hq
      exact h.noMore_of_quiet (hs.not_awaits_of_commit hq (by simp [hphase]))
        (((setEpochs_noMore _ s).trans (setMode_noMore (by exact hrunning) _)).trans (raise_sameWork _ _).noMore)
    · exact h
  · exact h

theorem RingManager.takeTail_used (r : RingManager) (tail : Nat) (sequence : Word) (endsRecovery : Bool) :
    (r.takeTail tail sequence endsRecovery).used ≤ r.used := by
  unfold RingManager.takeTail
  split
  · exact Nat.zero_le _
  · exact Nat.sub_le _ _

theorem RingManager.takeTail_lists (r : RingManager) (tail : Nat) (sequence : Word) (endsRecovery : Bool) :
    (r.takeTail tail sequence endsRecovery).promised = r.promised ∧
      (r.takeTail tail sequence endsRecovery).writes = r.writes := by
  unfold RingManager.takeTail
  split <;> exact ⟨rfl, rfl⟩

theorem judgeUpdate_bounds {s : State} (h : s.Bounds) (w : AnchorWrite) (tail : Nat) (sequence : Word)
    (endsRecovery : Bool) (first second : LineAnswer) : (judgeUpdate w tail sequence endsRecovery first second s).Bounds := by
  unfold judgeUpdate
  split
  · obtain ⟨hpromised, hwrites⟩ := s.ring.takeTail_lists tail sequence endsRecovery
    refine h.untouched { State.NoMore.refl s with
      used := s.ring.takeTail_used tail sequence endsRecovery, promised := hpromised, writes := hwrites
      heads := State.recordHeads_congr hwrites rfl } rfl rfl
  · refine h.work (State.SameWork.trans (State.SameWork.trans ?_ (logAnchorFault_sameWork _ _ _ _)) (raise_sameWork _ _))
    exact setAnchor_sameWork rfl rfl rfl

/-! ### STOREs -/

theorem State.readingSlots_of_idle {s : State} (h : ∀ i : Fin 4, s.capture.slots[i] = none) : s.readingSlots = 0 := by
  refine List.countP_eq_zero.mpr fun x hx => ?_
  obtain ⟨i, hi, rfl⟩ := Vector.mem_iff_getElem.mp (Vector.mem_toList_iff.mp hx)
  simp [show s.capture.slots[i] = none from h ⟨i, hi⟩]

/-- A change of the ring and of its size while no capture runs: what is left to bound is the used slots and a scan. -/
theorem State.Core.resize {s t : State} (h : s.Core) (hidle : ∀ i : Fin 4, s.capture.slots[i] = none)
    (hmode : t.modes.mode ≠ .halted → s.modes.mode ≠ .halted) (hfits : t.ring.used ≤ t.size)
    (hpromised : t.ring.promised = s.ring.promised ∨ t.ring.promised = 0) (hloading : t.anchor.loading = none)
    (hwrite : t.anchor.write = s.anchor.write)
    (hscan : ∀ q k, t.replay.recovery = some q → q.phase = .scanning k → k < t.size)
    (hwrites : t.ring.writes = s.ring.writes) (hcapture : t.capture = s.capture)
    (hsources : t.journalSources = s.journalSources) : t.Core := by
  have hslots : t.capture.slots = s.capture.slots := by rw [hcapture]
  have hnone : s.ring.promised = 0 := h.promises.trans (State.readingSlots_of_idle hidle)
  have hzero : t.ring.promised = 0 := by
    obtain hkept | hcleared := hpromised
    · rw [hkept, hnone]
    · exact hcleared
  have hreads := State.captureReads_congr (t := t) (s := s) (by rw [hcapture]) hsources
  have hheads := State.recordHeads_congr hwrites hsources
  refine ⟨by rw [hzero]; exact hfits, ?_, fun hl => by simp [hloading] at hl, by rw [hwrite]; exact h.store, hscan,
    fun hm => ?_⟩
  · rw [hzero, State.readingSlots, hslots, ← State.readingSlots, State.readingSlots_of_idle hidle]
  · have hlists := h.lists (hmode hm)
    exact hlists.moved (by rw [hreads]) hslots (hwrites ▸ hlists.paired) hheads

/-- With no sequence waiting for a marker before, and the same records being written, the core is all. -/
theorem State.Bounds.of_quiet {s t : State} (h : s.Bounds) (hno : ¬ s.AwaitsMarker)
    (hmode : t.modes.mode ≠ .halted → s.modes.mode ≠ .halted) (hheads : t.recordHeads = s.recordHeads) (ht : t.Core) :
    t.Bounds := by
  refine ⟨ht, fun hm _ => ?_⟩
  rw [State.markerHeads, hheads]
  exact h.marker (hmode hm) hno

theorem reclassify_sameWork (s : State) : s.SameWork (reclassify s) := .of_eq

/-- A STORE is installed with no capture and no sequence running: the ring is empty in any area (R35, R144). -/
theorem installStore_bounds {s : State} (hs : s.EpochShape) (hc : s.Counted) (h : s.Bounds)
    (hmode : s.modes.mode = .quiesced ∨ s.modes.mode = .bypass) (w : AnchorWrite) (c : Configuration) :
    (installStore w c s).Bounds := by
  have hactive : s.modes.mode ≠ .active := by rintro h; simp [h] at hmode
  have hquiescing : s.modes.mode ≠ .quiescing := by rintro h; simp [h] at hmode
  have hrecovery : s.replay.recovery = none := hs.recovery_none (by rintro h; simp [h] at hmode)
  have hloading : s.anchor.loading = none := hs.loading_none (by rintro h; simp [h] at hmode)
  have hno := State.not_awaits_of_none (hs.empty hactive hquiescing).2 (hs.rollback_none hactive) hrecovery
  have hinstalled (entries : List HoldEntry) : ((raise .storeDone ((makeCurrent w (s.setAnchor { s.anchor with
      stale := false, working := c })).setRing (s.ring.resetTo w.generation))).setHold
        { s.hold with entries := entries }).Bounds :=
    h.of_quiet hno id rfl (h.core.resize (hc.slot_none_of_mode hs hactive hquiescing) id
      (Nat.zero_le _) (.inl rfl) hloading rfl (fun q _ hq => by cases hrecovery.symm.trans hq) rfl rfl rfl)
  exact (hinstalled _).work ((discardDeferred_sameWork _ _).trans (reclassify_sameWork _))

theorem judgeStore_bounds {s : State} (hs : s.EpochShape) (hc : s.CountsRight) (h : s.Bounds)
    (hmode : s.modes.mode ≠ .halted → s.modes.mode = .quiesced ∨ s.modes.mode = .bypass) (w : AnchorWrite)
    (c : Configuration) (first second : LineAnswer) : (judgeStore w c first second s).Bounds := by
  have hlogged := logAnchorFault_sameWork w.target first second s
  dsimp only [judgeStore]
  split_ifs with _ hhalted hhalted
  · exact h.work (makeCurrent_sameWork w s)
  · exact installStore_bounds hs (hc.counted hhalted) h (hmode hhalted) w c
  · exact h.work hlogged
  · exact h.work (hlogged.trans (raise_sameWork _ _))

theorem judgeAnchorWrite_bounds {s : State} (hs : s.EpochShape) (hc : s.CountsRight) (h : s.Bounds) {w : AnchorWrite}
    (hw : s.anchor.write = some w) (first second : LineAnswer) : (judgeAnchorWrite w first second s).Bounds := by
  have hfree : (s.setAnchor { s.anchor with write := none }).Bounds :=
    h.untouched { State.NoMore.refl s with write := nofun } rfl rfl
  have hshape : s.SameShape (s.setAnchor { s.anchor with write := none }) := setAnchor_sameShape rfl
  dsimp only [judgeAnchorWrite]
  split
  · next tail sequence endsRecovery _ =>
    have hjudged := buildPending_bounds (judgeUpdate_bounds hfree w tail sequence endsRecovery first second)
    have hjudgedShape := hs.same ((hshape.trans (judgeUpdate_sameShape w tail sequence endsRecovery first second _)).trans
      (buildPending_sameShape _))
    have hrecovered := completeRecovery_bounds hjudgedShape hjudged
    split
    · exact hrecovered
    · exact completeQuiesce_bounds (completeRecovery_epochShape hjudgedShape) hrecovered
  · next c hkind =>
    refine buildPending_bounds (judgeStore_bounds (hs.same hshape) (hc.setAnchor (by simp)) hfree (fun hmode => ?_) w c
      first second)
    exact (hc.counted hmode).store c (by rw [hw, Option.map_some, hkind])

theorem anchorLineAnswered_bounds {s : State} (hs : s.EpochShape) (hc : s.CountsRight) (h : s.Bounds) (second : Bool)
    (a : LineAnswer) : (anchorLineAnswered second a s).Bounds := by
  unfold anchorLineAnswered
  split
  · exact h
  · next w hw =>
    split
    · split
      · exact judgeAnchorWrite_bounds hs hc h hw _ a
      · exact h
    · exact h.work (setAnchor_sameWork rfl (by rw [hw]; rfl) rfl)

/-! ### LOADING -/

theorem State.EpochShape.not_awaits_of_loading {s : State} (h : s.EpochShape) (hmode : s.modes.mode = .loading) :
    ¬ s.AwaitsMarker :=
  State.not_awaits_of_none (h.empty (by simp [hmode]) (by simp [hmode])).2 (h.rollback_none (by simp [hmode]))
    (h.recovery_none (by simp [hmode]))

/-- The copy taken at LOADING has a journal, and the scan begins in it (R99, R143). -/
theorem loadCopy_bounds {s : State} (hs : s.EpochShape) (hc : s.CountsRight) (h : s.Bounds)
    (hmode : s.modes.mode = .loading) (c : Copy) {f : AnchorFields} (hslots : 16 ≤ f.configuration.slots.toNat) :
    (loadCopy c f s).Bounds := by
  have hidle := (hc.counted (by simp [hmode])).slot_none_of_mode hs (by simp [hmode]) (by simp [hmode])
  have hrunning : s.modes.mode ≠ .halted := by simp [hmode]
  refine State.Bounds.noMore_of_quiet (s := { s with
      anchor := { s.anchor with
        working := f.configuration, current := some c, generation := f.generation, stale := false, loading := none }
      ring := s.ring.load f
      epochs := { s.epochs with closedThrough := f.closedThrough }
      management := { s.management with pending := f.configuration }
      replay := { s.replay with
        recovery := some
          { phase := .scanning 0, ringId := f.ringId, runLength := none, lastMarker := none, cutoff := none,
            highest := none, recoveredThrough := none }
        requests := slotReads f.tail
        headLine := none } }) ?_ ?_ (setMode_noMore (by exact hrunning) _)
  · refine h.of_quiet (hs.not_awaits_of_loading hmode) id rfl
      (h.core.resize hidle id (Nat.zero_le _) (.inr rfl) rfl rfl ?_ rfl rfl rfl)
    rintro q k ⟨⟩ ⟨⟩
    exact Nat.lt_of_lt_of_le (by decide) hslots
  · rintro (⟨q, -, -, hq, -⟩ | ⟨q, -, -, hq, -⟩ | ⟨q, hq, hphase⟩)
    · exact absurd hq (by simp [(hs.empty (by simp [hmode]) (by simp [hmode])).2])
    · exact absurd hq (by simp [hs.rollback_none (by simp [hmode])])
    · cases hq
      cases hphase

theorem loadNothing_bounds {s : State} (hs : s.EpochShape) (h : s.Bounds) (hl : s.anchor.loading.isSome = true) :
    (loadNothing s).Bounds := by
  have hmode := hs.loading_loading hl
  have hrunning : s.modes.mode ≠ .halted := by simp [hmode]
  have hdefault : s.NoMore { s with
      anchor := { s.anchor with
        working := .noAnchor, current := none, generation := 0#32, stale := false, loading := none }
      management := { s.management with pending := .noAnchor }
      modes := { s.modes with cause := .noAnchor } } :=
    { State.NoMore.refl s with loading := nofun, size := (h.core.loading hl).symm }
  exact h.noMore_of_quiet (hs.not_awaits_of_loading hmode)
    ((hdefault.trans (setMode_noMore (by exact hrunning) _)).trans (raise_sameWork _ _).noMore)

theorem Configuration.slots_of_valid {c : Configuration} {base : Word} (h : c.valid base = true) : 16 ≤ c.slots.toNat := by
  simp only [Configuration.valid, Configuration.hasJournal, Bool.and_eq_true, decide_eq_true_eq] at h
  obtain ⟨⟨⟨⟨⟨⟨⟨hmin, -⟩, -⟩, -⟩, -⟩, -⟩, -⟩, -⟩ := h
  exact hmin

theorem judgeLines_slots {base : Word} {first second : Option (List Byte)} {f : AnchorFields}
    (h : judgeLines base first second = some f) : 16 ≤ f.configuration.slots.toNat := by
  unfold judgeLines at h
  split at h
  · unfold judgeCopy at h
    dsimp only at h
    split at h
    · next hjudged =>
      cases h
      obtain ⟨-, -, -, -, hvalid, -⟩ := hjudged
      exact Configuration.slots_of_valid hvalid
    · cases h
  · cases h

theorem chooseCopy_some {a b : Option AnchorFields} {c : Copy} {f : AnchorFields} (h : chooseCopy a b = some (c, f)) :
    a = some f ∨ b = some f := by
  unfold chooseCopy at h
  split at h
  · split at h
    · cases h; exact .inr rfl
    · cases h; exact .inl rfl
  · cases h; exact .inl rfl
  · cases h; exact .inr rfl
  · cases h

theorem anchorReadAnswered_bounds {s : State} (hs : s.EpochShape) (hc : s.CountsRight) (h : s.Bounds) (a : ReadAnswer) :
    (anchorReadAnswered a s).Bounds := by
  unfold anchorReadAnswered
  split
  · exact h
  · next l hl =>
    have hmode := hs.loading_loading (by simp [hl])
    have hsame (x : Loading) : s.SameWork (s.setAnchor { s.anchor with loading := some x }) :=
      setAnchor_sameWork (by simp [hl]) rfl rfl
    have hshape (x : Loading) : (s.setAnchor { s.anchor with loading := some x }).EpochShape :=
      hs.same (setAnchor_sameShape (by simp [hl]))
    dsimp only
    split_ifs
    · unfold judgeCopies
      split
      · split
        · next c f hchosen =>
          refine loadCopy_bounds (hshape _) (hc.work (hsame _)) (h.work (hsame _)) hmode c ?_
          obtain hfirst | hsecond := chooseCopy_some hchosen
          · exact judgeLines_slots hfirst
          · exact judgeLines_slots hsecond
        · exact loadNothing_bounds (hshape _) (h.work (hsame _)) rfl
      · exact h.work (hsame _)
    · exact h.work (hsame _)

end Sys2Proof.Machine

/-! The bounds of the journal through the replay engine (R92 to R104). -/

namespace Sys2Proof.Machine

-- One theorem at a time: the proofs below would otherwise wait for one another in many threads.
set_option Elab.async false

/-! ### The end of a recovery -/

theorem anchorRecovery_noMore (q : Recovery) (closed : Word) (s : State) : s.NoMore (anchorRecovery q closed s) := by
  refine State.NoMore.trans ?_ (requestUpdate_noMore _)
  refine { State.NoMore.refl s with scan := ?_ }
  rintro q' k ⟨⟩ ⟨⟩

theorem finishRestoring_bounds {s : State} (h : s.Bounds) (hno : ¬ s.AwaitsMarker) (q : Recovery) :
    (finishRestoring q s).Bounds := by
  unfold finishRestoring
  split
  · exact h.noMore_of_quiet hno (anchorRecovery_noMore q _ s)
  · refine requestMarker_bounds (by simp) h hno (fun _ _ => ?_) fun _ _ => .inr (.inr ⟨_, rfl, rfl⟩)
    refine { State.NoMore.refl _ with scan := ?_ }
    rintro q' k ⟨⟩ ⟨⟩

theorem failReplayRead_bounds {s : State} (h : s.Bounds) (slot : Nat) : (failReplayRead slot s).Bounds :=
  logError_halt_bounds h.core _ _ _ _ _

/-! ### Walks -/

/-- A rollback that walks goes on walking. -/
theorem walkOn_bounds {s : State} (hs : s.EpochShape) (h : s.Bounds) {r : Rollback} (hr : s.replay.rollback = some r)
    {w : Walk} (hphase : r.phase = .walking w) (next : Walk) (requests : List ReplayRequest)
    (headLine : Option (List Byte)) :
    let t := s.setReplay { s.replay with
      rollback := some { r with phase := .walking next }, requests := requests, headLine := headLine }
    t.Bounds ∧ ¬ t.AwaitsMarker := by
  refine ⟨h.noMore_of_quiet (hs.not_awaits_of_rollback hr (by simp [hphase])) (setReplay_noMore rfl), ?_⟩
  refine State.EpochShape.not_awaits_of_rollback (hs.same (sameShape_setReplay ?_ rfl)) rfl (by simp)
  simp [hr]

theorem judgeRollbackSlot_bounds {s : State} (hs : s.EpochShape) (h : s.Bounds) {r : Rollback}
    (hr : s.replay.rollback = some r) {w : Walk} (hphase : r.phase = .walking w) (head body : List Byte) :
    (judgeRollbackSlot r w head body s).Bounds := by
  dsimp only [judgeRollbackSlot]
  split
  · exact logError_halt_bounds h.core _ _ _ _ _
  · obtain ⟨hwalked, hno⟩ := walkOn_bounds hs h hr hphase _ _ _
    split
    · exact queueClose_bounds hwalked hno _
    · exact hwalked

/-- A recovery goes on to a phase that neither scans nor closes. -/
theorem recoverOn_bounds {s : State} (hs : s.EpochShape) (h : s.Bounds) {q : Recovery} (hq : s.replay.recovery = some q)
    (hphase : q.phase ≠ .closing) {next : Recovery} (hscan : ∀ k, next.phase ≠ .scanning k)
    (hclosing : next.phase ≠ .closing) (requests : List ReplayRequest) (headLine : Option (List Byte)) :
    let t := s.setReplay { s.replay with recovery := some next, requests := requests, headLine := headLine }
    t.Bounds ∧ ¬ t.AwaitsMarker := by
  have hmore : s.NoMore (s.setReplay { s.replay with
      recovery := some next, requests := requests, headLine := headLine }) :=
    { State.NoMore.refl s with
      scan := fun q' k hq' hk => by
        cases hq'
        exact absurd hk (hscan k) }
  refine ⟨h.noMore_of_quiet (hs.not_awaits_of_recovery hq hphase) hmore, ?_⟩
  refine State.EpochShape.not_awaits_of_recovery (hs.same (sameShape_setReplay rfl ?_)) rfl hclosing
  simp [hq]

theorem judgeRecoverySlot_bounds {s : State} (hs : s.EpochShape) (h : s.Bounds) {q : Recovery}
    (hq : s.replay.recovery = some q) {w : Walk} (hphase : q.phase = .restoring w) (head body : List Byte) :
    (judgeRecoverySlot q w head body s).Bounds := by
  dsimp only [judgeRecoverySlot]
  split
  · exact logError_halt_bounds h.core _ _ _ _ _
  · next info _ =>
    obtain ⟨hwalked, hno⟩ := recoverOn_bounds hs h hq (by simp [hphase]) (next := { q with
        phase := .restoring (w.back s.size (restoreOf (q.cutoff.getD s.epochs.closedThrough) info body).isSome)
        highest := if (restoreOf (q.cutoff.getD s.epochs.closedThrough) info body).isSome then
          raiseHighest q.highest info.epoch else q.highest }) (by simp) (by simp) _ _
    split
    · exact finishRestoring_bounds hwalked hno _
    · exact hwalked

/-! ### The scan -/

/-- A change of the replay engine that leaves its scan within the ring. -/
theorem State.Core.setReplay {s : State} (h : s.Core) {x : ReplayEngine}
    (hscan : ∀ q k, x.recovery = some q → q.phase = .scanning k → k < s.size) : (s.setReplay x).Core :=
  ⟨h.fits, h.promises, h.loading, h.store, hscan, fun hm =>
    let ⟨honce, hreading, hpaired, hlines, hmarkers⟩ := h.lists hm
    ⟨honce, hreading, hpaired, hlines, hmarkers⟩⟩

/-- The scan ends with a run that fits the ring, no capture running (R99, R100). -/
theorem endScan_bounds {s : State} (hs : s.EpochShape) (hc : s.Counted) (h : s.Bounds) {q : Recovery}
    (hq : s.replay.recovery = some q) (hphase : q.phase ≠ .closing) {r : Recovery} {k : Nat} (hk : k ≤ s.size) :
    (endScan r k s).Bounds := by
  have hmode := hs.recovery_recovering (by simp [hq])
  have hidle := hc.slot_none_of_mode hs (by simp [hmode]) (by simp [hmode])
  have hno := hs.not_awaits_of_recovery hq hphase
  have hring (head : Nat) (sequence : Word) :
      (s.setRing { s.ring with head := head, headSequence := sequence, used := k }).Bounds :=
    h.of_quiet hno id rfl (h.core.resize hidle id hk (.inl rfl) (hs.loading_none (by simp [hmode])) rfl h.core.scan
      rfl rfl rfl)
  have hshape (x : RingManager) : (s.setRing x).EpochShape := hs.same .of_eq
  dsimp only [endScan]
  split
  · exact (hring _ _).noMore_of_quiet ((hshape _).not_awaits_of_recovery hq hphase) (anchorRecovery_noMore _ _ _)
  · exact (recoverOn_bounds (hshape _) (hring _ _) hq hphase (by simp) (by simp) _ _).1

theorem judgeScanSlot_bounds {s : State} (hs : s.EpochShape) (hc : s.Counted) (h : s.Bounds) {q : Recovery}
    (hq : s.replay.recovery = some q) {k : Nat} (hphase : q.phase = .scanning k) (head body : List Byte) :
    (judgeScanSlot q k head body s).Bounds := by
  have hk : k < s.size := h.core.scan q k hq hphase
  have hdropped : s.SameWork (s.setReplay { s.replay with headLine := none }) := setReplay_sameWork rfl rfl
  have hshape : (s.setReplay { s.replay with headLine := none }).EpochShape := hs.same (sameShape_setReplay rfl rfl)
  have hclosing : q.phase ≠ .closing := by simp [hphase]
  have hend (r : Recovery) {n : Nat} (hn : n ≤ s.size) :
      (endScan r n (s.setReplay { s.replay with headLine := none })).Bounds :=
    endScan_bounds hshape (hc.same hdropped.counts) (h.work hdropped) hq hclosing hn
  dsimp only [judgeScanSlot]
  split
  · exact hend q (Nat.le_of_lt hk)
  · split
    · exact hend _ hk
    · next hmore =>
      refine h.of_quiet (hs.not_awaits_of_recovery hq hclosing) id rfl ((h.work hdropped).core.setReplay ?_)
      rintro q' n ⟨⟩ ⟨⟩
      exact Nat.lt_of_le_of_ne hk hmore

/-! ### Answers to the replay engine -/

theorem replayBodyRead_bounds {s : State} (hs : s.EpochShape) (hc : s.CountsRight) (h : s.Bounds) (body : List Byte) :
    (replayBodyRead body s).Bounds := by
  unfold replayBodyRead
  split
  · next r _ hr =>
    split
    · next w hphase => exact judgeRollbackSlot_bounds hs h hr hphase _ _
    · exact h
  · next q _ _ hq =>
    have hmode := hs.recovery_recovering (by simp [hq])
    split
    · next k hphase => exact judgeScanSlot_bounds hs (hc.counted (by simp [hmode])) h hq hphase _ _
    · next w hphase => exact judgeRecoverySlot_bounds hs h hq hphase _ _
    · exact h
  · exact h

theorem replayHeadAnswered_bounds {s : State} (h : s.Bounds) (a : ReadAnswer) (slot : Nat) :
    (replayHeadAnswered a slot s).Bounds := by
  unfold replayHeadAnswered
  split
  · cases a with
    | done data => exact h.work (setReplay_sameWork rfl rfl)
    | fault => exact failReplayRead_bounds h slot
  · exact h

theorem replayBodyAnswered_bounds {s : State} (hs : s.EpochShape) (hc : s.CountsRight) (h : s.Bounds) (a : ReadAnswer)
    (slot : Nat) : (replayBodyAnswered a slot s).Bounds := by
  unfold replayBodyAnswered
  split
  · cases a with
    | done data => exact replayBodyRead_bounds hs hc h data
    | fault => exact failReplayRead_bounds h slot
  · exact h

theorem restoreDone_bounds {s : State} (hs : s.EpochShape) (h : s.Bounds) : (restoreDone s).Bounds := by
  unfold restoreDone
  split
  · next _ r hr =>
    split
    · next w hphase =>
      obtain ⟨hwalked, hno⟩ := walkOn_bounds hs h hr hphase { w with outstanding := w.outstanding - 1 }
        s.replay.requests s.replay.headLine
      dsimp only
      split
      · exact queueClose_bounds hwalked hno _
      · exact hwalked
    · exact h
  · next q _ hq =>
    split
    · next w hphase =>
      obtain ⟨hwalked, hno⟩ := recoverOn_bounds hs h hq (by simp [hphase])
        (next := { q with phase := .restoring { w with outstanding := w.outstanding - 1 } }) (by simp) (by simp)
        s.replay.requests s.replay.headLine
      dsimp only
      split
      · exact finishRestoring_bounds hwalked hno _
      · exact hwalked
    · exact h
  · exact h

theorem restoreAnswered_bounds {s : State} (hs : s.EpochShape) (h : s.Bounds) (a : WriteAnswer) (slot : Nat)
    (epoch line : Word) : (restoreAnswered a slot epoch line s).Bounds := by
  cases a with
  | done => exact restoreDone_bounds hs h
  | fault =>
    simp only [restoreAnswered, restoreFaulted]
    split
    · exact logError_halt_bounds h.core _ _ _ _ _
    · exact h

end Sys2Proof.Machine

/-! The bounds of the journal through the captures (R24 to R30, R44 to R50, R61 to R69). -/

namespace Sys2Proof.Machine

-- One theorem at a time: the proofs below would otherwise wait for one another in many threads.
set_option Elab.async false

/-! ### One capture slot changes -/

/-- A capture slot is READING. -/
def slotReading (x : Option Capture) : Bool := x.any fun c => c.writingKey.isNone

theorem slotReading_iff {c : Capture} : slotReading (some c) = true ↔ ∃ cancelled, c.phase = .reading cancelled := by
  cases hphase : c.phase <;> simp [slotReading, Capture.writingKey, hphase]

theorem slots_split (v : Vector (Option Capture) 4) (i : Fin 4) :
    ∃ before after, v.toList = before ++ v[i] :: after ∧ ∀ x, (v.set i x).toList = before ++ x :: after := by
  have hlength : i.val < v.toList.length := by simp
  refine ⟨v.toList.take i, v.toList.drop (i + 1), ?_, fun x => ?_⟩
  · conv_lhs => rw [← List.take_append_drop i.val v.toList, List.drop_eq_getElem_cons hlength]
    simp
  · rw [Vector.toList_set, List.set_eq_take_append_cons_drop, if_pos hlength]

section
variable {s t : State} {i : Fin 4} {x : Option Capture} (hslots : t.capture.slots = (s.capture.setSlot i x).slots)
include hslots

theorem State.readingSlots_setSlot :
    t.readingSlots + (slotReading s.capture.slots[i]).toNat = s.readingSlots + (slotReading x).toNat := by
  obtain ⟨before, after, hold, hnew⟩ := slots_split s.capture.slots i
  have hs : s.readingSlots = (before ++ s.capture.slots[i] :: after).countP slotReading := by rw [← hold]; rfl
  have ht : t.readingSlots = (before ++ x :: after).countP slotReading := by
    rw [← hnew x, State.readingSlots, hslots]
    rfl
  rw [hs, ht]
  simp only [List.countP_append, List.countP_cons]
  cases slotReading x <;> cases slotReading s.capture.slots[i] <;> simp <;> omega

theorem State.writingKeys_setSlot :
    ∃ before after, s.writingKeys = before ++ (s.capture.slots[i].bind Capture.writingKey).toList ++ after ∧
      t.writingKeys = before ++ (x.bind Capture.writingKey).toList ++ after := by
  obtain ⟨before, after, hold, hnew⟩ := slots_split s.capture.slots i
  refine ⟨before.filterMap fun x => x.bind Capture.writingKey, after.filterMap fun x => x.bind Capture.writingKey, ?_, ?_⟩
  · rw [State.writingKeys, hold]
    generalize s.capture.slots[i] = y
    cases hkey : y.bind Capture.writingKey <;> simp [hkey]
  · rw [State.writingKeys, hslots, CaptureUnit.setSlot, hnew]
    cases hkey : x.bind Capture.writingKey <;> simp [hkey]

theorem State.reading_setSlot {j : Fin 4} (hne : j ≠ i) : t.Reading j ↔ s.Reading j := by
  unfold State.Reading
  rw [hslots, CaptureUnit.setSlot_slots, if_neg (Ne.symm hne)]

end

/-! ### Entries that join and leave the memory queue -/

theorem Source.asCaptureRead_ofJournal (x : Source) :
    x.ofJournal.toList.filterMap Source.asCaptureRead = x.asCaptureRead.toList := by
  cases x with
  | holdRelease epoch => cases epoch <;> rfl
  | _ => rfl

theorem Source.asRecordHead_ofJournal (x : Source) :
    x.ofJournal.toList.filterMap Source.asRecordHead = x.asRecordHead.toList := by
  cases x with
  | holdRelease epoch => cases epoch <;> rfl
  | recordWrite info isHead => cases isHead <;> rfl
  | _ => rfl

theorem State.Awaits.captureReads {s : State} {e : MemoryEntry} {rest : List MemoryEntry} (h : s.Awaits e rest) :
    s.captureReads.Perm (e.source.asCaptureRead.toList ++ (s.answered rest).captureReads) := by
  rw [State.captureReads_eq, h.journalSources, List.filterMap_append, Source.asCaptureRead_ofJournal,
    State.captureReads_eq]
  exact List.perm_append_comm_assoc _ _ _

theorem State.Awaits.recordHeads {s : State} {e : MemoryEntry} {rest : List MemoryEntry} (h : s.Awaits e rest) :
    s.recordHeads = e.source.asRecordHead.toList ++ (s.answered rest).recordHeads := by
  rw [State.recordHeads_eq, h.journalSources, List.filterMap_append, Source.asRecordHead_ofJournal, List.append_assoc,
    State.recordHeads_eq]
  rfl

/-- An answered entry that is neither a capture read nor the head write of a record leaves. -/
theorem State.Awaits.bounds {s : State} {e : MemoryEntry} {rest : List MemoryEntry} (ha : s.Awaits e rest)
    (h : s.Bounds) (hread : e.source.asCaptureRead = none) (hhead : e.source.asRecordHead = none) :
    (s.answered rest).Bounds := by
  have hsources := ha.journalSources
  refine h.untouched { State.NoMore.refl s with reads := ?_, heads := ?_ } rfl rfl
  · have hreads : s.captureReads = s.capture.reads ++ (s.answered rest).journalSources.filterMap Source.asCaptureRead := by
      rw [State.captureReads_eq, hsources, List.filterMap_append, Source.asCaptureRead_ofJournal, hread]
      rfl
    rw [hreads, State.captureReads_eq]
    rfl
  · rw [ha.recordHeads, hhead]
    rfl

/-- A capture read that is answered leaves, and its slot has no other. -/
theorem State.Awaits.captureRead_bounds {s : State} {e : MemoryEntry} {rest : List MemoryEntry} (ha : s.Awaits e rest)
    (h : s.Bounds) {i : Fin 4} (hsource : e.source = .captureRead i) :
    (s.answered rest).Bounds ∧ (s.modes.mode ≠ .halted → i ∉ (s.answered rest).captureReads) := by
  have hheads : (s.answered rest).recordHeads = s.recordHeads := by
    rw [ha.recordHeads, hsource]
    rfl
  have hreads : s.captureReads.Perm (i :: (s.answered rest).captureReads) := by
    have := ha.captureReads
    rwa [hsource] at this
  refine ⟨⟨⟨h.core.fits, h.core.promises, h.core.loading, h.core.store, h.core.scan, fun hm => ?_⟩, fun hm hno => ?_⟩,
    fun hm => ?_⟩
  · obtain ⟨honce, hreading, hpaired, hlines, hmarkers⟩ := h.core.lists hm
    refine ⟨(List.nodup_cons.mp (hreads.nodup_iff.mp honce)).2,
      fun j hj => hreading j (hreads.mem_iff.mpr (List.mem_cons_of_mem i hj)), hpaired, ?_, ?_⟩
    · rw [State.lineHeads, hheads]
      exact hlines
    · rw [State.markerHeads, hheads]
      exact hmarkers
  · rw [State.markerHeads, hheads]
    exact h.marker hm hno
  · exact (List.nodup_cons.mp (hreads.nodup_iff.mp (h.core.lists hm).once)).1

theorem enqueue_captureReads (e : MemoryEntry) (s : State) :
    (enqueue e s).captureReads = s.captureReads ++ e.source.asCaptureRead.toList := by
  rw [State.captureReads_eq, enqueue_journalSources, List.filterMap_append, Source.asCaptureRead_ofJournal,
    ← List.append_assoc, State.captureReads_eq]
  rfl

/-! ### The hold queue -/

theorem takePass_bounds {s : State} (h : s.Bounds) (r : HostRequest) : (takePass r s).Bounds :=
  h.noMore { State.NoMore.refl s with } id

theorem takeJournal_bounds {s : State} (h : s.Bounds) (r : HostRequest) (window : Fin 8) (n : Word) :
    (takeJournal r window n s).Bounds := by
  dsimp only [takeJournal]
  split
  · exact h.noMore { State.NoMore.refl s with } id
  · exact h.noMore { State.NoMore.refl s with } id
  · split
    · exact h.noMore { State.NoMore.refl s with } id
    · exact h.noMore { State.NoMore.refl s with } id

theorem takeWrite_bounds {s : State} (h : s.Bounds) (r : HostRequest) (journaled : Bool) :
    (takeWrite r journaled s).Bounds := by
  have hdone (u : State) : u.SameWork (bump .hostWrites (answerHost (.done []) u)) := .of_eq
  have hdiscarded := h.work (discardDeferred_sameWork (fun d => d.line == r.line) s)
  unfold takeWrite
  refine State.Bounds.work ?_ (hdone _)
  split
  · exact takeJournal_bounds hdiscarded _ _ _
  · exact takePass_bounds hdiscarded r

theorem offerWrite_bounds {s : State} (h : s.Bounds) (r : HostRequest) (journaled : Bool) :
    (offerWrite r journaled s).Bounds := by
  unfold offerWrite
  split
  · exact takeWrite_bounds h r journaled
  · exact h.work .of_eq

/-- A data write joins the memory queue, and is neither a capture read nor a record write. -/
theorem releaseHead_bounds {s : State} (h : s.Bounds) (hside : s.holdSide = true) : (releaseHead s).Bounds := by
  obtain ⟨e, rest, hentries, -⟩ := s.holdSide_iff.mp hside
  cases hcls : e.cls with
  | pass =>
    rw [releaseHead_of_pass hentries hcls]
    refine h.noMore { State.NoMore.refl s with reads := ?_, heads := ?_ } id
    · simp [State.captureReads, writeEntry]
    · simp [State.recordHeads, writeEntry]
  | journal n window =>
    rw [releaseHead_of_journal hentries hcls]
    refine h.noMore { State.NoMore.refl s with reads := ?_, heads := ?_ } id
    · simp [State.captureReads, writeEntry]
    · simp [State.recordHeads, writeEntry]

/-! ### Data writes and damage -/

/-- An epoch whose marker is being written has no data write outstanding. -/
theorem State.Counted.marker_elsewhere_of_write {s : State} (h : s.Counted) {n : Word} (hn : n ∈ s.dataWrites) :
    s.MarkerElsewhere n := by
  rintro q slot sequence hq hphase rfl
  obtain ⟨k, hk, hkn⟩ := h.released _ hn
  exact h.not_drained_of_write hk (hkn ▸ hn) (h.marker q slot sequence hq hphase k hk hkn)

/-- An epoch whose marker is being written has no hold entry. -/
theorem State.Counted.marker_elsewhere_of_held {s : State} (h : s.Counted) {e : HoldEntry} (he : e ∈ s.hold.entries)
    {n : Word} (hn : e.cls.epoch = some n) : s.MarkerElsewhere n := by
  rintro q slot sequence hq hphase rfl
  obtain ⟨k, hk, hkn⟩ := h.stamped e he _ hn
  exact h.not_drained_of_held he hk (hkn ▸ hn) (h.marker q slot sequence hq hphase k hk hkn)

theorem dataWriteAnswered_bounds {s : State} (hs : s.EpochShape) (hc : s.CountsRight) (h : s.Bounds) {e : MemoryEntry}
    {rest : List MemoryEntry} (ha : s.Awaits e rest) {n : Word} (hsource : e.source = .holdRelease (some n))
    (a : WriteAnswer) : (dataWriteAnswered a n e (s.answered rest)).Bounds := by
  have hcounted : ((s.answered rest).setTable
      ((s.answered rest).epochs.table.modify n fun x => { x with out := x.out - 1 })).Bounds :=
    (ha.bounds h (by rw [hsource]; rfl) (by rw [hsource]; rfl)).noMore (setEpochs_noMore _ _) id
  have hshape : ((s.answered rest).setTable
      ((s.answered rest).epochs.table.modify n fun x => { x with out := x.out - 1 })).EpochShape :=
    hs.same ⟨rfl, rfl, rfl, rfl, EpochTable.keys_modify fun _ => rfl, rfl⟩
  have helse : s.MarkerElsewhere n := fun q slot sequence hq =>
    (hc.counted (hs.running_of_commit hq)).marker_elsewhere_of_write
      (State.mem_dataWrites.mpr ⟨e, by rw [ha.1]; exact List.mem_cons_self, hsource⟩) q slot sequence hq
  cases a with
  | done => exact drainNotice_bounds hshape hcounted
  | fault =>
    exact drainNotice_bounds (reportDamage_epochShape hshape _ _ _) (reportDamage_bounds hshape hcounted _ _ helse)

end Sys2Proof.Machine

/-! The bounds of the journal through the captures and their records (R24 to R30, R44 to R50, R61 to R69). -/

namespace Sys2Proof.Machine

-- One theorem at a time: the proofs below would otherwise wait for one another in many threads.
set_option Elab.async false

/-! ### Captures -/

/-- A slot whose read is to be answered is not IDLE. -/
theorem State.Lists.not_mem_of_idle {s : State} (h : s.Lists) {i : Fin 4} (hidle : s.capture.slots[i] = none) :
    i ∉ s.captureReads := by
  intro hi
  obtain ⟨c, -, hc, -⟩ := h.reading i hi
  exact absurd (hidle.symm.trans hc) (by simp)

/-- A capture starts: it takes a promise from the free space, and its read joins the read list (R25, R61, R62). -/
theorem startCapture_bounds {s : State} (h : s.Bounds) {i : Fin 4} (hidle : s.capture.slots[i] = none)
    (hfree : 1 ≤ s.free) (e : HoldEntry) (epoch : Word) (window : Fin 8) :
    (startCapture i e epoch window s).Bounds := by
  have hslots : (startCapture i e epoch window s).capture.slots = (s.capture.setSlot i (some
      (⟨e.line, epoch, window, some e.id, e.tag, .reading false⟩ : Capture))).slots := rfl
  have hreads : (startCapture i e epoch window s).captureReads.Perm (i :: s.captureReads) := by
    rw [State.captureReads_eq, State.captureReads_eq]
    show (s.capture.reads ++ [i] ++ s.journalSources.filterMap Source.asCaptureRead).Perm _
    rw [List.append_assoc]
    exact List.perm_middle
  refine ⟨⟨?_, ?_, h.core.loading, h.core.store, h.core.scan, fun hm => ?_⟩, h.marker⟩
  · have hfits := h.core.fits
    unfold State.free at hfree
    show s.ring.used + (s.ring.promised + 1) ≤ s.size
    omega
  · have hcount := State.readingSlots_setSlot hslots
    rw [hidle] at hcount
    show s.ring.promised + 1 = _
    rw [h.core.promises]
    exact hcount.symm
  · have hlists := h.core.lists hm
    have hnew := hlists.not_mem_of_idle hidle
    refine ⟨hreads.nodup_iff.mpr (List.nodup_cons.mpr ⟨hnew, hlists.once⟩), fun j hj => ?_, hlists.paired, ?_,
      hlists.markers⟩
    · obtain rfl | hj := List.mem_cons.mp (hreads.mem_iff.mp hj)
      · exact ⟨_, false, by rw [hslots, CaptureUnit.setSlot_slots, if_pos rfl], rfl⟩
      · exact (State.reading_setSlot hslots (ne_of_mem_of_not_mem hj hnew)).mpr (hlists.reading j hj)
    · obtain ⟨before, after, hold, hkeys⟩ := State.writingKeys_setSlot hslots
      rw [hkeys]
      rw [hidle] at hold
      exact hold ▸ hlists.lines

theorem idleSlot_idle {u : CaptureUnit} {i : Fin 4} (h : u.idleSlot = some i) : u.slots[i] = none := by
  simpa using List.find?_some h

theorem offerCapture_bounds {s : State} (hs : s.EpochShape) (h : s.Bounds) : (offerCapture s).Bounds := by
  unfold offerCapture
  split
  · next e i _ hi =>
    split
    · split
      · next hfree =>
        exact updateSpace_bounds (hs.same (startCapture_sameShape _ _ _ _ s))
          (startCapture_bounds h (idleSlot_idle hi) (Nat.lt_of_le_of_lt (Nat.zero_le _) hfree) e _ _)
      · exact h
    · exact h
  · exact h

/-- The read at the front of the read list moves to the memory queue (R62). -/
theorem grantCapture_bounds {s : State} (h : s.Bounds) : (grantCapture s).Bounds := by
  unfold grantCapture
  split
  · exact h
  · next i rest hrest =>
    split
    · exact h
    · next c _ =>
      have hreads : (enqueue (readEntry (.captureRead i) c.line)
          (s.setCapture { s.capture with reads := rest })).captureReads.Perm s.captureReads := by
        rw [enqueue_captureReads, State.captureReads_eq, State.captureReads_eq, hrest]
        show (rest ++ _ ++ [i]).Perm (i :: rest ++ _)
        exact List.perm_append_singleton _ _
      have hheads : (enqueue (readEntry (.captureRead i) c.line)
          (s.setCapture { s.capture with reads := rest })).recordHeads = s.recordHeads := by
        simp [State.recordHeads, enqueue, readEntry]
      refine ⟨⟨h.core.fits, h.core.promises, h.core.loading, h.core.store, h.core.scan, fun hm => ?_⟩, fun hm hno => ?_⟩
      · exact (h.core.lists hm).moved hreads rfl (h.core.lists hm).paired hheads
      · rw [State.markerHeads, hheads]
        exact h.marker hm hno

/-- The write at the front of the record write list moves to the memory queue (R29). -/
theorem grantRecord_bounds {s : State} (h : s.Bounds) : (grantRecord s).Bounds := by
  unfold grantRecord
  split
  · exact h
  · next w rest hrest =>
    have hreads : (enqueue (writeEntry (.recordWrite w.info w.isHead) w.address 0 w.data)
        (s.setRing { s.ring with writes := rest })).captureReads = s.captureReads := by
      simp [State.captureReads, enqueue, writeEntry]
    have hheads : (enqueue (writeEntry (.recordWrite w.info w.isHead) w.address 0 w.data)
        (s.setRing { s.ring with writes := rest })).recordHeads = s.recordHeads := by
      rw [State.recordHeads_eq, State.recordHeads_eq, enqueue_journalSources, List.filterMap_append, hrest]
      cases hw : w.isHead <;> simp [writeEntry, Source.ofJournal, Source.asRecordHead, hw]
    refine ⟨⟨h.core.fits, h.core.promises, h.core.loading, h.core.store, h.core.scan, fun hm => ?_⟩, fun hm hno => ?_⟩
    · have hpaired := (h.core.lists hm).paired
      rw [hrest] at hpaired
      exact (h.core.lists hm).moved (by rw [hreads]) rfl hpaired.2 hheads
    · rw [State.markerHeads, hheads]
      exact h.marker hm hno

/-- A READING capture, its read answered, is assigned a slot: its promise becomes a used slot, and its record joins the
record write list (R27, R63). -/
theorem lineAssigned_bounds {s : State} (h : s.Bounds) {i : Fin 4} {c : Capture} (hslot : s.capture.slots[i] = some c)
    (hphase : c.phase = .reading false) (hread : s.modes.mode ≠ .halted → i ∉ s.captureReads) (data : List Byte) :
    (s.lineAssigned i c data).Bounds := by
  have hslots : (s.lineAssigned i c data).capture.slots = (s.capture.setSlot i
      (some { c with phase := .writing data s.ring.head s.ring.headSequence })).slots := rfl
  have hheads : (s.lineAssigned i c data).recordHeads = s.recordHeads ++
      [{ kind := .line, epoch := c.epoch, line := some c.line, slot := s.ring.head, sequence := s.ring.headSequence }] := by
    rw [State.recordHeads_eq, State.recordHeads_eq, List.append_assoc]
    refine congrArg₂ _ rfl ?_
    simp [State.lineAssigned, State.lineRecordWrites]
  have hmarkers : (s.lineAssigned i c data).markerHeads = s.markerHeads := by
    rw [State.markerHeads, hheads, List.filter_append, State.markerHeads]
    simp
  have hcount := State.readingSlots_setSlot hslots
  rw [hslot, slotReading_iff.mpr ⟨false, hphase⟩] at hcount
  have hpromises := h.core.promises
  have hcount : (s.lineAssigned i c data).readingSlots + 1 = s.readingSlots := hcount
  refine ⟨⟨?_, ?_, h.core.loading, h.core.store, h.core.scan, fun hm => ?_⟩, fun hm hno => ?_⟩
  · have hfits := h.core.fits
    show s.ring.used + 1 + (s.ring.promised - 1) ≤ s.size
    omega
  · show s.ring.promised - 1 = _
    omega
  · have hlists := h.core.lists hm
    refine ⟨hlists.once, fun j hj => ?_, ?_, ?_, hmarkers ▸ hlists.markers⟩
    · exact (State.reading_setSlot hslots (ne_of_mem_of_not_mem hj (hread hm))).mpr (hlists.reading j hj)
    · exact hlists.paired.append ⟨fun _ => ⟨rfl, _, _, rfl, rfl, rfl⟩, nofun, trivial⟩
    · obtain ⟨before, after, hold, hkeys⟩ := State.writingKeys_setSlot hslots
      rw [hslot] at hold
      have hnokey : (some c).bind Capture.writingKey = none := by simp [Capture.writingKey, hphase]
      have hlines := hlists.lines
      rw [hold, hnokey] at hlines
      rw [hkeys, State.lineHeads, hheads, List.filter_append, List.map_append]
      have hkept : s.lineHeads.Perm (before ++ after) := by simpa using hlines
      refine (List.perm_append_singleton (s.ring.head, s.ring.headSequence) s.lineHeads).trans ((hkept.cons _).trans ?_)
      rw [List.append_assoc]
      exact List.perm_middle.symm
  · rw [hmarkers]
    exact h.marker hm hno

theorem assignLine_bounds {s : State} (hs : s.EpochShape) (h : s.Bounds) {i : Fin 4} {c : Capture}
    (hslot : s.capture.slots[i] = some c) (hphase : c.phase = .reading false)
    (hread : s.modes.mode ≠ .halted → i ∉ s.captureReads) (data : List Byte) : (assignLine i c data s).Bounds := by
  have hassigned := lineAssigned_bounds h hslot hphase hread data
  rw [assignLine_eq]
  split
  · exact fireTrigger_bounds (hs.same (lineAssigned_sameShape i c data s)) hassigned false
  · exact hassigned

/-- A READING capture, its read answered, is given up: its promise is released (R26, R65, R67). -/
theorem State.Bounds.release {s t : State} (h : s.Bounds) {i : Fin 4} {c : Capture}
    (hslot : s.capture.slots[i] = some c) {cancelled : Bool} (hphase : c.phase = .reading cancelled)
    (hread : s.modes.mode ≠ .halted → i ∉ s.captureReads)
    (hring : t.ring = { s.ring with promised := s.ring.promised - 1 })
    (hslots : t.capture.slots = (s.capture.setSlot i none).slots) (hreads : t.capture.reads = s.capture.reads)
    (hmode : t.modes.mode = s.modes.mode) (hanchor : t.anchor = s.anchor) (hreplay : t.replay = s.replay)
    (hcommit : t.epochs.commit = s.epochs.commit) (hsources : t.journalSources = s.journalSources) : t.Bounds := by
  have hwrites : t.ring.writes = s.ring.writes := by rw [hring]
  have hcaptureReads := State.captureReads_congr hreads hsources
  have hheads := State.recordHeads_congr hwrites hsources
  have hsize : t.size = s.size := by rw [State.size, hanchor, State.size]
  have hcount := State.readingSlots_setSlot hslots
  rw [hslot, slotReading_iff.mpr ⟨cancelled, hphase⟩] at hcount
  have hcount : t.readingSlots + 1 = s.readingSlots := hcount
  have hpromises := h.core.promises
  refine ⟨⟨?_, ?_, by rw [hanchor, hsize]; exact h.core.loading, by rw [hanchor]; exact h.core.store,
    by rw [hreplay, hsize]; exact h.core.scan, fun hm => ?_⟩, fun hm hno => ?_⟩
  · have hfits := h.core.fits
    rw [hring, hsize]
    show s.ring.used + (s.ring.promised - 1) ≤ s.size
    omega
  · rw [hring]
    show s.ring.promised - 1 = _
    omega
  · rw [hmode] at hm
    have hlists := h.core.lists hm
    refine ⟨hcaptureReads ▸ hlists.once, fun j hj => ?_, hwrites ▸ hlists.paired, ?_, ?_⟩
    · rw [hcaptureReads] at hj
      exact (State.reading_setSlot hslots (ne_of_mem_of_not_mem hj (hread hm))).mpr (hlists.reading j hj)
    · obtain ⟨before, after, hold, hkeys⟩ := State.writingKeys_setSlot hslots
      rw [hslot, show (some c).bind Capture.writingKey = none by simp [Capture.writingKey, hphase]] at hold
      rw [hkeys, State.lineHeads, hheads]
      exact hold ▸ hlists.lines
    · rw [State.markerHeads, hheads]
      exact hlists.markers
  · rw [hmode] at hm
    rw [State.markerHeads, hheads]
    refine h.marker hm fun hs => hno ?_
    exact (State.awaitsMarker_congr hcommit (by rw [hreplay]) (by rw [hreplay])).mpr hs

theorem releaseCapture_bounds {s : State} (h : s.Bounds) {i : Fin 4} {c : Capture}
    (hslot : s.capture.slots[i] = some c) {cancelled : Bool} (hphase : c.phase = .reading cancelled)
    (hread : s.modes.mode ≠ .halted → i ∉ s.captureReads) : (releaseCapture i c s).Bounds := by
  refine State.Bounds.work ?_ (updateLow_sameWork _)
  exact h.release hslot hphase hread rfl rfl rfl rfl rfl rfl rfl rfl

/-- A capture runs in a state with its hold entry, or in a rollback; in neither case is the marker of its epoch being
written. -/
theorem State.Counted.marker_elsewhere_of_capture {s : State} (hs : s.EpochShape) (h : s.Counted) {i : Fin 4} {c : Capture}
    (hslot : s.capture.slots[i] = some c) : s.MarkerElsewhere c.epoch := by
  intro q slot sequence hq
  obtain ⟨id, -, e, he, -, hepoch, -⟩ := h.owner (hs.others_of_commit hq).1 hslot
  exact h.marker_elsewhere_of_held he hepoch q slot sequence hq

theorem failCommit_journalSources (n : Word) (s : State) : (failCommit n s).journalSources = s.journalSources := by
  unfold failCommit
  dsimp only
  split
  · rw [setMode_journalSources]
    rfl
  · rfl

theorem reportDamage_journalSources (kind : ErrorKind) (epoch line : Word) (s : State) :
    (reportDamage kind epoch line s).journalSources = s.journalSources := by
  have hlogged := (logError_sameWork kind (some epoch) (some line) none s).sources
  dsimp only [reportDamage]
  split
  · next e _ =>
    split
    · exact hlogged
    · unfold markDamaged
      split
      · exact (failCommit_journalSources _ _).trans hlogged
      · exact hlogged
  · exact hlogged

theorem faultCapture_bounds {s : State} (hs : s.EpochShape) (hc : s.CountsRight) (h : s.Bounds) {i : Fin 4} {c : Capture}
    (hslot : s.capture.slots[i] = some c) {cancelled : Bool} (hphase : c.phase = .reading cancelled)
    (hread : i ∉ s.captureReads) (hmode : s.modes.mode ≠ .halted) : (faultCapture i c s).Bounds := by
  rw [faultCapture_eq_failed]
  have hreported := reportDamage_epochShape hs .captureReadFault c.epoch c.line
  have hdamaged := reportDamage_bounds hs h .captureReadFault c.line
    ((hc.counted hmode).marker_elsewhere_of_capture hs hslot)
  obtain ⟨-, -, -, -, hcapture, -⟩ := reportDamage_untouched .captureReadFault c.epoch c.line s
  have hsources := reportDamage_journalSources .captureReadFault c.epoch c.line s
  generalize reportDamage .captureReadFault c.epoch c.line s = t at *
  have hreads : t.captureReads = s.captureReads := State.captureReads_congr (by rw [hcapture]) hsources
  have hshape (u : CaptureUnit) (ring : RingManager) : (updateLow (t.captureFailed c u ring)).EpochShape :=
    (hreported.same (captureFailed_sameShape c u ring t)).same (updateLow_sameShape _)
  refine noteCapturesSettled_bounds (hshape _ _) (State.Bounds.work ?_ (updateLow_sameWork _))
  exact hdamaged.release (by rw [hcapture]; exact hslot) hphase (fun _ => hreads ▸ hread) rfl rfl rfl rfl rfl rfl rfl rfl

end Sys2Proof.Machine

/-! The bounds of the journal through the records that become durable, the ABORT and the other commands (R64, R78, R88,
R95). -/

namespace Sys2Proof.Machine

-- One theorem at a time: the proofs below would otherwise wait for one another in many threads.
set_option Elab.async false

/-! ### LINE records durable -/

/-- The record of a WRITING capture is durable, and the capture ends (R30, R64). -/
theorem State.Bounds.recordDone {s t : State} (h : s.Bounds) {i : Fin 4} {c : Capture} {info : RecordInfo}
    {contents : List Byte} (hslot : s.capture.slots[i] = some c)
    (hphase : c.phase = .writing contents info.slot info.sequence) (hkind : info.kind = .line)
    (hheads : s.recordHeads = info :: t.recordHeads) (hslots : t.capture.slots = (s.capture.setSlot i none).slots)
    (hreads : t.captureReads = s.captureReads) (hring : t.ring = s.ring) (hmode : t.modes.mode = s.modes.mode)
    (hanchor : t.anchor = s.anchor) (hreplay : t.replay = s.replay) (hcommit : t.epochs.commit = s.epochs.commit) :
    t.Bounds := by
  have hsize : t.size = s.size := by rw [State.size, hanchor, State.size]
  have hmarkers : t.markerHeads = s.markerHeads := by
    rw [State.markerHeads, State.markerHeads, hheads]
    simp [hkind]
  have hkey : (some c).bind Capture.writingKey = some (info.slot, info.sequence) := by
    simp [Capture.writingKey, hphase]
  have hnotReading : slotReading (some c) = false := by simp [slotReading, Capture.writingKey, hphase]
  have hcount := State.readingSlots_setSlot hslots
  rw [hslot, hnotReading] at hcount
  have hcount : t.readingSlots = s.readingSlots := hcount
  refine ⟨⟨by rw [hring, hsize]; exact h.core.fits, by rw [hring, hcount]; exact h.core.promises,
    by rw [hanchor, hsize]; exact h.core.loading, by rw [hanchor]; exact h.core.store,
    by rw [hreplay, hsize]; exact h.core.scan, fun hm => ?_⟩, fun hm hno => ?_⟩
  · rw [hmode] at hm
    have hlists := h.core.lists hm
    refine ⟨hreads ▸ hlists.once, fun j hj => ?_, hring ▸ hlists.paired, ?_, hmarkers ▸ hlists.markers⟩
    · rw [hreads] at hj
      have hreading := hlists.reading j hj
      have hne : j ≠ i := by
        rintro rfl
        obtain ⟨d, cancelled, hd, hreading⟩ := hreading
        cases hslot.symm.trans hd
        cases hphase.symm.trans hreading
      exact (State.reading_setSlot hslots hne).mpr hreading
    · obtain ⟨before, after, hold, hkeys⟩ := State.writingKeys_setSlot hslots
      rw [hslot, hkey] at hold
      have hlines : ((info.slot, info.sequence) :: t.lineHeads).Perm (before ++ (info.slot, info.sequence) :: after) := by
        have hs := hlists.lines
        rw [hold, State.lineHeads, hheads] at hs
        simpa [hkind, State.lineHeads] using hs
      rw [hkeys]
      simpa using (hlines.trans List.perm_middle).cons_inv
  · rw [hmode] at hm
    rw [hmarkers]
    exact h.marker hm fun hs => hno ((State.awaitsMarker_congr hcommit (by rw [hreplay]) (by rw [hreplay])).mpr hs)

/-- A record whose head write is answered is that of a capture. -/
theorem State.Lists.ofRecord_isSome {s : State} (h : s.Lists) {info : RecordInfo} (hmem : info ∈ s.recordHeads)
    (hkind : info.kind = .line) : (s.capture.ofRecord info).isSome = true := by
  have hkey : (info.slot, info.sequence) ∈ s.writingKeys :=
    h.lines.mem_iff.mp (List.mem_map.mpr ⟨info, List.mem_filter.mpr ⟨hmem, by simp [hkind]⟩, rfl⟩)
  obtain ⟨x, hx, hkey⟩ := List.mem_filterMap.mp hkey
  obtain ⟨c, rfl, hwriting⟩ := Option.bind_eq_some_iff.mp hkey
  obtain ⟨i, hi, hslot⟩ := Vector.mem_iff_getElem.mp (Vector.mem_toList_iff.mp hx)
  have hslot : s.capture.slots[(⟨i, hi⟩ : Fin 4)] = some c := hslot
  have horder : (⟨i, hi⟩ : Fin 4) ∈ slotOrder := by
    generalize (⟨i, hi⟩ : Fin 4) = j
    revert j
    decide
  refine List.findSome?_isSome_iff.mpr ⟨⟨i, hi⟩, horder, ?_⟩
  simp only [hslot]
  unfold Capture.writingKey at hwriting
  cases hphase : c.phase with
  | reading _ => simp [hphase] at hwriting
  | writing contents slot sequence =>
    rw [hphase] at hwriting
    cases hwriting
    simp

/-! ### Markers durable -/

/-- With no marker being written the core is all, before and after. -/
theorem State.Core.cleared {s t : State} (h : s.Core) (hnil : s.modes.mode ≠ .halted → s.markerHeads = [])
    (hmore : s.NoMore t) : t.Bounds := by
  refine ⟨h.noMore hmore, fun hm _ => ?_⟩
  rw [hmore.markerHeads]
  exact hnil (hmore.mode hm)

/-- The head write of a marker that is answered leaves no other. -/
theorem State.Awaits.marker_core {s : State} {e : MemoryEntry} {rest : List MemoryEntry} (ha : s.Awaits e rest)
    (h : s.Bounds) {info : RecordInfo} (hsource : e.source = .recordWrite info true) (hkind : info.kind ≠ .line) :
    (s.answered rest).Core ∧ (s.modes.mode ≠ .halted → (s.answered rest).markerHeads = []) := by
  have hheads : s.recordHeads = info :: (s.answered rest).recordHeads := by rw [ha.recordHeads, hsource]; rfl
  have hmarkers : s.markerHeads = info :: (s.answered rest).markerHeads := by
    rw [State.markerHeads, hheads, State.markerHeads]
    simp [hkind]
  have hreads : (s.answered rest).captureReads = s.captureReads := by
    rw [State.captureReads_eq, State.captureReads_eq, ha.journalSources, hsource]
    rfl
  have hnil (hm : s.modes.mode ≠ .halted) : (s.answered rest).markerHeads = [] := by
    have hone := (h.core.lists hm).markers
    rw [hmarkers, List.length_cons] at hone
    exact List.length_eq_zero_iff.mp (by omega)
  refine ⟨⟨h.core.fits, h.core.promises, h.core.loading, h.core.store, h.core.scan, fun hm => ?_⟩, hnil⟩
  obtain ⟨honce, hreading, hpaired, hlines, -⟩ := h.core.lists hm
  refine ⟨hreads ▸ honce, hreads ▸ hreading, hpaired, ?_, by rw [hnil hm]; exact Nat.zero_le _⟩
  have hkept : (s.answered rest).lineHeads = s.lineHeads := by
    rw [State.lineHeads, State.lineHeads, hheads]
    simp [hkind]
  rw [hkept]
  exact hlines

theorem commitPoint_bounds {s : State} (hs : s.EpochShape) (h : s.Core)
    (hnil : s.modes.mode ≠ .halted → s.markerHeads = []) (info : RecordInfo) : (commitPoint info s).Bounds := by
  unfold commitPoint
  split
  · next q hq =>
    split
    · have hclosed : s.NoMore (requestUpdate (bump .commits (raise .commitDone (s.setEpochs (s.epochs.committed q))))) :=
        ((setEpochs_noMore _ s).trans ((raise_sameWork _ _).trans (bump_sameWork _ _)).noMore).trans (requestUpdate_noMore _)
      have hshape := (committed_epochShape hs hq).same ((commitNoticed_sameShape _).trans (requestUpdate_sameShape _))
      dsimp only
      split_ifs
      · exact reexamine_bounds hshape (h.cleared hnil hclosed)
      · exact h.cleared hnil hclosed
    · exact h.cleared hnil (.refl s)
  · exact h.cleared hnil (.refl s)

theorem endRollback_noMore (r : Rollback) (s : State) : s.NoMore (endRollback r s) := by
  have hended : s.NoMore ((s.setEpochs { s.epochs with closedThrough := r.highest, table := ⟨none, none⟩ }).setRollback
      none) := (setEpochs_noMore _ s).trans (setReplay_noMore rfl)
  exact ((hended.trans (openEpoch_noMore _ _)).trans (requestUpdate_noMore _)).trans
    ((raise_sameWork _ _).trans (bump_sameWork _ _)).noMore

theorem closeDurable_bounds {s : State} (h : s.Core) (hnil : s.modes.mode ≠ .halted → s.markerHeads = [])
    (info : RecordInfo) : (closeDurable info s).Bounds := by
  have hkept : s.Bounds := h.cleared hnil (.refl s)
  unfold closeDurable
  split
  · split
    · exact h.cleared hnil (endRollback_noMore _ s)
    · exact hkept
  · split
    · exact h.cleared hnil (anchorRecovery_noMore _ _ s)
    · exact hkept
  · exact hkept

/-- The head write of a record is answered DONE (R30, R64, R78, R95, R102). -/
theorem recordDurable_bounds {s : State} (hs : s.EpochShape) (h : s.Bounds) {e : MemoryEntry} {rest : List MemoryEntry}
    (ha : s.Awaits e rest) {info : RecordInfo} (hsource : e.source = .recordWrite info true) :
    (recordDurable info (s.answered rest)).Bounds := by
  have hshape : (bump .records (s.answered rest)).EpochShape := hs.same (.of_eq rfl rfl rfl rfl)
  by_cases hmode : s.modes.mode = .halted
  · rw [recordDurable_of_halted (by exact hmode)]
    exact h.core.setMemory_of_halted hmode _
  · have hheads : s.recordHeads = info :: (s.answered rest).recordHeads := by rw [ha.recordHeads, hsource]; rfl
    cases hkind : info.kind with
    | line =>
      have hsome := (h.core.lists hmode).ofRecord_isSome (by rw [hheads]; exact List.mem_cons_self) hkind
      obtain ⟨⟨i, c⟩, hof⟩ := Option.isSome_iff_exists.mp hsome
      obtain ⟨hslot, contents, hphase⟩ := CaptureUnit.ofRecord_some hof
      rw [recordDurable_of_line (by exact hmode) hkind (by exact hof)]
      have hreads : (s.answered rest).captureReads = s.captureReads := by
        rw [State.captureReads_eq, State.captureReads_eq, ha.journalSources, hsource]
        rfl
      exact noteCapturesSettled_bounds (hshape.same (.of_eq rfl rfl rfl rfl))
        (h.recordDone hslot hphase hkind hheads rfl hreads rfl rfl rfl rfl rfl)
    | commit =>
      rw [recordDurable_of_commit (by exact hmode) hkind]
      obtain ⟨hcore, hnil⟩ := ha.marker_core h hsource (by simp [hkind])
      exact commitPoint_bounds hshape (hcore.work (bump_sameWork _ _)) hnil info
    | close =>
      rw [recordDurable_of_close (by exact hmode) hkind]
      obtain ⟨hcore, hnil⟩ := ha.marker_core h hsource (by simp [hkind])
      exact closeDurable_bounds (hcore.work (bump_sameWork _ _)) hnil info

end Sys2Proof.Machine

/-! The bounds of the journal through the other commands and faults, and through every step (R24, R29, R62). -/

namespace Sys2Proof.Machine

-- One theorem at a time: the proofs below would otherwise wait for one another in many threads.
set_option Elab.async false

/-! ### The ABORT and the other commands -/

theorem CaptureUnit.abort_toList (u : CaptureUnit) (aborted : List Word) :
    (u.abort aborted).slots.toList = u.slots.toList.map (Option.map Capture.cancel) := by
  refine List.ext_getElem (by simp) fun i hi hi' => ?_
  have hlt : i < 4 := by simpa using hi
  simpa using u.abort_slot aborted ⟨i, hlt⟩

theorem Capture.cancel_writingKey (c : Capture) : c.cancel.writingKey = c.writingKey := by
  cases hphase : c.phase <;> simp [Capture.cancel, Capture.writingKey, hphase]

/-- Each capture goes on as READING or WRITING as it was (R67, R68). -/
theorem abortBlocks_bounds {s : State} (h : s.Bounds) (hno : ¬ s.AwaitsMarker) : (abortBlocks s).Bounds := by
  have hcancel : ∀ x : Option Capture, (x.map Capture.cancel).bind Capture.writingKey = x.bind Capture.writingKey := by
    rintro (_ | c)
    · rfl
    · exact c.cancel_writingKey
  have hreading : ∀ x : Option Capture, slotReading (x.map Capture.cancel) = slotReading x := by
    rintro (_ | c)
    · rfl
    · exact congrArg Option.isNone c.cancel_writingKey
  have hlist := s.capture.abort_toList (s.epochs.table.epochs.map (·.number))
  have hcount : (abortBlocks s).readingSlots = s.readingSlots := by
    refine (congrArg (List.countP slotReading) hlist).trans ?_
    rw [List.countP_map]
    exact congrArg (fun p => List.countP p _) (funext hreading)
  have hkeys : (abortBlocks s).writingKeys = s.writingKeys := by
    refine (congrArg (List.filterMap _) hlist).trans ?_
    rw [List.filterMap_map]
    exact congrArg (fun f => List.filterMap f _) (funext hcancel)
  refine h.of_quiet hno id rfl ⟨h.core.fits, h.core.promises.trans hcount.symm, h.core.loading, h.core.store, h.core.scan,
    fun hm => ?_⟩
  obtain ⟨honce, hreading, hpaired, hlines, hmarkers⟩ := h.core.lists hm
  refine ⟨honce, fun i hi => ?_, hpaired, hkeys ▸ hlines, hmarkers⟩
  obtain ⟨c, cancelled, hslot, hphase⟩ := hreading i hi
  refine ⟨c.cancel, true, ?_, by simp [Capture.cancel, hphase]⟩
  rw [show (abortBlocks s).capture.slots[i] = s.capture.slots[i].map Capture.cancel from s.capture.abort_slot _ i, hslot]
  rfl

theorem startRollback_bounds {s : State} (hs : s.EpochShape) (h : s.Bounds) (hmode : s.modes.mode = .active)
    (hroll : s.rollingBack = false) (hcommitting : s.epochs.table.has .committing = false) : (startRollback s).Bounds := by
  obtain ⟨hr, -, hcommit⟩ := hs.commit_none hmode hroll hcommitting
  have hno := State.not_awaits_of_none hcommit hr (hs.recovery_none (by simp [hmode]))
  rw [startRollback_eq_notices]
  have hshape := (abortBlocks_epochShape hs hmode hroll hcommitting).same
    (abortBegun_sameShape _ fun d => ((abortBlocks s).anchor.working.classify d.line).1 == .journal)
  have hbounds := ((abortBlocks_bounds h hno).work
    (discardDeferred_sameWork (fun d => ((abortBlocks s).anchor.working.classify d.line).1 == .journal) _)).work
      (rejudge_sameWork _)
  exact noteEpochsDrained_bounds (noteCapturesSettled_epochShape hshape) (noteCapturesSettled_bounds hshape hbounds)

/-- In QUIESCED and BYPASS no sequence waits for a marker. -/
theorem State.EpochShape.not_awaits_of_idle {s : State} (h : s.EpochShape)
    (hmode : s.modes.mode = .quiesced ∨ s.modes.mode = .bypass) : ¬ s.AwaitsMarker :=
  have hactive : s.modes.mode ≠ .active := by rintro h; simp [h] at hmode
  State.not_awaits_of_none (h.empty hactive (by rintro h; simp [h] at hmode)).2 (h.rollback_none hactive)
    (h.recovery_none (by rintro h; simp [h] at hmode))

theorem resumeActive_bounds {s : State} (hs : s.EpochShape) (h : s.Bounds)
    (hmode : s.modes.mode = .quiesced ∨ s.modes.mode = .bypass) : (resumeActive s).Bounds := by
  have hrunning : s.modes.mode ≠ .halted := by rintro h; simp [h] at hmode
  have hcause : s.NoMore (s.setModes { s.modes with
      cause := if s.modes.mode = .bypass then .none else s.modes.cause }) := { State.NoMore.refl s with }
  exact h.noMore_of_quiet (hs.not_awaits_of_idle hmode)
    ((hcause.trans (openEpoch_noMore _ _)).trans (setMode_noMore (by exact hrunning) _))

theorem setBypass_bounds {s : State} (hs : s.EpochShape) (h : s.Bounds) (hmode : s.modes.mode = .quiesced) :
    (setMode .bypass s).Bounds :=
  h.noMore_of_quiet (hs.not_awaits_of_idle (.inl hmode)) (setMode_noMore (by simp [hmode]) _)

/-- A STORE carries the ring of a valid configuration (R143). -/
theorem startStore_bounds {s : State} (h : s.Bounds) {base : Word} (hvalid : s.management.pending.valid base = true) :
    (startStore s).Bounds := by
  refine ⟨⟨h.core.fits, h.core.promises, h.core.loading, fun c hc => ?_, h.core.scan, fun hm => ?_⟩, h.marker⟩
  · cases hc
    exact Configuration.slots_of_valid hvalid
  · obtain ⟨honce, hreading, hpaired, hlines, hmarkers⟩ := h.core.lists hm
    exact ⟨honce, hreading, hpaired, hlines, hmarkers⟩

theorem thaw_bounds {s : State} (hs : s.EpochShape) (h : s.Bounds) : (thaw s).Bounds := by
  have hclear : (s.setModes { s.modes with freeze := false }).Bounds := h.work (setModes_sameWork rfl)
  dsimp only [thaw]
  split
  · exact updateSpace_bounds (reexamine_epochShape (setMode_freeze_epochShape hs _))
      (reexamine_bounds (setMode_freeze_epochShape hs _) hclear)
  · exact hclear

/-! ### Faults -/

/-- A record write that fails halts the bridge, whatever it wrote (R30, R66). -/
theorem recordFaulted_bounds {s : State} (h : s.Bounds) (info : RecordInfo) (rest : List MemoryEntry) :
    (recordFaulted info (s.answered rest)).Bounds := by
  have hhalts (hm : s.modes.mode ≠ .halted) (kind : ErrorKind) (cause : Cause) :
      (halt cause (logError kind (some info.epoch) info.line (some info.slot) (s.answered rest))).Bounds := by
    refine State.Core.bounds_of_halted (halt_core_of_running ?_ ?_ ?_ cause) (halt_mode cause _)
    · simpa [State.answered] using hm
    · simpa [State.size, State.answered] using h.core.fits
    · simpa [State.answered] using h.core.store
  unfold recordFaulted
  split_ifs with hmode
  · exact h.core.setMemory_of_halted hmode _
  · exact hhalts hmode _ _
  · exact hhalts hmode _ _

/-- What stands while the ISSUED entries are ended after a timeout (R115, R116). -/
structure State.Ending (s : State) : Prop where
  shape : s.EpochShape
  quiet : s.HaltQuiet
  halted : s.modes.mode = .halted
  bounds : s.Bounds

theorem endTimedOut_ending {s : State} (h : s.Ending) (e : MemoryEntry) : (endTimedOut s e).Ending := by
  have hkeeps := foldl_endTimedOut_keepsHalt [e] s
  refine ⟨endTimedOut_epochShape h.shape e, hkeeps.quiet h.quiet, (hkeeps.stands h.quiet h.halted).1, ?_⟩
  unfold endTimedOut
  split
  · exact h.bounds.work .of_eq
  · split
    · exact h.bounds
    · exact h.bounds.work .of_eq
  · exact anchorLineAnswered_bounds h.shape (State.countsRight_of_halted h.halted) h.bounds _ _
  all_goals exact h.bounds

theorem timeOut_bounds {s : State} (hs : s.EpochShape) (hq : s.HaltQuiet) (h : s.Bounds) : (timeOut s).Bounds := by
  have hfold (ended : List MemoryEntry) {u : State} (hu : u.Ending) : (ended.foldl endTimedOut u).Ending := by
    induction ended generalizing u with
    | nil => exact hu
    | cons e rest ih => exact ih (endTimedOut_ending hu e)
  unfold timeOut
  split
  · exact h
  · next e _ =>
    have hhalted := halt_mode .memoryTimeout (logError .memoryTimeout none (some e.line) e.source.ringSlot s)
    have hbounds := logError_halt_bounds h.core .memoryTimeout none (some e.line) e.source.ringSlot .memoryTimeout
    have hshape := logError_halt_epochShape hs .memoryTimeout .memoryTimeout none (some e.line) e.source.ringSlot
    have hquiet := (logError_halt_keepsHalt .memoryTimeout .memoryTimeout none (some e.line) e.source.ringSlot s).quiet hq
    dsimp only
    generalize halt .memoryTimeout (logError .memoryTimeout none (some e.line) e.source.ringSlot s) = u at *
    have hending (m : MemoryPort) : (u.setMemory m).Ending :=
      ⟨hshape.same (.of_eq rfl rfl rfl rfl), (setMemory_keepsHalt m u).quiet hquiet, hhalted,
        hbounds.core.setMemory_of_halted hhalted m⟩
    exact (hfold _ (hending _)).bounds

/-! ### Every move and every step -/

theorem Moves.bounds {s t : State} (hmove : Moves s t) (hs : s.EpochShape) (hq : s.HaltQuiet) (hc : s.CountsRight)
    (h : s.Bounds) : t.Bounds := by
  have hspace {u : State} (hu : u.EpochShape) (hu' : u.Bounds) : (updateSpace u).Bounds := updateSpace_bounds hu hu'
  have hcommand {u : State} (hu : u.Bounds) : (respond .ok [] u).Bounds := hu.work (respond_sameWork _ _ u)
  have hanswered (rest : List MemoryEntry) : (s.answered rest).EpochShape := hs.same (.of_eq rfl rfl rfl rfl)
  have hother {e : MemoryEntry} {rest : List MemoryEntry} (ha : s.Awaits e rest) (hread : e.source.asCaptureRead = none)
      (hhead : e.source.asRecordHead = none) : (s.answered rest).Bounds := ha.bounds h hread hhead
  have hcounts {e : MemoryEntry} {rest : List MemoryEntry} (ha : s.Awaits e rest) (he : e.source.asDataWrite = none) :
      (s.answered rest).CountsRight := hc.same (ha.sameCounts he)
  have hpins (p : Pins) : (s.setPins p).Bounds := h.work (setPins_sameWork p s)
  /- A capture runs outside HALTED only. -/
  have hrunning {i : Fin 4} {c : Capture} (hslot : s.capture.slots[i] = some c) : s.modes.mode ≠ .halted := by
    intro hmode
    obtain ⟨-, -, -, -, -, -, -, -, -, hslots, -⟩ := hq hmode
    rw [hslots] at hslot
    fin_cases i <;> cases hslot
  cases hmove with
  | idle => exact h
  | ticked => exact h.work (elapse_sameWork 1 s)
  | refused a => exact h.work .of_eq
  | readForwarded r => exact h.work .of_eq
  | writeOffered r journaled => exact hspace (hs.same (offerWrite_sameShape r journaled s)) (offerWrite_bounds h r _)
  | waitingTaken r journaled => exact hspace (hs.same (takeWrite_sameShape r journaled s)) (takeWrite_bounds h r _)
  | lineCleared line => exact h.work (clearLine_sameWork line s)
  | waitExpired => exact h.work (expireWait_sameWork s)
  | deferredExpired i => exact h.work (expireDeferred_sameWork i s)
  | captureOffered => exact offerCapture_bounds hs h
  | headReleased hgrant =>
    exact hspace (hs.same (releaseHead_sameShape s)) (releaseHead_bounds h (holdSide_of_arbiter hgrant))
  | hostReadGranted => exact h.work (grantHostRead_sameWork s)
  | fetchGranted i => exact h.work (grantFetch_sameWork i s)
  | captureGranted => exact grantCapture_bounds h
  | recordGranted => exact grantRecord_bounds h
  | anchorGranted => exact h.work (grantAnchor_sameWork s)
  | replayGranted => exact h.work (grantReplay_sameWork s)
  | issued => exact h.work (issue_sameWork s)
  | hostReadAnswer ha hsource a => exact (hother ha (by rw [hsource]; rfl) (by rw [hsource]; rfl)).work .of_eq
  | fetchDropped ha hsource => exact hother ha (by rw [hsource]; rfl) (by rw [hsource]; rfl)
  | fetchAnswer ha hsource a => exact (hother ha (by rw [hsource]; rfl) (by rw [hsource]; rfl)).work .of_eq
  | dataWriteAnswer ha hsource a =>
    exact hspace (dataWriteAnswered_epochShape (hanswered _) a _ _) (dataWriteAnswered_bounds hs hc h ha hsource a)
  | passWriteAnswer ha hsource a =>
    exact (hother ha (by rw [hsource]; rfl) (by rw [hsource]; rfl)).work (passWriteAnswered_sameWork a _ _)
  | captureDropped ha hsource => exact (ha.captureRead_bounds h hsource).1
  | captureDone ha hsource hslot hphase data =>
    obtain ⟨hleft, hread⟩ := ha.captureRead_bounds h hsource
    exact hspace (assignLine_epochShape (hanswered _) _ _ data)
      (assignLine_bounds (hanswered _) hleft hslot hphase hread data)
  | captureFault ha hsource hslot hphase =>
    obtain ⟨hleft, hread⟩ := ha.captureRead_bounds h hsource
    exact hspace (faultCapture_epochShape (hanswered _) _ _) (faultCapture_bounds (hanswered _)
      (hcounts ha (by rw [hsource]; rfl)) hleft hslot hphase (hread (hrunning hslot)) (hrunning hslot))
  | @captureCancelled e rest ha i hsource c hslot hphase =>
    obtain ⟨hleft, hread⟩ := ha.captureRead_bounds h hsource
    have hreleased := (hanswered rest).same (releaseCapture_sameShape i c _)
    exact hspace (noteCapturesSettled_epochShape hreleased)
      (noteCapturesSettled_bounds hreleased (releaseCapture_bounds hleft hslot hphase hread))
  | recordHeadDone ha hsource =>
    exact hspace (recordDurable_epochShape (hanswered _) _) (recordDurable_bounds hs h ha hsource)
  | recordBodyDone ha hsource => exact hother ha (by rw [hsource]; rfl) (by rw [hsource]; rfl)
  | recordFault => exact hspace (recordFaulted_epochShape (hanswered _) _) (recordFaulted_bounds h _ _)
  | firstAnchorLine ha hsource a =>
    exact anchorLineAnswered_bounds (hanswered _) (hcounts ha (by rw [hsource]; rfl))
      (hother ha (by rw [hsource]; rfl) (by rw [hsource]; rfl)) _ a
  | secondAnchorLine ha hsource a =>
    exact hspace (anchorLineAnswered_epochShape (hanswered _) _ a) (anchorLineAnswered_bounds (hanswered _)
      (hcounts ha (by rw [hsource]; rfl)) (hother ha (by rw [hsource]; rfl) (by rw [hsource]; rfl)) _ a)
  | anchorReadAnswer ha hsource a =>
    exact hspace (anchorReadAnswered_epochShape (hanswered _) a) (anchorReadAnswered_bounds (hanswered _)
      (hcounts ha (by rw [hsource]; rfl)) (hother ha (by rw [hsource]; rfl) (by rw [hsource]; rfl)) a)
  | replayHeadAnswer ha hsource a =>
    exact hspace (replayHeadAnswered_epochShape (hanswered _) a _)
      (replayHeadAnswered_bounds (hother ha (by rw [hsource]; rfl) (by rw [hsource]; rfl)) a _)
  | replayBodyAnswer ha hsource a =>
    exact hspace (replayBodyAnswered_epochShape (hanswered _) a _) (replayBodyAnswered_bounds (hanswered _)
      (hcounts ha (by rw [hsource]; rfl)) (hother ha (by rw [hsource]; rfl) (by rw [hsource]; rfl)) a _)
  | restoreAnswer ha hsource a =>
    exact hspace (restoreAnswered_epochShape (hanswered _) a _ _ _)
      (restoreAnswered_bounds (hanswered _) (hother ha (by rw [hsource]; rfl) (by rw [hsource]; rfl)) a _ _ _)
  | timedOut _ moment =>
    exact hspace (timeOut_epochShape (elapsedTo_epochShape hs moment)) (timeOut_bounds (elapsedTo_epochShape hs moment)
      ((elapse_keepsHalt _ s).quiet hq) (h.work (elapseTo_sameWork moment s)))
  | unfit => exact hspace (timeOut_epochShape hs) (timeOut_bounds hs hq h)
  | ageExpired moment =>
    exact hspace (fireTrigger_epochShape (elapsedTo_epochShape hs moment) _)
      (fireTrigger_bounds (elapsedTo_epochShape hs moment) (h.work (elapseTo_sameWork moment s)) _)
  | managed m => exact h.work (setManagement_sameWork m s)
  | emptyCommitted e hjudge => exact hcommand (hspace (commitEmpty_epochShape hs hjudge) (commitEmpty_bounds hs h hjudge))
  | commitStarted e hjudge => exact hcommand (hspace (commitOpen_epochShape hs hjudge) (commitOpen_bounds hs h hjudge))
  | emptyQuiesced e hjudge =>
    exact hcommand (hspace (quiesceEmpty_epochShape hs hjudge) (quiesceEmpty_bounds hs h hjudge))
  | quiesceStarted e hjudge =>
    exact hcommand (hspace (quiesceOpen_epochShape hs hjudge) (quiesceOpen_bounds hs h hjudge))
  | aborted hmode hroll hcommitting =>
    exact hcommand (hspace (startRollback_epochShape hs hmode hroll hcommitting)
      (startRollback_bounds hs h hmode hroll hcommitting))
  | resumed hmode => exact hcommand (hspace (resumeActive_epochShape hs hmode) (resumeActive_bounds hs h hmode))
  | bypassed hmode => exact hcommand (setBypass_bounds hs h hmode)
  | storeStarted _ hvalid => exact hcommand (startStore_bounds h hvalid)
  | pinned p => exact hpins p
  | frozen p =>
    exact ((hpins p).work (setModes_sameWork (x := { s.modes with freeze := true }) rfl)).work (rejudge_sameWork _)
  | thawed p => exact thaw_bounds (hs.same (.of_eq rfl rfl rfl rfl)) (hpins p)
  | resetAsserted m p => exact (h.work (setManagement_sameWork m s)).work (setPins_sameWork p _)

/-! ### The bounds in numbers -/

theorem State.writingKeys_length (s : State) : s.writingKeys.length ≤ 4 :=
  Nat.le_trans (List.length_filterMap_le _ _) (Nat.le_of_eq (by simp))

/-- At most the body and head writes of four LINE records, and one marker (R29). -/
theorem State.Lists.writes_length {s : State} (h : s.Lists) : s.ring.writes.length ≤ 9 := by
  have hheads : (headsOf s.ring.writes).Sublist s.recordHeads := by
    rw [State.recordHeads_eq]
    exact List.sublist_append_right _ _
  have hlines : ((headsOf s.ring.writes).filter fun x => x.kind == .line).length ≤ 4 :=
    calc ((headsOf s.ring.writes).filter fun x => x.kind == .line).length
      _ ≤ (s.recordHeads.filter fun x => x.kind == .line).length := (hheads.filter _).length_le
      _ = s.lineHeads.length := (List.length_map _).symm
      _ = s.writingKeys.length := h.lines.length_eq
      _ ≤ 4 := s.writingKeys_length
  have hmarkers : ((headsOf s.ring.writes).filter fun x => x.kind != .line).length ≤ 1 :=
    Nat.le_trans (hheads.filter _).length_le h.markers
  have hpaired := h.paired.length_le
  omega

/-- At most one read for each capture slot (R62). -/
theorem State.Lists.reads_length {s : State} (h : s.Lists) : s.capture.reads.length ≤ 4 := by
  have honce : s.capture.reads.Nodup := by
    have := h.once
    rw [State.captureReads_eq] at this
    exact (List.nodup_append.mp this).1
  simpa using honce.length_le_card

theorem State.Core.promised_le {s : State} (h : s.Core) : s.ring.promised ≤ 4 := by
  rw [h.promises]
  exact Nat.le_trans List.countP_le_length (Nat.le_of_eq (by simp))

/-- Settles O58: each block keeps its own part of the bounds, each move is of a few blocks, and the lists are as long as
what is counted in them. -/
theorem journalBoundsKept : Obligations.JournalBoundsKept := by
  refine ⟨fun s t hs hq hc hb hnext => ?_, fun s hq hb => ?_⟩
  · obtain ⟨rest, hmove⟩ | ⟨straps, csLow, rest, -, rfl⟩ := step_moves hnext
    · exact (State.journalBounds_iff _).mpr (hmove.bounds hs hq hc ((State.journalBounds_iff _).mp hb))
    · exact afterReset_journalBounds _ _ _ _
  · have hcore := ((State.journalBounds_iff s).mp hb).core
    refine ⟨hcore.fits, hcore.promised_le, ?_⟩
    by_cases hmode : s.modes.mode = .halted
    · obtain ⟨-, -, -, -, -, hwrites, -, -, -, -, hreads, -⟩ := hq hmode
      rw [hwrites, hreads]
      exact ⟨Nat.zero_le _, Nat.zero_le _⟩
    · have hlists := hcore.lists hmode
      exact ⟨hlists.writes_length, hlists.reads_length⟩

end Sys2Proof.Machine
